-- ==== Sys2Proof/Word.lean ====
section
/-! DEFINITION. The smallest units of the station loop: a byte, and the forms a number of the manual takes. -/

namespace Sys2Proof

/-- A byte of a cell or of a table entry (02, "Cell and record layouts"). -/
abbrev Byte := BitVec 8

/-- A 16-bit word: a sheet word, a balance, a check word (R17, R71). -/
abbrev Word16 := BitVec 16

end Sys2Proof
end

