-- ==== Sys2Proof/Config.lean ====
section
/-! DEFINITION. What the part fixes (capacities and limits the manual states) and the two values the manual leaves open. -/

namespace Sys2Proof.Config

/-- Records the account queue holds (R57). -/
def accountCapacity : Nat := 256
/-- Entries the pull list holds (R66). -/
def pullCapacity : Nat := 320
/-- Records the outcome queue holds (R163). -/
def outcomeCapacity : Nat := 512
/-- The occupancy at which a QUEUE LEVEL notice is asked for (R164). -/
def queueLevel : Nat := 384
/-- Cells in the forward buffer (R18). -/
def forwardCapacity : Nat := 4
/-- Cells in the management input queue (R25). -/
def mgmtCapacity : Nat := 8
/-- Cells in the order queue (R20). -/
def orderCapacity : Nat := 32
/-- Cells in the reply queue (R20). -/
def replyCapacity : Nat := 8
/-- Cells in the notice queue (R31). -/
def noticeCapacity : Nat := 16
/-- Sheets in a set's list (R71). -/
def sheetCapacity : Nat := 24
/-- Items one FETCH sends at most (R167). -/
def fetchLimit : Nat := 8
/-- Entries of a valid pitch-rate meter (R10). -/
def meterEntries : Nat := 8
/-- The longest period entry, in 10 us units (R10). -/
def periodMax : Nat := 65535
/-- The emergency-stop release filter: 20 ms in 10 us units (R15). -/
def releaseTime : Nat := 2000
/-- The roll timer: 10 ms in 10 us units (R21). -/
def rollTime : Nat := 1000
/-- One step of the recovery hold: 100 ms in 10 us units (R158). -/
def holdStep : Nat := 10000
/-- Clean pitches that forgive the retries (R151). -/
def cleanPitches : Nat := 500
/-- The largest sequence number (R54). -/
def seqMax : Nat := 16777215
/-- The largest value of a run counter or loop counter (R34, R168). -/
def counterMax : Nat := 4294967295
/-- The phase counter's upper limit while the line profile is not VALID (R2). -/
def phaseLimitNoProfile : Nat := 1023
/-- "No index" in a COMMIT reply and in the table state item (R39, R52). -/
def noIndex : Nat := 65535

/-- FREE VALUE (log 35). The expected seq that an ORDER refusal reports when the tail sequence is 16,777,215 and no seq can
follow it: R55 asks for the expected seq in the reply and states none. -/
opaque seqAfterLast (draw : Nat) : BitVec 24

/-- FREE VALUE (log 23). Which of the four states a STATUS reports whose state byte is not 1 to 4: its layout codes no such byte, and
no rule says what the part records. -/
opaque statusOther (code : Nat) : Fin 4

end Sys2Proof.Config
end

