-- ==== Sys2Proof/Syntax.lean ====
section
/-! DEFINITION. The commands of the block: one constructor for each row of spec/opcode_table.json, and the data they carry. -/

namespace Sys2Proof

/-- Bytes 0 to 17 of a cell of the station loop (02, "Cell"); bytes 18 and 19 are computed from them (R17). -/
structure Cell where
  /-- byte 0, the destination address -/
  dest : Byte
  /-- byte 1, the source address -/
  src : Byte
  /-- byte 2: bits 0 to 6 the kind code, bit 7 the passed flag -/
  kind : Byte
  /-- byte 3 -/
  tag : Byte
  /-- bytes 4 to 17 -/
  payload : List Byte
  deriving DecidableEq, Repr, Inhabited

/-- The state a station's STATUS reports (02, "Station payloads"). -/
inductive StationState where
  | ready | empty | jam | fault
  deriving DecidableEq, Repr, Inhabited

/-- The five units that act on a pitch notice (R4, R59). -/
inductive Receiver where
  | track | collation | account | line | loop
  deriving DecidableEq, Repr, Inhabited

/-- The commands. Each is one whole step of the part. The request rows (load to noticeMask) are the dispatcher's taking of the
oldest management cell, whose fields are in that cell (R25, log 9). -/
inductive Instr where
  /-- RESET_N falls, or power-up (R16). -/
  | coldReset
  /-- A rising edge of PITCH (R3). `elapsed`: the time since the last command in 10 us units (log 5). `order`: the order in
  which the five units take the pitch notice, each once; those it leaves out come after (R4 gives no order; log 6). -/
  | pitchMark (elapsed : Nat) (order : List Receiver)
  /-- A rising edge of INDEX (R5). -/
  | index
  /-- PHASE_A and PHASE_B take these levels (R8). -/
  | encoderStep (a b : Bool)
  /-- A fall of ESTOP_N (R15). -/
  | estopAssert
  /-- A rise of ESTOP_N (R15). -/
  | estopRise
  /-- The end of the 20 ms release timer (R15). -/
  | estopReleaseTimerExpiry
  /-- The open period reaches 65,535 units (R10). -/
  | meterStallEntry
  /-- The index search count stands at POCKETS+2 (R7). -/
  | indexSearchExpiry
  /-- A set's pitches since order stand at its deadline (R80). -/
  | setDeadlineExpiry
  /-- The 500th clean pitch (R151). -/
  | cleanPitchCountExpiry
  /-- The end of the recovery hold (R158). -/
  | recoveryHoldExpiry
  /-- The end of the 10 ms roll timer (R21). -/
  | rollTimerExpiry
  /-- A cell arrives whose bytes 18 and 19 are `crc`, not its CRC (R17). -/
  | crcErrorDiscard (c : Cell) (crc : Word16)
  /-- A good cell whose destination is not 0 (R18). -/
  | forwardedCell (c : Cell)
  /-- A good ROLL from 0 to 0 (R22). -/
  | rollReturn (serial : Byte) (mask : BitVec 64)
  /-- A good cell to 0 of an unusable source and kind (R19). -/
  | unknownKindCell (src kind : Byte)
  /-- A SHEET report (R73): source, and the payload's fields. -/
  | sheet (src : Byte) (seq : BitVec 24) (page total : Byte) (word : Word16) (quality : Byte) (double : Bool)
  /-- A DONE report (R95). -/
  | done (src pocket subtype result : Byte) (thickness : Word16) (bin : Byte)
  /-- An ENVREAD report (R97). -/
  | envread (src pocket : Byte) (key : BitVec 32) (noRead : Byte)
  /-- A STATUS report (R19, R23). -/
  | status (src : Byte) (state : StationState) (detail : Byte)
  /-- BIN REPORT 1 (R137). -/
  | binEmptied (src bin : Byte)
  /-- BIN REPORT 2 (R138). -/
  | binOffline (src bin : Byte)
  /-- BIN REPORT 3 (R138). -/
  | binOnline (src bin : Byte)
  /-- A good management cell to 0 (R25). -/
  | managementCellArrival (c : Cell)
  /-- The dispatcher takes a LOAD (R36). -/
  | load
  /-- … a COMMIT (R37). -/
  | commit
  /-- … a READ (R28). -/
  | read
  /-- … an ACCT-A (R55). -/
  | acctA
  /-- … an ACCT-B (R56). -/
  | acctB
  /-- … a PULL ADD (R66). -/
  | pullAdd
  /-- … a PULL REMOVE (R67). -/
  | pullRemove
  /-- … a RECALL (R64). -/
  | recallRequest
  /-- … a STAGE (R48). -/
  | stage
  /-- … a HOLD (R49). -/
  | hold
  /-- … a HOLD RELEASE (R49). -/
  | holdRelease
  /-- … a START (R147). -/
  | start
  /-- … a STOP (R148). -/
  | stop
  /-- … a CUT (R149). -/
  | cut
  /-- … a FEEDER ENABLE (R113). -/
  | feederEnable
  /-- … a FEEDER DISABLE (R113). -/
  | feederDisable
  /-- … a CLOSE GROUP (R142). -/
  | closeGroup
  /-- … a RESTART GROUP (R143). -/
  | restartGroup
  /-- … a CLEAR FAULT (R154). -/
  | clearFault
  /-- … a FETCH (R167). -/
  | fetch
  /-- … a CLEAR RUN (R170). -/
  | clearRun
  /-- … a DEVICE RESET (R33). -/
  | deviceReset
  /-- … a NOTICE MASK (R32). -/
  | noticeMask
  /-- The dispatcher places a waiting REPLY (R25, R167). -/
  | replyPlace
  /-- The cell being sent on LOOP_OUT has been sent (R20). -/
  | cellSent
  /-- The accepted DEVICE RESET takes effect (R33). -/
  | deviceResetEffect
  /-- RESET_N rises (R15, R34). -/
  | coldResetEnd
  /-- A BIN REPORT of a report code other than 1, 2, 3 (R139). -/
  | unknownBinReport (src code bin : Byte)
  deriving DecidableEq, Repr

end Sys2Proof
end

