-- ==== Sys2Proof/WellFormed.lean ====
section
/-! DEFINITION. The checks that a command's operands are an event of its row; a command that fails them changes nothing (log 3). -/

namespace Sys2Proof

/-- The kind code of a kind byte: bits 0 to 6 (02, "Cell"). -/
def kindCode (k : Byte) : Nat := k.toNat % 128

/-- A management kind, 0x30 to 0x46 (R19). -/
def isMgmtKind (k : Byte) : Bool := 0x30 ≤ kindCode k && kindCode k ≤ 0x46

/-- A station report kind, 0x10 to 0x14 (R19). -/
def isStationKind (k : Byte) : Bool := 0x10 ≤ kindCode k && kindCode k ≤ 0x14

/-- A cell's payload has 14 bytes (02, "Cell"). -/
def Cell.wf (c : Cell) : Bool := c.payload.length == 14

/-- The operands are an event of the command's row: a cell of 20 bytes whose destination, source and kind are those R17 to R19 give
the row, and a report code that no other row has (R139). -/
def Instr.wf : Instr → Bool
  | .crcErrorDiscard c _ => c.wf
  | .forwardedCell c => c.wf && c.dest != 0
  | .unknownKindCell src kind => if src = 0 then kindCode kind != 0x21 else !isMgmtKind kind && !isStationKind kind
  | .unknownBinReport _ code _ => !(1 ≤ code.toNat && code.toNat ≤ 3)
  | .managementCellArrival c => c.wf && c.dest == 0 && c.src != 0 && isMgmtKind c.kind
  | .coldReset | .pitchMark _ _ | .index | .encoderStep _ _ | .estopAssert | .estopRise | .estopReleaseTimerExpiry
  | .meterStallEntry | .indexSearchExpiry | .setDeadlineExpiry | .cleanPitchCountExpiry | .recoveryHoldExpiry
  | .rollTimerExpiry | .rollReturn _ _ | .sheet _ _ _ _ _ _ _ | .done _ _ _ _ _ _ | .envread _ _ _ _ | .status _ _ _
  | .binEmptied _ _ | .binOffline _ _ | .binOnline _ _ | .load | .commit | .read | .acctA | .acctB | .pullAdd | .pullRemove
  | .recallRequest | .stage | .hold | .holdRelease | .start | .stop | .cut | .feederEnable | .feederDisable | .closeGroup
  | .restartGroup | .clearFault | .fetch | .clearRun | .deviceReset | .noticeMask | .replyPlace | .cellSent
  | .deviceResetEffect | .coldResetEnd => true

end Sys2Proof
end

