-- ==== Sys2Proof/Machine/Bytes.lean ====
section
/-! DEFINITION. Byte order, cell fields, and the CRC of the station loop (R17 and 02, "Cell and record layouts"). -/

namespace Sys2Proof.Machine

/-- A number as `width` bytes, most significant byte first (02, "Cell and record layouts"). -/
def beBytes (width n : Nat) : List Byte :=
  (List.range width).map fun k => BitVec.ofNat 8 (n / 256 ^ (width - 1 - k))

/-- The number of a run of bytes, most significant byte first. -/
def beNum (l : List Byte) : Nat := l.foldl (fun a b => a * 256 + b.toNat) 0

/-- A two-valued field as one byte: 1 or 0 (R28). -/
def flagByte (b : Bool) : List Byte := [if b then 1 else 0]

/-- A list of bytes cut or padded with zeros to `n` bytes. -/
def padTo (n : Nat) (l : List Byte) : List Byte := (l ++ List.replicate n 0).take n

/-- Byte `i` of a cell, 4 to 17, as a number. -/
def payByte (c : Cell) (i : Nat) : Nat := (c.payload.getD (i - 4) 0).toNat

/-- The number in bytes `i` to `i+n-1` of a cell's payload. -/
def payNum (c : Cell) (i n : Nat) : Nat := beNum ((List.range n).map fun k => c.payload.getD (i - 4 + k) 0)

/-- Byte `k` of a 12-byte table entry, as a number. -/
def entByte (e : List Byte) (k : Nat) : Nat := (e.getD k 0).toNat

/-- The number in bytes `k` to `k+n-1` of a table entry. -/
def entNum (e : List Byte) (k n : Nat) : Nat := beNum ((List.range n).map fun j => e.getD (k + j) 0)

/-- One bit of the CRC-16 with polynomial x^16+x^12+x^5+1 (R17). -/
def crcBit (crc : Word16) (b : Bool) : Word16 :=
  if Bool.xor crc.msb b then (crc <<< 1) ^^^ 0x1021#16 else crc <<< 1

/-- One byte of the CRC, most significant bit first (R17). -/
def crcByte (crc : Word16) (b : Byte) : Word16 :=
  (List.range 8).foldl (fun c i => crcBit c (b.getLsbD (7 - i))) crc

/-- The CRC-16 of a run of bytes: initial value all ones, no final inversion (R17). -/
def crc16 (l : List Byte) : Word16 := l.foldl crcByte 0xFFFF#16

/-- Bytes 0 to 17 of a cell. -/
def cellHead (c : Cell) : List Byte := [c.dest, c.src, c.kind, c.tag] ++ padTo 14 c.payload

/-- The check word of a cell (R17). -/
def cellCrc (c : Cell) : Word16 := crc16 (cellHead c)

/-- The twenty bytes of a cell as they are sent: the CRC high byte first (R17). -/
def cellBytes (c : Cell) : List Byte := cellHead c ++ beBytes 2 (cellCrc c).toNat

/-- The passed flag of a cell: bit 7 of its kind byte (R18). -/
def passedFlag (c : Cell) : Bool := c.kind.getLsbD 7

/-- A cell with its passed flag set (R18). -/
def setPassed (c : Cell) : Cell := { c with kind := c.kind ||| 0x80#8 }

/-- A cell of the part's own: source 0, passed flag clear (R20). -/
def ownCell (dest : Nat) (kind : Nat) (tag : Byte) (payload : List Byte) : Cell :=
  { dest := BitVec.ofNat 8 dest, src := 0, kind := BitVec.ofNat 8 kind, tag := tag, payload := padTo 14 payload }

/-- A number as a power of two's bit list: the positions of the bits of `n` below `w` that are set, counted from 1. -/
def bitsFrom1 (w n : Nat) : List Nat := ((List.range w).filter fun k => n.testBit k).map (· + 1)

/-- The bit map of a list of flags: bit n-1 for the n-th (R28). -/
def bitMap (l : List Bool) : Nat := l.foldr (fun b a => a * 2 + (if b then 1 else 0)) 0

end Sys2Proof.Machine
end

