-- ==== Sys2Proof/Decode.lean ====
section
/-! DEFINITION. From words and from received cells to commands. No row of spec/opcode_table.json gives bits, so
decodeTableWord answers none; commandOfCell is the classifier of R17 to R19 with the payload layouts of file 02. -/

namespace Sys2Proof

/-- No row of the opcode table gives bits, so no word spells a command. -/
def decodeTableWord (_nbits _w : Nat) : Option Instr := none

namespace Machine

/-- The station state a STATUS names: 1 READY, 2 EMPTY, 3 JAM, 4 FAULT (02, "Station payloads"); for any other byte one of the four,
a free value (log 23). -/
def stationStateOf (n : Nat) : StationState :=
  match n with
  | 1 => .ready
  | 2 => .empty
  | 3 => .jam
  | 4 => .fault
  | _ =>
    match Config.statusOther n with
    | 0 => .ready
    | 1 => .empty
    | 2 => .jam
    | 3 => .fault

/-- The command that a station report cell to address 0 from a node spells (R19, 02 "Station payloads"). -/
def stationReport (c : Cell) : Option Instr :=
  let b := fun i => c.payload.getD (i - 4) 0
  match kindCode c.kind with
  | 0x10 => some (.sheet c.src (BitVec.ofNat 24 (payNum c 4 3)) (b 7) (b 8) (BitVec.ofNat 16 (payNum c 9 2)) (b 11)
      ((b 12).getLsbD 0))
  | 0x11 => some (.done c.src (b 4) (b 5) (b 6) (BitVec.ofNat 16 (payNum c 7 2)) (b 9))
  | 0x12 => some (.envread c.src (b 4) (BitVec.ofNat 32 (payNum c 5 4)) (b 9))
  | 0x13 => some (.status c.src (stationStateOf (payByte c 4)) (b 5))
  | 0x14 =>
    match payByte c 4 with
    | 1 => some (.binEmptied c.src (b 5))
    | 2 => some (.binOffline c.src (b 5))
    | 3 => some (.binOnline c.src (b 5))
    | _ => some (.unknownBinReport c.src (b 4) (b 5))
  | _ => none

/-- The command that a cell taken at LOOP_IN spells (R17, R18, R19): bytes 0 to 17 and the received check word. -/
def commandOfCell (c : Cell) (crc : Word16) : Option Instr :=
  if crc ≠ cellCrc c then some (.crcErrorDiscard c crc)
  else if c.dest ≠ 0 then some (.forwardedCell c)
  else if c.src = 0 then
    if kindCode c.kind = 0x21 then
      some (.rollReturn (c.payload.getD 0 0) (BitVec.ofNat 64 (payNum c 5 8)))
    else some (.unknownKindCell c.src c.kind)
  else if isMgmtKind c.kind then some (.managementCellArrival c)
  else if isStationKind c.kind then stationReport c
  else some (.unknownKindCell c.src c.kind)

/-- The cell of twenty received bytes, with its check word. -/
def cellOfBytes (l : List Byte) : Option (Cell × Word16) :=
  if l.length = 20 then
    some ({ dest := l.getD 0 0, src := l.getD 1 0, kind := l.getD 2 0, tag := l.getD 3 0, payload := (l.drop 4).take 14 },
      BitVec.ofNat 16 (beNum (l.drop 18)))
  else none

end Machine

end Sys2Proof
end

