-- ==== Sys2Proof/Machine/State.lean ====
section
/-! DEFINITION. The state of the GM-3124 as plain data: every piece of state spec/ gives the part, block by block, and State.reset. -/

namespace Sys2Proof.Machine

/-- The machine's faults. The part has no condition that stops it: its faults are latches (R153) and result codes (R27). -/
inductive Fault where
  /-- Raised by nobody; it stands so that the type has a name to give (safe). -/
  | noneRaised
  deriving DecidableEq, Repr

/-- Why a command has no meaning. -/
inductive Refusal where
  /-- Raised by the dispatch arm of a command that is not modelled yet; no arm is (safe). -/
  | notModelled (mnemonic : String)
  deriving DecidableEq, Repr

/-- The outcome of a command. -/
abbrev Out (σ : Type) := Host.Outcome σ Fault Refusal

/-! ### Names of the manual -/

/-- The line states (09). -/
inductive LineState where
  | halted | paused | priming | running | draining | recovery | lockout
  deriving DecidableEq, Repr, Inhabited

/-- The fourteen latch kinds, in code order (02, "Reply and notice"). -/
inductive LatchKind where
  | estop | jam | driveRate | chainSlip | ringBreak | nodeLost | stationTiming | collationOverrun | feederFault
  | essentialLost | retriesExhausted | groupExhausted | unexpectedMotion | tableBad
  deriving DecidableEq, Repr, Inhabited

/-- A latch's state (R153). -/
inductive LatchState where
  | idle | active | latched
  deriving DecidableEq, Repr, Inhabited

/-- Node roles in the order of R24. -/
inductive Role where
  | sheetStation | insertFeeder | envReader | envStation | caliper | divertGate | closer | sorter | lineComputer | panel
  deriving DecidableEq, Repr, Inhabited

/-- Divert reasons, in code order (02, "Outcome and tray records"). -/
inductive Reason where
  | pulled | recalled | noRead | doubleSheet | pageOrder | pageCount | unbalanced | seqBreak | shortSet | overlength
  | unsettled | insertUnavailable | insertMiss | insertDouble | stationTiming | envMismatch | envNoRead | thickness
  | suspect | stray
  deriving DecidableEq, Repr, Inhabited

/-- Feed-hold reasons, in code order (R59, R63). -/
inductive HoldReason where
  | queueEmpty | sheetEmpty | envelopeEmpty | essentialEmpty | room | stageBusy | releaseWaiting
  deriving DecidableEq, Repr, Inhabited

/-- The seven tables, in number order (03). -/
inductive TableId where
  | lineProfile | nodeTable | jobTable | defectList | scheme | groupTable | binTable
  deriving DecidableEq, Repr, Inhabited

/-- A table's state (R35). -/
inductive TableState where
  | empty | loading | valid | bad
  deriving DecidableEq, Repr, Inhabited

/-! ### Pins and the Pitch Unit (01) -/

/-- The levels of the input pins that hold a level: RESET_N, ESTOP_N, PHASE_A, PHASE_B (true = high). -/
structure Pins where
  resetN : Bool
  estopN : Bool
  phaseA : Bool
  phaseB : Bool
  deriving DecidableEq, Repr, Inhabited

/-- The Pitch Unit's state (R16). The meter is valid when `meter` holds 8 entries (R10). Timers count elapsed 10 us units. -/
structure PitchUnit where
  counter : Nat
  counterValid : Bool
  indexPending : Bool
  searchCount : Nat
  phase : Nat
  lastSpan : Nat
  meter : List Nat
  openPeriod : Option Nat
  estopAsserted : Bool
  releaseTimer : Option Nat
  driveEn : Bool
  driveCrawl : Bool
  unexpectedUp : Bool
  driveRateUp : Bool
  deriving DecidableEq, Repr, Inhabited

/-- A pitch notice: entry pocket or absent, drive ON, counter state VALID (R3). -/
structure Notice where
  entry : Option Nat
  driveOn : Bool
  counterValid : Bool
  deriving DecidableEq, Repr, Inhabited

/-! ### The Loop Interface (02) -/

/-- The side of the arbiter a cell was sent from (R20). -/
inductive Side where
  | forwarded | own
  deriving DecidableEq, Repr, Inhabited

/-- A node record (R23): last status is the state and its detail byte. -/
structure NodeRec where
  absent : Nat
  lost : Bool
  status : Option (StationState × Byte)
  deriving DecidableEq, Repr, Inhabited

/-- A FETCH in service: where its replies go, their tag, and the items still to be placed (R167). -/
structure FetchJob where
  dest : Nat
  tag : Byte
  left : Nat
  deriving DecidableEq, Repr, Inhabited

/-- How far a DEVICE RESET has come (R33). -/
inductive ResetStage where
  | none | accepted | sent
  deriving DecidableEq, Repr, Inhabited

/-- The dispatcher: replies made and not yet placed, a FETCH in service, an accepted DEVICE RESET (R25, R33). -/
structure Dispatcher where
  waiting : List Cell
  fetch : Option FetchJob
  reset : ResetStage
  deriving DecidableEq, Repr, Inhabited

/-- The Loop Interface's state (R34). `counters` holds loop counters 1 to 9 at index 0 to 8; `noticeMask` classes 1 to 5. -/
structure LoopIf where
  counters : Vector Nat 9
  forward : List Cell
  mgmtIn : List Cell
  orders : List Cell
  replies : List Cell
  notices : List Cell
  rollSlot : Option Cell
  wire : Option (Cell × Side)
  lastSide : Option Side
  rollSerial : Nat
  returned : Bool
  misses : Nat
  ringBreakUp : Bool
  lastMask : BitVec 64
  rollTimer : Option Nat
  nodeRecs : List NodeRec
  lastManager : Option Nat
  noticeMask : Vector Bool 5
  dropped : Nat
  dispatcher : Dispatcher
  deriving DecidableEq, Repr

/-! ### The Table Store (03) and the pull list (04) -/

/-- One table (R35, R36, R39). `entries` lists (index, 12 bytes) in canonical form: indexes rising, no all-zero entry. -/
structure Table where
  state : TableState
  entries : List (Nat × List Byte)
  loadCount : Nat
  count : Nat
  checksum : Nat
  failCode : Nat
  failIndex : Nat
  deriving DecidableEq, Repr, Inhabited

/-- A feeder's working job values (R43, R47): 0 is "none" for alternate and pair. -/
structure FeederJob where
  caliper : Nat
  alternate : Nat
  pair : Nat
  deriving DecidableEq, Repr, Inhabited

/-- The working job values (R47). -/
structure Working where
  tolerance : Nat
  sheetCaliper : Nat
  envCaliper : Nat
  fold : Nat
  envClass : Nat
  missLimit : Nat
  maxSheets : Nat
  deadline : Nat
  feeders : Vector FeederJob 12
  deriving DecidableEq, Repr

/-- The staged-parameter set: 31 slots (R48). -/
structure Staged where
  tolerance : Option Nat
  sheetCaliper : Option Nat
  envCaliper : Option Nat
  missLimit : Option Nat
  fold : Option Nat
  envClass : Option Nat
  deadline : Option Nat
  calipers : Vector (Option Nat) 12
  pairs : Vector (Option Nat) 12
  deriving DecidableEq, Repr

/-- ONCE or STANDING (R66). -/
inductive PullKind where
  | once | standing
  deriving DecidableEq, Repr, Inhabited

/-- A pull list entry (R66). -/
structure PullEntry where
  key : Nat
  reason : Nat
  kind : PullKind
  hits : Nat
  deriving DecidableEq, Repr, Inhabited

/-- The Table Store's state (R53). -/
structure TableStore where
  profile : Table
  node : Table
  job : Table
  defect : Table
  scheme : Table
  group : Table
  bin : Table
  work : Option Working
  lastFold : Option (Nat × Nat)
  staged : Staged
  hold : Bool
  settling : Nat
  pull : List PullEntry
  deriving DecidableEq, Repr

/-! ### The Account Queue (04) -/

/-- Half A of a record (R54). -/
structure HalfA where
  seq : Nat
  key : Nat
  pages : Nat
  inserts : List Nat
  matchReq : Bool
  prePull : Bool
  deriving DecidableEq, Repr, Inhabited

/-- An account record (04, "Account records"). `postal` holds the given digit positions, each 0 to 15. -/
structure Account where
  seq : Nat
  key : Nat
  pages : Nat
  inserts : List Nat
  matchReq : Bool
  prePull : Bool
  postal : List Nat
  envKey : Option Nat
  recalled : Bool
  skipped : Bool
  deriving DecidableEq, Repr, Inhabited

/-- The Account Queue's state (R70). -/
structure AccountQueue where
  queue : List Account
  halfA : Option HalfA
  tail : Option Nat
  base : Option Nat
  holdReason : Option HoldReason
  deriving DecidableEq, Repr, Inhabited

/-! ### The Collation Unit (05) -/

/-- A set's binding (R71): an account's seq, or stray with the seq read, if any. -/
inductive Binding where
  | account (seq : Nat)
  | stray (seq : Option Nat)
  deriving DecidableEq, Repr, Inhabited

/-- The account fields of a set (R62, R71). -/
structure AcctFields where
  key : Nat
  pages : Nat
  inserts : List Nat
  matchReq : Bool
  envKey : Option Nat
  group : Nat
  pulled : Bool
  recalled : Bool
  deriving DecidableEq, Repr, Inhabited

/-- A set's state (R71). -/
inductive SetState where
  | ordered | assembling | ready
  deriving DecidableEq, Repr, Inhabited

/-- Why a set finished (R71). -/
inductive Finish where
  | complete | maximum | deadline
  deriving DecidableEq, Repr, Inhabited

/-- A sheet entry: page, total and sheet word of a good read, none on a no-read; and the double flag (R71). -/
structure Sheet where
  good : Option (Nat × Nat × Word16)
  double : Bool
  deriving DecidableEq, Repr, Inhabited

/-- The job values captured at a take (R47). -/
structure Captured where
  tolerance : Nat
  sheetCaliper : Nat
  envCaliper : Nat
  fold : Nat
  envClass : Nat
  deriving DecidableEq, Repr, Inhabited

/-- A set record (R71). -/
structure SetRec where
  binding : Binding
  acct : Option AcctFields
  state : SetState
  finish : Option Finish
  rebindSpent : Bool
  sheets : List Sheet
  extraSheets : Nat
  firstTotal : Option Nat
  balance : Word16
  pitches : Nat
  maxSheets : Nat
  captured : Option Captured
  marks : List Reason
  suspect : Bool
  unsettled : Bool
  deriving DecidableEq, Repr, Inhabited

/-- The entry vacancy record (R86). -/
structure Vacancy where
  pocket : Nat
  usable : Bool
  vacant : Bool
  inRunning : Bool
  deriving DecidableEq, Repr, Inhabited

/-- The Collation Unit's state (R90). `freshTake` is yes only inside a pitch mark, for a set created at that notice (R80). -/
structure Stage where
  assembly : Option SetRec
  ready : Option SetRec
  vacancy : Option Vacancy
  releaseAwaited : Option Nat
  releaseMiss : Nat
  freshTake : Bool
  deriving DecidableEq, Repr, Inhabited

/-! ### The Track Unit (06) -/

/-- The result of an insert plan entry (R91). -/
inductive PlanResult where
  | pending | fed | miss | double | unavailable
  deriving DecidableEq, Repr, Inhabited

/-- An insert plan entry (R91, R116). -/
structure PlanEntry where
  feeder : Nat
  position : Nat
  result : PlanResult
  deriving DecidableEq, Repr, Inhabited

/-- The read part of the envelope result (R91). -/
inductive ReadPart where
  | none | matched | mismatch | noread | notRequired
  deriving DecidableEq, Repr, Inhabited

/-- The station part of the envelope result (R91). -/
inductive StationPart where
  | none | inserted | held
  deriving DecidableEq, Repr, Inhabited

/-- The report awaited in the current pitch (R91): the station, the subtype, its window (none for the envelope reader). -/
structure Awaited where
  role : Role
  feeder : Nat
  subtype : Nat
  window : Option (Nat × Nat)
  deriving DecidableEq, Repr, Inhabited

/-- The order issued at the divert gate (R94). -/
inductive GateOrder where
  | none | divert | pass
  deriving DecidableEq, Repr, Inhabited

/-- Why a piece is held at X (R106, R136). -/
inductive HeldReason where
  | exhausted | unusedGroup
  deriving DecidableEq, Repr, Inhabited

/-- The exit decision (R106): a bin 1 to 16 with its tray number and the position in the tray, or bin 0 with its reason. -/
inductive ExitDecision where
  | binned (bin group tray position : Nat)
  | held (group : Nat) (reason : HeldReason)
  deriving DecidableEq, Repr, Inhabited

/-- A pocket record (R91). -/
structure PocketRec where
  pocket : Option Nat
  content : Option SetRec
  plan : List PlanEntry
  readPart : ReadPart
  stationPart : StationPart
  caliper : Option Nat
  expected : Option Nat
  awaited : Option Awaited
  gateOrder : GateOrder
  gateConfirmed : Bool
  exitDecision : Option ExitDecision
  binConfirmed : Bool
  deriving DecidableEq, Repr, Inhabited

/-- The Track Unit's state (R109). `positions`: the unit has its positions and windows, which a commit of the node table gives it from
the next pitch notice (R92). `due`: a pitch notice handed on that this unit has not yet taken, inside a pitch mark (R102). -/
structure TrackUnit where
  recs : List PocketRec
  positions : Bool
  envCount : Nat
  calCount : Nat
  gateCount : Nat
  sortCount : Nat
  due : Option Notice
  deriving DecidableEq, Repr, Inhabited

/-! ### The Feeder Manager (07) -/

/-- A feeder's state; none while it is not present (R110). -/
inductive FeederState where
  | none | ready | empty | faulted | disabled | lost
  deriving DecidableEq, Repr, Inhabited

/-- A feeder record's own fields (R110). -/
structure FeederRec where
  state : FeederState
  misses : Nat
  timing : Nat
  deriving DecidableEq, Repr, Inhabited

/-- An essential pair's standing; none while the pair does not exist (R121). -/
inductive Standing where
  | none | covered | allEmpty | lost
  deriving DecidableEq, Repr, Inhabited

/-- The Feeder Manager's state (R127): feeders 1 to 12 at index 0 to 11, pairs 1 to 6 at index 0 to 5. -/
structure FeederMgr where
  recs : Vector FeederRec 12
  pairs : Vector Standing 6
  deriving DecidableEq, Repr

/-! ### The Presort Unit (08) -/

/-- SINGLE or LOOP (R129). -/
inductive GroupMode where
  | single | loop
  deriving DecidableEq, Repr, Inhabited

/-- OVERFLOW or STOP (R129). -/
inductive ExhaustAction where
  | overflow | stop
  deriving DecidableEq, Repr, Inhabited

/-- A group's state (R129). -/
inductive GroupState where
  | active | exhausted | unused
  deriving DecidableEq, Repr, Inhabited

/-- A group record (R129). -/
structure GroupRec where
  rotation : List Nat
  mode : GroupMode
  action : ExhaustAction
  index : Nat
  state : GroupState
  tray : Nat
  deriving DecidableEq, Repr, Inhabited

/-- A bin's state (R130). -/
inductive BinState where
  | ready | opened | full | offline
  deriving DecidableEq, Repr, Inhabited

/-- A bin record's own fields (R130). -/
structure BinRec where
  state : BinState
  count : Nat
  tray : Nat
  firstSeq : Nat
  lastSeq : Nat
  deriving DecidableEq, Repr, Inhabited

/-- The Presort Unit's state (R144): groups 0 to 63; bins 1 to 16 at index 0 to 15. -/
structure Presort where
  groups : Vector GroupRec 64
  bins : Vector BinRec 16
  overflow : Nat
  reportedFull : Bool
  deriving DecidableEq, Repr

/-! ### The Line Controller (09) -/

/-- A latch record (R153). -/
structure Latch where
  state : LatchState
  occurrence : Nat
  sort : Nat
  number : Nat
  raisings : Nat
  deriving DecidableEq, Repr, Inhabited

/-- The recovery phase (R157, R158). -/
inductive RecoveryPhase where
  | none | hold | wait
  deriving DecidableEq, Repr, Inhabited

/-- The Line Controller's state (R162). `holdLeft`: what the hold timer has left, in 10 us units. -/
structure LineCtl where
  state : LineState
  prev : LineState
  lastCause : Nat
  drainPending : Bool
  retry : Nat
  clean : Nat
  phase : RecoveryPhase
  holdLeft : Nat
  counterValid : Bool
  meterValid : Bool
  jammed : List Nat
  stationLoss : List Nat
  latches : Vector Latch 14
  deriving DecidableEq, Repr

/-! ### The Outcome Queue (10) -/

/-- Why a MISSING record was written (02, "Outcome and tray records"). -/
inductive MissingCause where
  | reboundPast | setStrayed | skippedRelease
  deriving DecidableEq, Repr, Inhabited

/-- Why a tray was closed (R131). -/
inductive TrayCause where
  | filled | forced | closed | runClear
  deriving DecidableEq, Repr, Inhabited

/-- An outcome or tray record (02, "Outcome and tray records"; 10, "Records"). -/
inductive Record where
  | mailed (seq group bin tray position : Nat) (confirmed : Bool)
  | held (seq group : Nat) (reason : HeldReason)
  | diverted (seq : Nat) (principal : Reason) (reasons : Nat) (confirmed : Bool)
  | stray (seq : Option Nat) (confirmed : Bool) (principal : Reason) (reasons : Nat)
  | missing (seq : Nat) (cause : MissingCause)
  | purged (binding : Binding) (onTrack : Bool)
  | lost (binding : Binding) (atX : Bool)
  | tray (group : Nat) (cause : TrayCause) (bin tray count first last : Nat)
  deriving DecidableEq, Repr, Inhabited

/-- The Outcome Queue's state (R171): run counters 1 to 31 at index 0 to 30. -/
structure Outcomes where
  recs : List Record
  counters : Vector Nat 31
  fetched : Nat
  deriving DecidableEq, Repr

/-- The state of the part, and the queue of commands waiting. `draws` counts the free values drawn (log 35). -/
structure State where
  pins : Pins
  pitch : PitchUnit
  loop : LoopIf
  tables : TableStore
  acct : AccountQueue
  stage : Stage
  track : TrackUnit
  feeders : FeederMgr
  presort : Presort
  line : LineCtl
  outcomes : Outcomes
  draws : Nat
  pending : List Instr
  deriving DecidableEq, Repr

/-! ### Cold-reset values -/

/-- R16, cold reset. -/
def PitchUnit.cold : PitchUnit :=
  { counter := 0, counterValid := false, indexPending := false, searchCount := 0, phase := 0, lastSpan := 0, meter := [],
    openPeriod := none, estopAsserted := false, releaseTimer := none, driveEn := false, driveCrawl := false,
    unexpectedUp := false, driveRateUp := false }

/-- The dispatcher with nothing in hand. -/
def Dispatcher.idle : Dispatcher := { waiting := [], fetch := none, reset := .none }

/-- R34, cold reset, while RESET_N is asserted: the roll timer starts at the end of the reset (R21). -/
def LoopIf.cold : LoopIf :=
  { counters := Vector.replicate 9 0, forward := [], mgmtIn := [], orders := [], replies := [], notices := [],
    rollSlot := none, wire := none, lastSide := none, rollSerial := 0, returned := false, misses := 0, ringBreakUp := false,
    lastMask := 0, rollTimer := none, nodeRecs := [], lastManager := none, noticeMask := Vector.replicate 5 true,
    dropped := 0, dispatcher := Dispatcher.idle }

/-- An EMPTY table (R53); the failing index is a DESIGN CHOICE (log 20). -/
def Table.cold : Table :=
  { state := .empty, entries := [], loadCount := 0, count := 0, checksum := 0, failCode := 0, failIndex := Config.noIndex }

/-- No staged value (R48). -/
def Staged.none : Staged :=
  { tolerance := .none, sheetCaliper := .none, envCaliper := .none, missLimit := .none, fold := .none, envClass := .none,
    deadline := .none, calipers := Vector.replicate 12 Option.none, pairs := Vector.replicate 12 Option.none }

/-- R53 and R70, cold reset. -/
def TableStore.cold : TableStore :=
  { profile := Table.cold, node := Table.cold, job := Table.cold, defect := Table.cold, scheme := Table.cold,
    group := Table.cold, bin := Table.cold, work := none, lastFold := none, staged := Staged.none, hold := false,
    settling := 0, pull := [] }

/-- R70. -/
def AccountQueue.cold : AccountQueue := { queue := [], halfA := none, tail := none, base := none, holdReason := none }

/-- R90. -/
def Stage.cold : Stage :=
  { assembly := none, ready := none, vacancy := none, releaseAwaited := none, releaseMiss := 0, freshTake := false }

/-- R109, with no line profile and no node table. -/
def TrackUnit.cold : TrackUnit :=
  { recs := [], positions := false, envCount := 0, calCount := 0, gateCount := 0, sortCount := 0, due := none }

/-- R127, cold reset. -/
def FeederMgr.cold : FeederMgr :=
  { recs := Vector.replicate 12 { state := .none, misses := 0, timing := 0 }, pairs := Vector.replicate 6 Standing.none }

/-- A group with no bins (R129, R144); mode and action are a DESIGN CHOICE (log 20). -/
def GroupRec.unused (tray : Nat) : GroupRec :=
  { rotation := [], mode := .single, action := .overflow, index := 0, state := .unused, tray := tray }

/-- A READY bin (R130, R144). -/
def BinRec.emptyReady : BinRec := { state := .ready, count := 0, tray := 0, firstSeq := 0, lastSeq := 0 }

/-- R144, cold reset. -/
def Presort.cold : Presort :=
  { groups := Vector.replicate 64 (GroupRec.unused 1), bins := Vector.replicate 16 BinRec.emptyReady, overflow := 0,
    reportedFull := false }

/-- An IDLE latch (R153). -/
def Latch.idle : Latch := { state := .idle, occurrence := 0, sort := 0, number := 0, raisings := 0 }

/-- R162, cold reset. -/
def LineCtl.cold : LineCtl :=
  { state := .halted, prev := .halted, lastCause := 0, drainPending := false, retry := 0, clean := 0, phase := .none,
    holdLeft := 0, counterValid := false, meterValid := false, jammed := [], stationLoss := [],
    latches := Vector.replicate 14 Latch.idle }

/-- R171, cold reset. -/
def Outcomes.cold : Outcomes := { recs := [], counters := Vector.replicate 31 0, fetched := 0 }

/-- Every block at its cold-reset values (R16, R34, R53, R70, R90, R109, R127, R144, R162, R171), with the given pins, free-value
counter and commands waiting. -/
def State.cold (pins : Pins) (draws : Nat) (pending : List Instr) : State :=
  { pins := pins, pitch := PitchUnit.cold, loop := LoopIf.cold, tables := TableStore.cold, acct := AccountQueue.cold,
    stage := Stage.cold, track := TrackUnit.cold, feeders := FeederMgr.cold, presort := Presort.cold, line := LineCtl.cold,
    outcomes := Outcomes.cold, draws := draws, pending := pending }

/-- The part just after a cold reset has ended with ESTOP_N high: every block at its cold-reset values, the roll timer running
(R21), no command waiting (log 1). -/
def State.reset : State :=
  let s := State.cold { resetN := true, estopN := true, phaseA := false, phaseB := false } 0 []
  { s with loop := { s.loop with rollTimer := some 0 } }

end Sys2Proof.Machine
end

