-- ==== Sys2Proof/Machine/Operands.lean ====
section
/-! DEFINITION. The operand forms: the codes of 02 "Cell and record layouts", the fields of table entries and of management payloads. -/

namespace Sys2Proof.Machine

/-! ### Codes (02, "Reply and notice") -/

/-- Line states, coded 1 to 7. -/
def lineCode : LineState → Nat
  | .halted => 1 | .paused => 2 | .priming => 3 | .running => 4 | .draining => 5 | .recovery => 6 | .lockout => 7

/-- Latch kinds, coded 1 to 14. -/
def latchCode : LatchKind → Nat
  | .estop => 1 | .jam => 2 | .driveRate => 3 | .chainSlip => 4 | .ringBreak => 5 | .nodeLost => 6 | .stationTiming => 7
  | .collationOverrun => 8 | .feederFault => 9 | .essentialLost => 10 | .retriesExhausted => 11 | .groupExhausted => 12
  | .unexpectedMotion => 13 | .tableBad => 14

/-- The latch kind of a code, for CLEAR FAULT and READ (R154, R162). -/
def latchOfCode (n : Nat) : Option LatchKind :=
  [LatchKind.estop, .jam, .driveRate, .chainSlip, .ringBreak, .nodeLost, .stationTiming, .collationOverrun, .feederFault,
    .essentialLost, .retriesExhausted, .groupExhausted, .unexpectedMotion, .tableBad].find? fun k => latchCode k == n

/-- Latch states, coded 1 IDLE, 2 ACTIVE, 3 LATCHED (R154). -/
def latchStateCode : LatchState → Nat
  | .idle => 1 | .active => 2 | .latched => 3

/-- Roles, coded 1 to 10 in the order of R24. -/
def roleCode : Role → Nat
  | .sheetStation => 1 | .insertFeeder => 2 | .envReader => 3 | .envStation => 4 | .caliper => 5 | .divertGate => 6
  | .closer => 7 | .sorter => 8 | .lineComputer => 9 | .panel => 10

/-- The role of a code (R24). -/
def roleOfCode (n : Nat) : Option Role :=
  [Role.sheetStation, .insertFeeder, .envReader, .envStation, .caliper, .divertGate, .closer, .sorter, .lineComputer,
    .panel].find? fun r => roleCode r == n

/-- Divert reasons, coded 1 to 20. -/
def reasonCode : Reason → Nat
  | .pulled => 1 | .recalled => 2 | .noRead => 3 | .doubleSheet => 4 | .pageOrder => 5 | .pageCount => 6 | .unbalanced => 7
  | .seqBreak => 8 | .shortSet => 9 | .overlength => 10 | .unsettled => 11 | .insertUnavailable => 12 | .insertMiss => 13
  | .insertDouble => 14 | .stationTiming => 15 | .envMismatch => 16 | .envNoRead => 17 | .thickness => 18 | .suspect => 19
  | .stray => 20

/-- Hold reasons, coded 1 to 7. -/
def holdCode : HoldReason → Nat
  | .queueEmpty => 1 | .sheetEmpty => 2 | .envelopeEmpty => 3 | .essentialEmpty => 4 | .room => 5 | .stageBusy => 6
  | .releaseWaiting => 7

/-- Table numbers, 1 to 7. -/
def tableNumber : TableId → Nat
  | .lineProfile => 1 | .nodeTable => 2 | .jobTable => 3 | .defectList => 4 | .scheme => 5 | .groupTable => 6 | .binTable => 7

/-- The seven tables in number order. -/
def allTables : List TableId := [.lineProfile, .nodeTable, .jobTable, .defectList, .scheme, .groupTable, .binTable]

/-- The table of a number (R36). -/
def tableOfNumber (n : Nat) : Option TableId := allTables.find? fun t => tableNumber t == n

/-- Table states, coded 1 to 4 (R52). -/
def tableStateCode : TableState → Nat
  | .empty => 1 | .loading => 2 | .valid => 3 | .bad => 4

/-- Entries a table holds (03). -/
def tableSize : TableId → Nat
  | .lineProfile => 1 | .nodeTable => 24 | .jobTable => 13 | .defectList => 16 | .scheme => 1024 | .groupTable => 64
  | .binTable => 17

/-- Feeder states, coded 0 to 5 (R113). -/
def feederCode : FeederState → Nat
  | .none => 0 | .ready => 1 | .empty => 2 | .faulted => 3 | .disabled => 4 | .lost => 5

/-- Pair standings, coded 0 to 3 (R127). -/
def standingCode : Standing → Nat
  | .none => 0 | .covered => 1 | .allEmpty => 2 | .lost => 3

/-- Group states, coded 1 to 3 (R143). -/
def groupStateCode : GroupState → Nat
  | .active => 1 | .exhausted => 2 | .unused => 3

/-- Bin states, coded 1 to 4 (R144). -/
def binStateCode : BinState → Nat
  | .ready => 1 | .opened => 2 | .full => 3 | .offline => 4

/-- Station states, coded 1 to 4 (02, "Station payloads"). -/
def stationCode : StationState → Nat
  | .ready => 1 | .empty => 2 | .jam => 3 | .fault => 4

/-- Recovery phases, coded 0 to 2 (R162). -/
def phaseCode : RecoveryPhase → Nat
  | .none => 0 | .hold => 1 | .wait => 2

/-- Tray causes, coded 0 to 3 (02, "Outcome and tray records"). -/
def trayCauseCode : TrayCause → Nat
  | .filled => 0 | .forced => 1 | .closed => 2 | .runClear => 3

/-- Missing causes, coded 1 to 3. -/
def missingCode : MissingCause → Nat
  | .reboundPast => 1 | .setStrayed => 2 | .skippedRelease => 3

/-- Held reasons, coded 1 and 2. -/
def heldCode : HeldReason → Nat
  | .exhausted => 1 | .unusedGroup => 2

/-- Result codes of a REPLY (R27). -/
inductive ResultCode where
  | accepted | state | full | protected_ | arg | duplicate | order | incomplete | tooLate | notManager | stale | stillActive
  deriving DecidableEq, Repr, Inhabited

/-- Result codes, coded 0 to 11 (R27). -/
def resultNumber : ResultCode → Nat
  | .accepted => 0 | .state => 1 | .full => 2 | .protected_ => 3 | .arg => 4 | .duplicate => 5 | .order => 6
  | .incomplete => 7 | .tooLate => 8 | .notManager => 9 | .stale => 10 | .stillActive => 11

/-! ### Table entries (02, "Table entries") -/

/-- The line profile's values (R41). -/
structure Profile where
  pockets : Nat
  trackLen : Nat
  phases : Nat
  periodLo : Nat
  periodHi : Nat
  hold : Nat
  retryLimit : Nat
  deriving DecidableEq, Repr, Inhabited

def profileOfEntry (e : List Byte) : Profile :=
  { pockets := entByte e 0, trackLen := entByte e 1, phases := entNum e 2 2, periodLo := entNum e 4 2, periodHi := entNum e 6 2,
    hold := entNum e 8 2, retryLimit := entByte e 10 }

/-- A node table entry (R24). -/
structure NodeEntry where
  addr : Nat
  role : Option Role
  feeder : Nat
  position : Nat
  windowOpen : Nat
  windowClose : Nat
  deriving DecidableEq, Repr, Inhabited

def nodeOfEntry (e : List Byte) : NodeEntry :=
  { addr := entByte e 0, role := roleOfCode (entByte e 1), feeder := entByte e 2, position := entByte e 3,
    windowOpen := entNum e 4 2, windowClose := entNum e 6 2 }

/-- Feeder k's job values from its entry (R43). -/
def feederJobOfEntry (e : List Byte) : FeederJob :=
  { caliper := entNum e 0 2, alternate := entByte e 2, pair := entByte e 3 }

/-- The working values of job-table entries: entry 0 and the twelve feeders' (R43, R47). -/
def workingOfEntries (e0 : List Byte) (feeders : Vector FeederJob 12) : Working :=
  { tolerance := entNum e0 0 2, sheetCaliper := entNum e0 2 2, envCaliper := entNum e0 4 2, fold := entByte e0 6 / 16,
    envClass := entByte e0 6 % 16, missLimit := entByte e0 7, maxSheets := entByte e0 8, deadline := entNum e0 9 2,
    feeders := feeders }

/-- A scheme entry (R44, R128). -/
structure SchemeEntry where
  digits : Nat
  group : Nat
  low : Nat
  high : Nat
  deriving DecidableEq, Repr, Inhabited

def schemeOfEntry (e : List Byte) : SchemeEntry :=
  { digits := entByte e 0, group := entByte e 1, low := entNum e 2 5, high := entNum e 7 5 }

/-- A group table entry: the list's bins, the mode code and the action code (R44, R129). -/
structure GroupEntry where
  length : Nat
  bins : List Nat
  mode : Nat
  action : Nat
  deriving DecidableEq, Repr, Inhabited

def groupOfEntry (e : List Byte) : GroupEntry :=
  { length := entByte e 0, bins := ((List.range 5).map fun k => entByte e (1 + k)).take (entByte e 0), mode := entByte e 6,
    action := entByte e 7 }

/-! ### Management payloads (02, "Management payloads") -/

/-- LOAD: bytes 4 and 5 hold the table number in bits 15 to 13 and the entry index in bits 9 to 0; bytes 6 to 17 the entry. -/
structure LoadForm where
  table : Nat
  index : Nat
  entry : List Byte
  deriving DecidableEq, Repr, Inhabited

def loadForm (c : Cell) : LoadForm :=
  { table := payNum c 4 2 / 8192, index := payNum c 4 2 % 1024, entry := padTo 12 (c.payload.drop 2) }

/-- COMMIT: table number, entry count, expected checksum. -/
structure CommitForm where
  table : Nat
  count : Nat
  checksum : Nat
  deriving DecidableEq, Repr, Inhabited

def commitForm (c : Cell) : CommitForm := { table := payByte c 4, count := payNum c 5 2, checksum := payNum c 7 2 }

/-- ACCT-A. `badInserts`: a bit for feeders 13 to 16 is set (R54). -/
def acctAForm (c : Cell) : HalfA × Bool :=
  let bits := payNum c 14 2
  ({ seq := payNum c 4 3, key := payNum c 7 6, pages := payByte c 13, inserts := bitsFrom1 12 bits,
     matchReq := (payByte c 16).testBit 0, prePull := (payByte c 16).testBit 1 }, decide (4096 ≤ bits))

/-- ACCT-B: seq, digits given, the given digit positions, and the envelope key bytes. -/
structure AcctBForm where
  seq : Nat
  given : Nat
  postal : List Nat
  envKey : Nat
  deriving DecidableEq, Repr, Inhabited

def acctBForm (c : Cell) : AcctBForm :=
  let digit := fun k => if k % 2 = 0 then payByte c (8 + k / 2) / 16 else payByte c (8 + k / 2) % 16
  { seq := payNum c 4 3, given := payByte c 7, postal := (List.range (payByte c 7)).map digit, envKey := payNum c 14 4 }

/-- STAGE: field, feeder, value. -/
structure StageForm where
  field : Nat
  feeder : Nat
  value : Nat
  deriving DecidableEq, Repr, Inhabited

def stageForm (c : Cell) : StageForm := { field := payByte c 4, feeder := payByte c 5, value := payNum c 6 2 }

/-- The line states in which the drive may run (R13). -/
def driveState : LineState → Bool
  | .priming | .running | .draining => true
  | .halted | .paused | .recovery | .lockout => false

/-- The stopped states (09). -/
def stoppedLine : LineState → Bool
  | .halted | .paused => true
  | .priming | .running | .draining | .recovery | .lockout => false

end Sys2Proof.Machine
end

