-- ==== Sys2Proof/Machine/Ops.lean ====
section
/-! DEFINITION. The shared operations: indexed vectors, the table entries, views of the VALID tables, room, the loop's queues,
orders, notices, and the writing of outcome records. -/

namespace Sys2Proof.Machine

/-! ### Indexed reads and writes -/

/-- Read place `i`; a place outside reads the default. -/
def vget {α : Type} [Inhabited α] {n : Nat} (v : Vector α n) (i : Nat) : α := if h : i < n then v[i] else default

/-- Write place `i`; a place outside is not written. -/
def vset {α : Type} {n : Nat} (v : Vector α n) (i : Nat) (x : α) : Vector α n := v.setIfInBounds i x

/-- Change place `i` by `f`. -/
def vmod {α : Type} [Inhabited α] {n : Nat} (v : Vector α n) (i : Nat) (f : α → α) : Vector α n := vset v i (f (vget v i))

/-- Change every place by `f`. -/
def vmap {α : Type} {n : Nat} (f : α → α) (v : Vector α n) : Vector α n := Vector.ofFn fun i => f v[i]

/-- Insert by an ascending key, before the first entry of a key no smaller. -/
def insertBy {α : Type} (key : α → Nat) (x : α) : List α → List α
  | [] => [x]
  | y :: ys => if key x ≤ key y then x :: y :: ys else y :: insertBy key x ys

/-- Sort by an ascending key; entries of one key keep their order. -/
def sortBy {α : Type} (key : α → Nat) (l : List α) : List α := l.foldr (insertBy key) []

/-- Increase by 1, saturating at `top`. -/
def satInc (top n : Nat) : Nat := if n < top then n + 1 else n

/-! ### Table entries: the part's one addressed store (R36) -/

/-- What an entry reads as that no LOAD has written: twelve zero bytes (R36, R53). -/
def zeroEntry : List Byte := List.replicate 12 0

/-- Read entry `i`. -/
def entRead (m : List (Nat × List Byte)) (i : Nat) : List Byte :=
  match m with
  | [] => zeroEntry
  | (j, e) :: m => if i = j then e else entRead m i

/-- Write entry `i`, keeping the canonical form. -/
def entWrite (m : List (Nat × List Byte)) (i : Nat) (e : List Byte) : List (Nat × List Byte) :=
  match m with
  | [] => if e = zeroEntry then [] else [(i, e)]
  | (j, f) :: m =>
    if i < j then (if e = zeroEntry then (j, f) :: m else (i, e) :: (j, f) :: m)
    else if i = j then (if e = zeroEntry then m else (i, e) :: m)
    else (j, f) :: entWrite m i e

/-- The canonical form: indexes strictly rising, no all-zero entry listed. -/
abbrev Memory.wf (m : List (Nat × List Byte)) : Prop :=
  m.Pairwise (fun a b => a.1 < b.1) ∧ ∀ p ∈ m, p.2 ≠ zeroEntry

/-- One of the seven tables. -/
def TableStore.get (t : TableStore) : TableId → Table
  | .lineProfile => t.profile
  | .nodeTable => t.node
  | .jobTable => t.job
  | .defectList => t.defect
  | .scheme => t.scheme
  | .groupTable => t.group
  | .binTable => t.bin

/-- Replace one of the seven tables. -/
def TableStore.put (t : TableStore) (i : TableId) (x : Table) : TableStore :=
  match i with
  | .lineProfile => { t with profile := x }
  | .nodeTable => { t with node := x }
  | .jobTable => { t with job := x }
  | .defectList => { t with defect := x }
  | .scheme => { t with scheme := x }
  | .groupTable => { t with group := x }
  | .binTable => { t with bin := x }

/-- The entries of a table's first `n` indexes (R35). -/
def firstEntries (t : Table) (n : Nat) : List (List Byte) := (List.range n).map (entRead t.entries)

/-- The contents of a table: its committed entries while it is VALID, nothing otherwise (R35). -/
def contents (t : Table) : List (List Byte) := if t.state = .valid then firstEntries t t.count else []

/-- The line profile's values while it is VALID (R1, R2). -/
def profileOf (s : State) : Option Profile :=
  if s.tables.profile.state = .valid then some (profileOfEntry (entRead s.tables.profile.entries 0)) else none

/-- The node table's entries while it is VALID (R24). -/
def nodesOf (s : State) : List NodeEntry := (contents s.tables.node).map nodeOfEntry

/-- The node of a role and feeder number (0 for other roles) (R24). -/
def nodeOf (role : Role) (feeder : Nat) (s : State) : Option NodeEntry :=
  (nodesOf s).find? fun n => n.role == some role && n.feeder == feeder

/-- The node of an address (R19). -/
def nodeAt (addr : Nat) (s : State) : Option NodeEntry := (nodesOf s).find? fun n => n.addr == addr

/-- The nodes whose positions and windows the Track Unit has: none until the pitch notice after the commit of the node table (R92). -/
def trackNodes (s : State) : List NodeEntry := if s.track.positions then nodesOf s else []

/-- The position of a role's node as the Track Unit has it: E, C, D, X (R24, R92). -/
def positionOf (role : Role) (s : State) : Option Nat :=
  ((trackNodes s).find? fun n => n.role == some role && n.feeder == 0).map (·.position)

/-- Position `p` stands below the divert position D (R103); no position does while there is no D (log 26). -/
def belowGate (p : Nat) (s : State) : Bool :=
  match positionOf .divertGate s with
  | some d => p < d
  | none => false

/-- The node address of a role, 0 when there is none. -/
def addrOf (role : Role) (s : State) : Nat := ((nodeOf role 0 s).map (·.addr)).getD 0

/-- The last status of a role's node (R23, R59). -/
def lastStatusOf (role : Role) (feeder : Nat) (s : State) : Option (StationState × Byte) :=
  match (nodesOf s).findIdx? fun n => n.role == some role && n.feeder == feeder with
  | some i => ((s.loop.nodeRecs[i]?).map (·.status)).join
  | none => none

/-- The pockets of the defect list while it is VALID (R35, R86). -/
def defectPockets (s : State) : List Nat := (contents s.tables.defect).map fun e => entByte e 0

/-- The scheme's entries while it is VALID (R128). -/
def schemeOf (s : State) : List SchemeEntry := (contents s.tables.scheme).map schemeOfEntry

/-- A bin's capacity, 0 while the bin table is not VALID (R130, R144). -/
def capacityOf (b : Nat) (s : State) : Nat := entNum ((contents s.tables.bin).getD b zeroEntry) 0 2

/-- The overflow warning level, 0 while the bin table is not VALID (R136, R144). -/
def warningLevel (s : State) : Nat := entNum ((contents s.tables.bin).getD 0 zeroEntry) 0 2

/-- The required-tables condition (R46). -/
def requiredTables : List TableId := [.lineProfile, .nodeTable, .jobTable, .scheme, .groupTable, .binTable]

/-- The lowest-numbered required table that is not VALID (R46, R147). -/
def firstInvalidTable (s : State) : Option TableId := requiredTables.find? fun t => (s.tables.get t).state != .valid

/-- A feeder's working job values; 0, none, none while there are none (R110). -/
def feederJob (k : Nat) (s : State) : FeederJob :=
  match s.tables.work with
  | some w => vget w.feeders (k - 1)
  | none => { caliper := 0, alternate := 0, pair := 0 }

/-- A feeder's record, for feeder 1 to 12 (R110). -/
def feederRec (k : Nat) (s : State) : FeederRec := vget s.feeders.recs (k - 1)

/-- A feeder is available when it is present and READY (R110). -/
def available (k : Nat) (s : State) : Bool := (feederRec k s).state == .ready

/-! ### Held flags, claims and free (R71, R92, R131, R146, R163, R165) -/

/-- The stage holds a set (R146). -/
def stageHeld (s : State) : Bool := s.stage.assembly.isSome || s.stage.ready.isSome

/-- The track holds a set pocket (R146). -/
def trackHeld (s : State) : Bool := s.track.recs.any fun r => r.content.isSome

/-- The line is held (R146). -/
def held (s : State) : Bool := stageHeld s || trackHeld s

/-- The stopped state: PAUSED when the line is held, HALTED when it is not (09, R146). -/
def stoppedState (s : State) : LineState := if held s then .paused else .halted

/-- Claims of a set in the stage: 2, and 1 while its rebind is unspent (R71). -/
def setClaims (x : Option SetRec) : Nat :=
  match x with
  | none => 0
  | some r => if r.rebindSpent then 2 else 3

/-- Claims of a pocket record: 2 before its exit decision, 1 after it (R92). -/
def pocketClaims (r : PocketRec) : Nat :=
  match r.content with
  | none => 0
  | some _ => if r.exitDecision.isSome then 1 else 2

def stageClaims (s : State) : Nat := setClaims s.stage.assembly + setClaims s.stage.ready
def trackClaims (s : State) : Nat := (s.track.recs.map pocketClaims).sum
def presortClaims (s : State) : Nat := s.presort.bins.toList.countP fun b => b.state == .opened

/-- The claims count (R165). -/
def claims (s : State) : Nat := stageClaims s + trackClaims s + presortClaims s

/-- Free: 512 less the occupancy (R163). -/
def free (s : State) : Nat := Config.outcomeCapacity - s.outcomes.recs.length

/-! ### The loop's queues (R20) -/

/-- Loop counter `n`, 1 to 9, increases by 1 (R34). -/
def LoopIf.bump (n : Nat) (l : LoopIf) : LoopIf := { l with counters := vmod l.counters (n - 1) (satInc Config.counterMax) }

/-- Loop counter `n` increases by 1 (R34). -/
def bumpLoop (n : Nat) (s : State) : State := { s with loop := s.loop.bump n }

/-- Run counter `n`, 1 to 31, increases by 1 (R168). -/
def bumpRun (n : Nat) (s : State) : State :=
  { s with outcomes := { s.outcomes with counters := vmod s.outcomes.counters (n - 1) (satInc Config.counterMax) } }

/-- The next cell of the own-cell side: the roll slot, then orders, replies, notices (R20). -/
def LoopIf.ownNext (l : LoopIf) : Option (Cell × LoopIf) :=
  match l.rollSlot, l.orders, l.replies, l.notices with
  | some c, _, _, _ => some (c, { l with rollSlot := none })
  | none, c :: cs, _, _ => some (c, { l with orders := cs })
  | none, [], c :: cs, _ => some (c, { l with replies := cs })
  | none, [], [], c :: cs => some (c, { l with notices := cs })
  | none, [], [], [] => none

/-- The arbiter's choice of the next cell to send (R20). With both sides waiting it alternates; before anything was sent it takes
the own side (log 12). -/
def LoopIf.choose (l : LoopIf) : LoopIf :=
  match l.forward, l.ownNext with
  | [], none => { l with wire := none }
  | [], some (c, l') => { l' with wire := some (c, .own) }
  | c :: cs, none => { l with forward := cs, wire := some (c, .forwarded) }
  | c :: cs, some (o, l') =>
    if l.lastSide = some .own then { l with forward := cs, wire := some (c, .forwarded) }
    else { l' with wire := some (o, .own) }

/-- While LOOP_OUT sends idle fill, a waiting cell is taken for sending at once (R20, log 11). -/
def LoopIf.start (l : LoopIf) : LoopIf := if l.wire = none then l.choose else l

/-- An ORDER cell joins the order queue, or is an order overrun (R20). -/
def LoopIf.order (c : Cell) (l : LoopIf) : LoopIf :=
  if l.orders.length < Config.orderCapacity then LoopIf.start { l with orders := l.orders ++ [c] } else l.bump 7

/-- A REPLY cell joins the reply queue (R20); the dispatcher looks for room first (R25). -/
def LoopIf.reply (c : Cell) (l : LoopIf) : LoopIf := LoopIf.start { l with replies := l.replies ++ [c] }

/-- A NOTICE of class `cls` to one destination joins the notice queue with the dropped count, or is dropped (R31). -/
def LoopIf.placeNotice (cls : Nat) (data : List Byte) (l : LoopIf) (dest : Nat) : LoopIf :=
  if l.notices.length < Config.noticeCapacity then
    LoopIf.start { l with
      notices := l.notices ++ [ownCell dest 0x51 0 (beBytes 1 cls ++ beBytes 1 l.dropped ++ data)], dropped := 0 }
  else { l.bump 9 with dropped := satInc 255 l.dropped }

/-- The destinations of a notice (R30). -/
def noticeDests (s : State) : List Nat :=
  if s.tables.node.state = .valid then
    ((nodesOf s).filter fun n => n.role == some .lineComputer || n.role == some .panel).map (·.addr)
  else s.loop.lastManager.toList

/-- A block asks for a notice of class 1 to 5 (R29). -/
def notice (cls : Nat) (data : List Byte) (s : State) : State :=
  if vget s.loop.noticeMask (cls - 1) then
    { s with loop := (noticeDests s).foldl (LoopIf.placeNotice cls data) s.loop }
  else s

/-- A block issues an order to a node (R20, R24); while the node table is not VALID there is no node and no order. -/
def issueOrder (dest : Option NodeEntry) (payload : List Byte) (s : State) : State :=
  match dest with
  | some n => { s with loop := s.loop.order (ownCell n.addr 0x20 0 payload) }
  | none => s

/-! ### Writing outcome records (R163, R164, R168) -/

/-- The run counters a record increases (R168). -/
def recordCounters : Record → List Nat
  | .mailed .. => [2]
  | .held .. => [3]
  | .diverted .. => [4]
  | .stray .. => [9]
  | .missing _ .setStrayed => [5, 8]
  | .missing _ _ => [5]
  | .purged .. => [6]
  | .lost (.account _) _ => [7]
  | .lost (.stray _) _ => [9]
  | .tray .. => [10]

/-- A record joins the outcome queue, reaches the run counters, and may ask for a QUEUE LEVEL notice (R163, R164, R168). -/
def writeRecord (r : Record) (s : State) : State :=
  let s1 := { s with outcomes := { s.outcomes with recs := s.outcomes.recs ++ [r] } }
  let s2 := (recordCounters r).foldl (fun s n => bumpRun n s) s1
  if s2.outcomes.recs.length = Config.queueLevel then notice 4 (beBytes 2 s2.outcomes.recs.length) s2 else s2

/-! ### Marks (R71) -/

/-- Append a reason unless it is already present (R71). -/
def addMark (r : Reason) (l : List Reason) : List Reason := if r ∈ l then l else l ++ [r]

/-- Place a reason at the head unless it is already present (R71). -/
def headMark (r : Reason) (l : List Reason) : List Reason := if r ∈ l then l else r :: l

/-- Mark a set suspect: the flag, and SUSPECT appended; a set already suspect does not change (R89, R104). -/
def markSuspect (x : SetRec) : SetRec :=
  if x.suspect then x else { x with suspect := true, marks := addMark .suspect x.marks }

/-- The sheet count: entries and extra sheets (R71). -/
def sheetCount (x : SetRec) : Nat := x.sheets.length + x.extraSheets

/-- A set is clean: no mark and not suspect (R94). -/
def clean (x : SetRec) : Bool := x.marks.isEmpty && !x.suspect

/-- Change the pocket record at position `p`. -/
def modPocket (p : Nat) (f : PocketRec → PocketRec) (s : State) : State :=
  { s with track := { s.track with recs := s.track.recs.modify p f } }

end Sys2Proof.Machine
end

