-- ==== Sys2Proof/Machine/Flags.lean ====
section
/-! DEFINITION. Conditions and the line: the fault latch table, the line state and its drive outputs, recovery, and the Line
Controller's response to each raising (R11 to R13, R145, R150 to R161). -/

namespace Sys2Proof.Machine

/-! ### The latch table (R153) -/

def latchIdx (k : LatchKind) : Nat := latchCode k - 1

/-- The latch of a kind. -/
def latch (k : LatchKind) (s : State) : Latch := vget s.line.latches (latchIdx k)

/-- A condition is up: its latch is ACTIVE (R153). -/
def up (k : LatchKind) (s : State) : Bool := (latch k s).state == .active

/-- Replace the latch of a kind. -/
def putLatch (k : LatchKind) (l : Latch) (s : State) : State :=
  { s with line := { s.line with latches := vset s.line.latches (latchIdx k) l } }

/-- The occurrence after one more raising: from 255 to 1 (R153). -/
def nextOccurrence (n : Nat) : Nat := if n < 255 then n + 1 else 1

/-- A latch after a raising (R153). -/
def Latch.raised (l : Latch) (sort number : Nat) : Latch :=
  { state := .active, occurrence := nextOccurrence l.occurrence, sort := sort, number := number,
    raisings := satInc 65535 l.raisings }

/-- The latch takes a raising: it becomes ACTIVE, a LATCH notice is asked for, and the clean-pitch count returns to 0 (R153). -/
def takeRaising (k : LatchKind) (sort number : Nat) (s : State) : State :=
  let l := (latch k s).raised sort number
  let s := putLatch k l s
  let s := { s with line := { s.line with clean := 0 } }
  notice 2 ([BitVec.ofNat 8 (latchCode k), BitVec.ofNat 8 l.occurrence, BitVec.ofNat 8 sort, BitVec.ofNat 8 number]) s

/-- A recovery condition is up: JAM, RING BREAK or COLLATION OVERRUN, or the station-loss set is not empty (R156). -/
def recoveryCondition (s : State) : Bool :=
  up .jam s || up .ringBreak s || up .collationOverrun s || !s.line.stationLoss.isEmpty

/-- The full recovery hold of the line profile, in 10 us units (R157). -/
def fullHold (s : State) : Nat := ((profileOf s).map (·.hold)).getD 0 * Config.holdStep

/-- In WAIT, at the event after which no recovery condition is up, the hold starts afresh (R158): `before` is the state the event
found, `s` the state it leaves. -/
def endWait (before s : State) : State :=
  if s.line.phase = .wait ∧ recoveryCondition before = true ∧ recoveryCondition s = false then
    { s with line := { s.line with phase := .hold, holdLeft := fullHold s } }
  else s

/-- A condition is lowered: an ACTIVE latch becomes LATCHED (R153). -/
def lower (k : LatchKind) (s : State) : State := if up k s then putLatch k { latch k s with state := .latched } s else s

/-! ### The drive outputs (R11, R13) -/

/-- DRIVE_EN as R13 states it, from the line state and ESTOP_N as taken. -/
def wantEn (s : State) : Bool := driveState s.line.state && !s.pitch.estopAsserted

/-- DRIVE_CRAWL as R13 states it. -/
def wantCrawl (s : State) : Bool := wantEn s && s.line.state == .priming

/-- The outputs take their levels; a change of DRIVE_EN, or of DRIVE_CRAWL while enabled, empties the meter, which is reported to
the Line Controller (R10, R11). The 10 ms roll timer starts when the drive goes off and stops when it goes on (R21). -/
def driveOutputs (s : State) : State :=
  let en := wantEn s
  let crawl := wantCrawl s
  let changed := s.pitch.driveEn != en || (en && s.pitch.driveCrawl != crawl)
  let pitch := { s.pitch with driveEn := en, driveCrawl := crawl }
  let pitch := if changed then { pitch with meter := [], openPeriod := none } else pitch
  let line := if changed then { s.line with meterValid := false } else s.line
  let timer := if s.pitch.driveEn == en then s.loop.rollTimer else if en then none else some 0
  { s with pitch := pitch, line := line, loop := { s.loop with rollTimer := timer } }

/-- DRIVE RATE is lowered when DRIVE_EN goes from asserted to deasserted (R12). -/
def lowerDriveRate (wasOn : Bool) (s : State) : State :=
  if wasOn && !s.pitch.driveEn && s.pitch.driveRateUp then
    lower .driveRate { s with pitch := { s.pitch with driveRateUp := false } }
  else s

/-- The Pitch Unit takes a change of line state or of the ESTOP_N level (R13). -/
def updateDrive (s : State) : State := lowerDriveRate s.pitch.driveEn (driveOutputs s)

/-! ### The line state (R145) -/

/-- When the line leaves RUNNING an ongoing feed hold ends (R63). -/
def endFeedHold (s : State) : State :=
  match s.acct.holdReason with
  | some r => notice 3 [2, BitVec.ofNat 8 (holdCode r)] { s with acct := { s.acct with holdReason := none } }
  | none => s

/-- The Line Controller's own record of a change of line state: previous state and cause (R162); drain-pending is no in a stopped
state and in LOCKOUT (R152); a recovery is over outside RECOVERY (R158, R160, R161); entering RUNNING zeroes the clean-pitch count
(R151). -/
def lineChanged (new : LineState) (cause : Nat) (l : LineCtl) : LineCtl :=
  { l with
    state := new, prev := l.state, lastCause := cause
    drainPending := if stoppedLine new || new == .lockout then false else l.drainPending
    phase := if new = .recovery then l.phase else .none
    holdLeft := if new = .recovery then l.holdLeft else 0
    clean := if new = .running then 0 else l.clean }

/-- STATION TIMING is lowered when the line leaves a drive-on state for a drive-off one (R145). -/
def lowerTiming (old new : LineState) (s : State) : State :=
  if driveState old && !driveState new then lower .stationTiming s else s

/-- The search count returns to 0 when the line enters PRIMING (R7, R150). -/
def startSearch (new : LineState) (s : State) : State :=
  if new = .priming then { s with pitch := { s.pitch with searchCount := 0 } } else s

/-- A change of line state, in one event (R145): the Line Controller's record, STATION TIMING, the Pitch Unit's outputs, the feed
hold's end, and the LINE STATE notice with the cause (0, or a latch code). -/
def setLine (new : LineState) (cause : Nat) (s : State) : State :=
  let old := s.line.state
  let s := { s with line := lineChanged new cause s.line }
  let s := lowerTiming old new s
  let s := startSearch new (updateDrive s)
  let s := if old = .running then endFeedHold s else s
  notice 1 [BitVec.ofNat 8 (lineCode old), BitVec.ofNat 8 (lineCode new), BitVec.ofNat 8 cause] s

/-! ### Suspect marking and recovery (R89, R104, R157) -/

/-- The stage's sets become suspect (R89). -/
def suspectStage (s : State) : State :=
  { s with stage := { s.stage with assembly := s.stage.assembly.map markSuspect, ready := s.stage.ready.map markSuspect } }

/-- The set pockets at positions 0 to D-1 become suspect (R104). -/
def suspectTrack (s : State) : State :=
  { s with track := { s.track with
      recs := s.track.recs.mapIdx fun p r => if belowGate p s then { r with content := r.content.map markSuspect } else r } }

/-- The Line Controller asks for suspect marking (R89, R104). -/
def suspectAll (s : State) : State := suspectTrack (suspectStage s)

/-- Entry to RECOVERY (R157). -/
def enterRecovery (cause : Nat) (s : State) : State :=
  let draining := s.line.state == .draining
  let s := suspectAll (setLine .recovery cause s)
  { s with line := { s.line with
      drainPending := draining || s.line.drainPending, phase := .hold, holdLeft := fullHold s } }

/-- PRIMING ends once counter and meter are both valid as reported (R150). -/
def endPriming (s : State) : State :=
  if s.line.state = .priming ∧ s.line.counterValid ∧ s.line.meterValid then
    let target := if s.line.drainPending then LineState.draining else .running
    setLine target 0 { s with line := { s.line with drainPending := false } }
  else s

/-- The meter's valid flag (R10). -/
def meterValid (s : State) : Bool := s.pitch.meter.length == Config.meterEntries

/-- The Line Controller takes the Pitch Unit's reports of counter and meter validity (R5, R10, R150). -/
def takeReports (s : State) : State :=
  endPriming { s with line := { s.line with counterValid := s.pitch.counterValid, meterValid := meterValid s } }

/-- Roles whose loss is a recovery kind (R155). -/
def stationRole : Role → Bool
  | .sheetStation | .envReader | .envStation | .caliper | .divertGate | .closer | .sorter => true
  | .insertFeeder | .lineComputer | .panel => false

/-- A recovery kind acting on the line (R155, second row). -/
def respondRecovery (cause : Nat) (s : State) : State := if driveState s.line.state then enterRecovery cause s else s

/-- The response to ESTOP (R161). -/
def respondEstop (s : State) : State :=
  match s.line.state with
  | .priming | .running | .draining =>
      let s := suspectAll s
      setLine (stoppedState s) (latchCode .estop) s
  | .recovery => setLine (stoppedState s) (latchCode .estop) s
  | .halted | .paused | .lockout => s

/-- The response to ESSENTIAL LOST (R155, R160). -/
def respondEssential (s : State) : State :=
  match s.line.state with
  | .priming | .running => setLine .lockout (latchCode .essentialLost) s
  | .recovery => if s.line.drainPending then s else setLine .lockout (latchCode .essentialLost) s
  | .draining | .halted | .paused | .lockout => s

/-- The response to GROUP EXHAUSTED (R152, R155). -/
def respondGroup (s : State) : State :=
  match s.line.state with
  | .priming | .recovery => { s with line := { s.line with drainPending := true } }
  | .running => setLine .draining (latchCode .groupExhausted) s
  | .draining | .halted | .paused | .lockout => s

/-- The Line Controller's response to a raising, by kind and line state (R155); `role` is the lost node's, for NODE LOST. -/
def respond (k : LatchKind) (role : Option Role) (s : State) : State :=
  match k with
  | .estop => respondEstop s
  | .jam | .driveRate | .chainSlip | .ringBreak | .stationTiming | .collationOverrun => respondRecovery (latchCode k) s
  | .nodeLost => if (role.map stationRole).getD false then respondRecovery (latchCode k) s else s
  | .essentialLost => respondEssential s
  | .groupExhausted => respondGroup s
  | .retriesExhausted => if s.line.state = .recovery then setLine .lockout (latchCode k) s else s
  | .feederFault | .unexpectedMotion | .tableBad => s

/-- A block raises a condition: the latch takes it, the line responds, and a STATION TIMING raising taken with the drive off is
lowered in the same event (R145, R153, R155). -/
def raiseFor (role : Option Role) (k : LatchKind) (sort number : Nat) (s : State) : State :=
  let s := respond k role (takeRaising k sort number s)
  if k = .stationTiming ∧ s.pitch.driveEn = false then lower k s else s

/-- A raising of a kind other than NODE LOST. -/
def raise (k : LatchKind) (sort number : Nat) (s : State) : State := raiseFor none k sort number s

/-- A condition raised and lowered in one event (R153). -/
def pulse (k : LatchKind) (s : State) : State := lower k (raise k 0 0 s)

end Sys2Proof.Machine
end

