-- ==== Sys2Proof/Machine/Manage.lean ====
section
/-! DEFINITION. How a command runs (RESET_N and the operand checks), and the management dispatcher: admission, replies, the notice
mask (R25 to R27, R32). -/

namespace Sys2Proof.Machine

/-! ### Running a command -/

/-- A command takes effect while RESET_N is high; while it is low the part is held (log 4). Operands that are no event of the
command's row (`ok` false) change nothing (log 3). -/
def run (ok : Bool) (f : State → State) (s : State) : Out State := .next (if s.pins.resetN && ok then f s else s)

/-! ### The dispatcher (R25, R26, R27) -/

/-- One item of an answer: its result code and its data (R27). -/
abbrev Item := ResultCode × List Byte

/-- An answer of one REPLY (R27). -/
def one (c : ResultCode) (data : List Byte) : List Item := [(c, data)]

/-- What the owner of a request does with it: the new state, and the items of its answer. -/
abbrev Handler := Cell → State → State × List Item

/-- The dispatcher is idle (R25, R33). -/
def idle (s : State) : Bool := s.loop.dispatcher == Dispatcher.idle

/-- The kinds a PANEL may send: READ, START, STOP, CUT, CLEAR FAULT, FEEDER ENABLE, FEEDER DISABLE (R26). -/
def panelKinds : List Nat := [0x32, 0x3B, 0x3C, 0x3D, 0x3E, 0x3F, 0x42]

/-- A request's source is admitted for its kind (R26). -/
def admitted (c : Cell) (s : State) : Bool :=
  if s.tables.node.state = .valid then
    match nodeAt c.src.toNat s with
    | some n => n.role == some .lineComputer || (n.role == some .panel && panelKinds.contains (kindCode c.kind))
    | none => false
  else true

/-- While the node table is not VALID the source of an admitted request is the last manager (R26). -/
def rememberManager (c : Cell) (s : State) : State :=
  if s.tables.node.state = .valid then s else { s with loop := { s.loop with lastManager := some c.src.toNat } }

/-- A REPLY cell: result code in bits 0 to 3, last-item flag in bit 7, 13 data bytes; addressed to the request's source and
echoing its tag (R27, 02 "Reply and notice"). -/
def replyCell (dest : Nat) (tag : Byte) (last : Bool) (i : Item) : Cell :=
  ownCell dest 0x50 tag (BitVec.ofNat 8 (resultNumber i.1 + if last then 128 else 0) :: padTo 13 i.2)

/-- The REPLY cells of an answer, the last-item flag on the final one (R27). -/
def replyCells (dest : Nat) (tag : Byte) : List Item → List Cell
  | [] => []
  | [i] => [replyCell dest tag true i]
  | i :: is => replyCell dest tag false i :: replyCells dest tag is

/-- Place replies in the reply queue while it has room; the rest wait (R25). -/
def placeReplies : List Cell → LoopIf → LoopIf × List Cell
  | [], l => (l, [])
  | c :: cs, l => if l.replies.length < Config.replyCapacity then placeReplies cs (l.reply c) else (l, c :: cs)

/-- The answer of a request goes to its source (R25, R27). -/
def answer (c : Cell) (items : List Item) (s : State) : State :=
  let (l, left) := placeReplies (replyCells c.src.toNat c.tag items) s.loop
  { s with loop := { l with dispatcher := { l.dispatcher with waiting := left } } }

/-- The oldest management cell leaves the input queue (R25). -/
def popRequest (s : State) : State := { s with loop := { s.loop with mgmtIn := s.loop.mgmtIn.tail } }

/-- The dispatcher acts on a request it has taken: admission, the owner's handling, the answer (R26, R27). -/
def serve (h : Handler) (c : Cell) (s : State) : State :=
  if admitted c s then
    let r := h c (rememberManager c s)
    answer c r.2 r.1
  else answer c (one .notManager []) s

/-- The request the dispatcher can take: the oldest cell in the input queue, when it is of this kind and the dispatcher is idle
(R25). -/
def nextRequest (kind : Nat) (s : State) : Option Cell :=
  match s.loop.mgmtIn with
  | c :: _ => if kindCode c.kind = kind ∧ idle s then some c else none
  | [] => none

/-- The dispatcher takes a request of a kind; with none to take nothing happens (log 2, log 9). -/
def request (kind : Nat) (h : Handler) (s : State) : State :=
  match nextRequest kind s with
  | some c => serve h c (popRequest s)
  | none => s

/-! ### NOTICE MASK (R32) -/

/-- NOTICE MASK (R32). DESIGN CHOICE: the previous mask is data byte 0 of the reply, bit n-1 for class n, as in the request (log 45). -/
def noticeMaskHandler : Handler := fun c s =>
  let new : Vector Bool 5 := Vector.ofFn fun i => (payByte c 4).testBit i.val
  ({ s with loop := { s.loop with noticeMask := new } },
    one .accepted (beBytes 1 (bitMap s.loop.noticeMask.toList)))

def execNoticeMask (s : State) : Out State := run true (request 0x46 noticeMaskHandler) s

end Sys2Proof.Machine
end

