-- ==== Sys2Proof/Machine/Presort.lean ====
section
/-! DEFINITION. The Presort Unit (08, R128 to R144): the lookup, trays, the exit decision, exhaustion, sorter reports, CLOSE GROUP
and RESTART GROUP, and its part of a run clear. -/

namespace Sys2Proof.Machine

/-- The number made by a list of digits, the first the most significant (R128). -/
def digitsNum (l : List Nat) : Nat := l.foldl (fun a d => a * 10 + d) 0

/-- The scheme entry of digit length `n` that covers the code's first `n` digits (R128). -/
def schemeHit (entries : List SchemeEntry) (postal : List Nat) (n : Nat) : Option SchemeEntry :=
  if n ≤ postal.length then
    entries.find? fun e => e.digits == n && e.low ≤ digitsNum (postal.take n) && digitsNum (postal.take n) ≤ e.high
  else none

/-- The presort lookup (R128). -/
def presortLookup (postal : List Nat) (s : State) : Nat :=
  if postal.any fun d => 10 ≤ d then 0
  else (([11, 9, 5, 3].findSome? (schemeHit (schemeOf s) postal)).map (·.group)).getD 0

/-! ### Groups and bins -/

def groupRec (g : Nat) (s : State) : GroupRec := vget s.presort.groups g
def modGroup (g : Nat) (f : GroupRec → GroupRec) (s : State) : State :=
  { s with presort := { s.presort with groups := vmod s.presort.groups g f } }

/-- Bin 1 to 16. -/
def binRec (b : Nat) (s : State) : BinRec := vget s.presort.bins (b - 1)
def putBin (b : Nat) (r : BinRec) (s : State) : State :=
  { s with presort := { s.presort with bins := vset s.presort.bins (b - 1) r } }

/-- The group whose rotation list holds a bin (R130). -/
def ownerOf (b : Nat) (s : State) : Option Nat := (List.range 64).find? fun g => (groupRec g s).rotation.contains b

/-- A bin is usable when it is READY or OPEN (R130, R132). -/
def usable (b : Nat) (s : State) : Bool := (binRec b s).state == .ready || (binRec b s).state == .opened

/-- Some STOP group is EXHAUSTED (R135). -/
def stopExhausted (s : State) : Bool := s.presort.groups.toList.any fun g => g.action == .stop && g.state == .exhausted

/-- GROUP EXHAUSTED is lowered once no STOP group is EXHAUSTED (R135). -/
def evalExhausted (s : State) : State := if stopExhausted s then s else lower .groupExhausted s

/-- The tray counter's next value: from 65,535 to 1 (R131). -/
def nextTray (n : Nat) : Nat := if n < 65535 then n + 1 else 1

/-- A tray is opened in a READY bin for a piece of group g (R131). -/
def openTray (g b seq : Nat) (s : State) : State :=
  let t := (groupRec g s).tray
  let s := putBin b { state := .opened, count := 0, tray := t, firstSeq := seq, lastSeq := seq } s
  modGroup g (fun r => { r with tray := nextTray r.tray }) s

/-- A tray is closed: the TRAY record is written and the count becomes 0 (R131). A bin that becomes FULL keeps its tray number and
seqs; one that becomes READY or OFFLINE has none (R130, R137, R138). -/
def closeTray (b : Nat) (cause : TrayCause) (after : BinState) (s : State) : State :=
  let r := binRec b s
  let g := (ownerOf b s).getD 0
  let r' : BinRec :=
    if after = .full then { r with state := .full, count := 0 }
    else { state := after, count := 0, tray := 0, firstSeq := 0, lastSeq := 0 }
  writeRecord (.tray g cause b r.tray r.count r.firstSeq r.lastSeq) (putBin b r' s)

/-- A group becomes EXHAUSTED; a STOP group raises GROUP EXHAUSTED (R134). -/
def exhaust (g : Nat) (s : State) : State :=
  let s' := modGroup g (fun r => { r with state := .exhausted }) s
  if (groupRec g s).action = .stop then raise .groupExhausted 4 g s' else s'

/-! ### The exit decision (R132, R133, R136) -/

/-- SINGLE search: from index `i`, at most `fuel` further bins (R132). -/
def searchSingle (rot : List Nat) (s : State) : Nat → Nat → Option Nat
  | 0, i => if usable (rot.getD i 0) s then some i else none
  | fuel + 1, i => if usable (rot.getD i 0) s then some i else searchSingle rot s fuel (i + 1)

/-- LOOP search: examine `fuel` bins from index `i`, wrapping (R132). -/
def searchLoop (rot : List Nat) (s : State) : Nat → Nat → Option Nat
  | 0, _ => none
  | fuel + 1, i =>
    if usable (rot.getD i 0) s then some i
    else searchLoop rot s fuel (if i + 1 < rot.length then i + 1 else 0)

/-- The index of the bin an ACTIVE group's search finds (R132). -/
def searchBin (g : GroupRec) (s : State) : Option Nat :=
  match g.mode with
  | .single => searchSingle g.rotation s (g.rotation.length - 1 - g.index) g.index
  | .loop => searchLoop g.rotation s g.rotation.length g.index

/-- After a fill the index advances: LOOP wraps; SINGLE at its last bin stays, and the group becomes EXHAUSTED (R133). -/
def advanceIndex (g : Nat) (s : State) : State :=
  let r := groupRec g s
  if r.index + 1 < r.rotation.length then modGroup g (fun r => { r with index := r.index + 1 }) s
  else
    match r.mode with
    | .loop => modGroup g (fun r => { r with index := 0 }) s
    | .single => exhaust g s

/-- A piece is placed in bin b and counted (R133). -/
def placePiece (g b seq : Nat) (s : State) : State × ExitDecision :=
  let s := if (binRec b s).state = .ready then openTray g b seq s else s
  let r := binRec b s
  let r' := { r with count := r.count + 1, lastSeq := seq }
  let s := putBin b r' s
  let d := ExitDecision.binned b g r'.tray r'.count
  if r'.count = capacityOf b s then (advanceIndex g (closeTray b .filled .full s), d) else (s, d)

/-- A piece goes to the overflow bin (R136). -/
def overflowPiece (g : Nat) (why : HeldReason) (s : State) : State × ExitDecision :=
  let n := satInc 65535 s.presort.overflow
  let s' := { s with presort := { s.presort with overflow := n } }
  let s'' := if n ≠ s.presort.overflow ∧ n = warningLevel s ∧ warningLevel s ≠ 0 then notice 5 (beBytes 2 n) s' else s'
  (s'', .held g why)

/-- The exit decision for a piece of group g (R132). -/
def exitDecision (g seq : Nat) (s : State) : State × ExitDecision :=
  let r := groupRec g s
  match r.state with
  | .unused => overflowPiece g .unusedGroup s
  | .exhausted => overflowPiece g .exhausted s
  | .active =>
    match searchBin r s with
    | some i => placePiece g (r.rotation.getD i 0) seq (modGroup g (fun r => { r with index := i }) s)
    | none =>
      let last := if r.mode = .single then r.rotation.length - 1 else r.index
      overflowPiece g .exhausted (exhaust g (modGroup g (fun r => { r with index := last }) s))

/-! ### Sorter reports (R137 to R141) -/

/-- A bin that became READY may return its exhausted LOOP group to ACTIVE (R140). -/
def reactivate (b : Nat) (s : State) : State :=
  match ownerOf b s with
  | some g =>
    let r := groupRec g s
    if r.mode = .loop ∧ r.state = .exhausted then
      evalExhausted (modGroup g (fun r => { r with state := .active, index := r.rotation.idxOf b }) s)
    else s
  | none => s

/-- BIN EMPTIED (R137). -/
def binEmptied (b : Nat) (s : State) : State :=
  match (binRec b s).state with
  | .ready | .offline => s
  | .opened => reactivate b (closeTray b .forced .ready s)
  | .full => reactivate b (putBin b BinRec.emptyReady s)

/-- BIN OFFLINE (R138). -/
def binOffline (b : Nat) (s : State) : State :=
  match (binRec b s).state with
  | .ready | .full => putBin b { BinRec.emptyReady with state := .offline } s
  | .opened => closeTray b .forced .offline s
  | .offline => s

/-- BIN ONLINE (R138). -/
def binOnline (b : Nat) (s : State) : State :=
  match (binRec b s).state with
  | .offline => reactivate b (putBin b BinRec.emptyReady s)
  | .ready | .opened | .full => s

/-- The sorter's STATUS at the overflow bin (R141). -/
def sorterStatus (st : StationState) (detail : Byte) (s : State) : State :=
  match st with
  | .jam => if detail.getLsbD 0 then { s with presort := { s.presort with reportedFull := true } } else s
  | .ready =>
    if s.presort.reportedFull then { s with presort := { s.presort with reportedFull := false, overflow := 0 } } else s
  | .empty | .fault => s

/-! ### Management, table changes and the run clear -/

/-- Close each OPEN bin of a list of bins that `pick` names, in order, counting them (R142, R144). -/
def closeBins (cause : TrayCause) (pick : Nat → State → Bool) : List Nat → State → State × Nat
  | [], s => (s, 0)
  | b :: bs, s =>
    if (binRec b s).state = .opened ∧ pick b s then
      let (s', n) := closeBins cause pick bs (closeTray b cause .full s)
      (s', n + 1)
    else closeBins cause pick bs s

/-- The bins in ascending number. -/
def allBins : List Nat := (List.range 16).map (· + 1)

/-- The group records of a VALID group table: index 0, ACTIVE or UNUSED, tray counters kept (R129). -/
def groupsOfEntries (es : List (List Byte)) (old : Vector GroupRec 64) : Vector GroupRec 64 :=
  Vector.ofFn fun g =>
    match es[g.val]? with
    | some e =>
      let f := groupOfEntry e
      { rotation := f.bins, mode := if f.mode = 2 then .loop else .single
        action := if f.action = 2 then .stop else .overflow, index := 0
        state := if f.bins.isEmpty then .unused else .active, tray := (vget old g.val).tray }
    | none => GroupRec.unused (vget old g.val).tray

/-- The group table comes into use (R129). -/
def groupsIntoUse (es : List (List Byte)) (s : State) : State :=
  lower .groupExhausted { s with presort := { s.presort with groups := groupsOfEntries es s.presort.groups } }

/-- The group table leaves use (R129). -/
def groupsOutOfUse (s : State) : State :=
  lower .groupExhausted { s with presort := { s.presort with groups := groupsOfEntries [] s.presort.groups } }

/-- A group's record after a run clear (R144). -/
def GroupRec.cleared (r : GroupRec) : GroupRec :=
  { r with index := 0, tray := 1, state := if r.rotation.isEmpty then .unused else .active }

/-- The Presort Unit's part of a run clear, with the number of trays closed (R144). -/
def presortRunClear (s : State) : State × Nat :=
  let (s, n) := closeBins .runClear (fun _ _ => true) allBins s
  (lower .groupExhausted { s with presort := { s.presort with groups := vmap GroupRec.cleared s.presort.groups } }, n)

end Sys2Proof.Machine
end

