-- ==== Sys2Proof/Machine/Accounts.lean ====
section
/-! DEFINITION. The Account Queue and the pull list (04, R54 to R58 and R64 to R68). The take is in PitchMark.lean. -/

namespace Sys2Proof.Machine

/-- A sequence number, 1 to 16,777,215 (R54). -/
def seqOk (n : Nat) : Bool := 1 ≤ n && n ≤ Config.seqMax

def putAcct (a : AccountQueue) (s : State) : State := { s with acct := a }

/-! ### Loading a record in two halves (R54 to R57) -/

/-- The fields of a half A are in range (R54). -/
def halfAOk (h : HalfA) (badInserts : Bool) : Bool := seqOk h.seq && 1 ≤ h.pages && h.pages ≤ 24 && !badInserts

/-- The seq that must come next (R55): any before there is a tail. -/
def inOrder (seq : Nat) (q : AccountQueue) : Bool :=
  match q.tail with
  | some t => seq == t + 1
  | none => true

/-- An ACCT-A out of order is refused with the expected seq; after 16,777,215 there is none, and a free value stands in its place
(R55, log 35). -/
def refuseOrder (s : State) : State × List Item :=
  let t := s.acct.tail.getD 0
  if t < Config.seqMax then (s, one .order (beBytes 3 (t + 1)))
  else ({ s with draws := s.draws + 1 }, one .order (beBytes 3 (Config.seqAfterLast s.draws).toNat))

/-- ACCT-A (R54, R55). -/
def acctAHandler : Handler := fun c s =>
  let (h, bad) := acctAForm c
  if !halfAOk h bad then (s, one .arg [])
  else if !inOrder h.seq s.acct then refuseOrder s
  else
    let s' := putAcct { s.acct with halfA := some h } s
    let n := beBytes 2 s.acct.queue.length
    match s.acct.halfA with
    | none => (s', one .accepted (beBytes 3 0 ++ n))
    | some old => (s', one .incomplete (beBytes 3 old.seq ++ n))

/-- The record two halves form (R54, R56). -/
def formRecord (a : HalfA) (b : AcctBForm) : Account :=
  { seq := a.seq, key := a.key, pages := a.pages, inserts := a.inserts, matchReq := a.matchReq, prePull := a.prePull
    postal := b.postal, envKey := if a.matchReq then some b.envKey else none, recalled := false, skipped := false }

/-- A record joins the queue (R56). -/
def joinQueue (r : Account) (q : AccountQueue) : AccountQueue :=
  { q with queue := q.queue ++ [r], halfA := none, tail := some r.seq, base := some (q.base.getD r.seq) }

/-- ACCT-B (R54, R56). -/
def acctBHandler : Handler := fun c s =>
  let b := acctBForm c
  if !(seqOk b.seq && [3, 5, 9, 11].contains b.given) then (s, one .arg [])
  else
    match s.acct.halfA with
    | none => (s, one .order (beBytes 3 0))
    | some a =>
      if a.seq ≠ b.seq then (s, one .order (beBytes 3 a.seq))
      else if Config.accountCapacity ≤ s.acct.queue.length then (putAcct { s.acct with halfA := none } s, one .full [])
      else
        let q := joinQueue (formRecord a b) s.acct
        (putAcct q s, one .accepted (beBytes 2 q.queue.length))

/-! ### RECALL (R64) -/

/-- Mark the record of a seq recalled (R64). -/
def markRecalled (seq : Nat) (q : List Account) : List Account :=
  q.map fun r => if r.seq = seq then { r with recalled := true } else r

/-- A seq lies from the run base to the tail (R64). -/
def joined (seq : Nat) (q : AccountQueue) : Bool :=
  match q.base, q.tail with
  | some b, some t => b ≤ seq && seq ≤ t
  | _, _ => false

/-- RECALL (R64). -/
def recallHandler : Handler := fun c s =>
  let seq := payNum c 4 3
  if !(seqOk seq && joined seq s.acct) then (s, one .arg [])
  else
    match s.acct.queue.find? fun r => r.seq == seq with
    | none => (s, one .tooLate [])
    | some r =>
      (putAcct { s.acct with queue := markRecalled seq s.acct.queue } s,
        one .accepted [if r.skipped then 2 else if r.recalled then 1 else 0])

/-! ### The pull list (R66 to R68) -/

def putPull (l : List PullEntry) (s : State) : State := { s with tables := { s.tables with pull := l } }

def pullKindCode : PullKind → Nat
  | .once => 1 | .standing => 2

def pullKindOf (n : Nat) : Option PullKind :=
  match n with
  | 1 => some .once
  | 2 => some .standing
  | _ => none

/-- The entry of a key (R66). -/
def pullFind (key : Nat) (l : List PullEntry) : Option PullEntry := l.find? fun e => e.key == key

/-- The list without the entry of a key (R67). -/
def pullDrop (key : Nat) (l : List PullEntry) : List PullEntry := l.filter fun e => e.key != key

/-- PULL ADD (R66). -/
def pullAddHandler : Handler := fun c s =>
  let key := payNum c 4 6
  let reason := payByte c 10
  match pullKindOf (payByte c 11) with
  | none => (s, one .arg [])
  | some kind =>
    if !(1 ≤ reason && reason ≤ 15) then (s, one .arg [])
    else
      match pullFind key s.tables.pull with
      | some e => (s, one .duplicate (beBytes 1 (pullKindCode e.kind) ++ beBytes 1 e.hits))
      | none =>
        if Config.pullCapacity ≤ s.tables.pull.length then (s, one .full [])
        else
          let l := insertBy (·.key) { key := key, reason := reason, kind := kind, hits := 0 } s.tables.pull
          (putPull l s, one .accepted (beBytes 2 l.length))

/-- PULL REMOVE (R67). -/
def pullRemoveHandler : Handler := fun c s =>
  let key := payNum c 4 6
  match pullFind key s.tables.pull with
  | none => (s, one .arg [])
  | some e =>
    let l := pullDrop key s.tables.pull
    (putPull l s, one .accepted (beBytes 1 e.hits ++ beBytes 2 l.length))

/-- The list after a search that hit an entry: a ONCE entry leaves, a STANDING entry counts the hit (R68). -/
def pullHit (e : PullEntry) (l : List PullEntry) : List PullEntry :=
  match e.kind with
  | .once => pullDrop e.key l
  | .standing => l.map fun x => if x.key = e.key then { x with hits := satInc 255 x.hits } else x

/-- The pull-list search for a bound record's key: the hit, and the list after it (R68). -/
def pullSearch (key : Nat) (s : State) : State × Bool :=
  match pullFind key s.tables.pull with
  | some e => (putPull (pullHit e s.tables.pull) s, true)
  | none => (s, false)

/-! ### Binding values (R62) and rebinding (R58) -/

/-- The account fields a record gives a set, with the pull search and the presort lookup (R61 steps 2 and 3, R62). -/
def bindRecord (r : Account) (s : State) : State × AcctFields :=
  let (s', hit) := pullSearch r.key s
  (s', { key := r.key, pages := r.pages, inserts := r.inserts, matchReq := r.matchReq, envKey := r.envKey
         group := presortLookup r.postal s, pulled := hit || r.prePull, recalled := r.recalled })

/-- The queue after a rebinding to t: earlier records skipped, record t removed (R58). -/
def rebindQueue (t : Nat) (q : List Account) : List Account :=
  (q.filter fun r => r.seq != t).map fun r => if r.seq < t then { r with skipped := true } else r

/-- The Account Queue's part of a rebinding to record t: none when t is not in the queue (R58). -/
def rebindRecord (t : Nat) (s : State) : Option (State × AcctFields) :=
  match s.acct.queue.find? fun r => r.seq == t with
  | none => none
  | some r =>
    let s := putAcct { s.acct with queue := rebindQueue t s.acct.queue } s
    some (bindRecord r (bumpRun 1 s))

/-! ### The commands -/

def execAcctA (s : State) : Out State := run true (request 0x33 acctAHandler) s
def execAcctB (s : State) : Out State := run true (request 0x34 acctBHandler) s
def execPullAdd (s : State) : Out State := run true (request 0x35 pullAddHandler) s
def execPullRemove (s : State) : Out State := run true (request 0x36 pullRemoveHandler) s
def execRecall (s : State) : Out State := run true (request 0x37 recallHandler) s

end Sys2Proof.Machine
end

