-- ==== Sys2Proof/Machine/Feeders.lean ====
section
/-! DEFINITION. The Feeder Manager (07, R110 to R122): feeder states, FEEDER FAULT, essential pairs, the insert plan, the decision at
each feeder, results and timing. -/

namespace Sys2Proof.Machine

/-- Replace feeder k's record. -/
def putFeeder (k : Nat) (r : FeederRec) (s : State) : State :=
  { s with feeders := { s.feeders with recs := vset s.feeders.recs (k - 1) r } }

def allFeeders : List Nat := (List.range 12).map (· + 1)

/-! ### Essential pairs (R121, R122) -/

/-- The members of pair n, ascending (R121); none while there are no working values. -/
def pairMembers (n : Nat) (s : State) : List Nat :=
  if s.tables.work.isSome then allFeeders.filter fun k => (feederJob k s).pair == n else []

/-- The standing of pair n (R121). -/
def standingOf (n : Nat) (s : State) : Standing :=
  let m := pairMembers n s
  if m.isEmpty then .none
  else if m.any fun k => available k s then .covered
  else if m.all fun k => (feederRec k s).state == .empty then .allEmpty
  else .lost

/-- The member named as source: the lowest not present or in FAULTED, DISABLED or LOST (R122). -/
def lostMember (n : Nat) (s : State) : Nat :=
  ((pairMembers n s).find? fun k => (feederRec k s).state != .ready && (feederRec k s).state != .empty).getD 0

/-- The standings evaluated afresh; ESSENTIAL LOST is raised once for the lowest pair that becomes LOST, and lowered when none
stands LOST (R121, R122). -/
def evalPairs (s : State) : State :=
  let old := s.feeders.pairs
  let new : Vector Standing 6 := Vector.ofFn fun i => standingOf (i.val + 1) s
  let s' := { s with feeders := { s.feeders with pairs := new } }
  match (List.range 6).find? fun i => vget new i == .lost && vget old i != .lost with
  | some i => raise .essentialLost 2 (lostMember (i + 1) s) s'
  | none => if new.toList.any (· == .lost) then s' else lower .essentialLost s'

/-- Every existing pair is COVERED: condition 6 of a take (R59, R121). -/
def pairsCovered (s : State) : Bool := s.feeders.pairs.toList.all fun p => p == .none || p == .covered

/-! ### Feeder states (R110 to R115) -/

/-- FEEDER FAULT is lowered when no present feeder is FAULTED (R115). -/
def evalFault (s : State) : State :=
  if s.feeders.recs.toList.any fun r => r.state == .faulted then s else lower .feederFault s

/-- Feeder k takes a state; becoming FAULTED raises FEEDER FAULT; then FEEDER FAULT and the pairs are evaluated (R110, R115, R121). -/
def feederBecomes (k : Nat) (st : FeederState) (s : State) : State :=
  let s := putFeeder k { feederRec k s with state := st } s
  let s := if st = .faulted then raise .feederFault 2 k s else s
  evalPairs (evalFault s)

/-- A STATUS of feeder k (R111). -/
def feederStatus (k : Nat) (st : StationState) (s : State) : State :=
  match st, (feederRec k s).state with
  | .ready, .empty => feederBecomes k .ready s
  | .empty, .ready => feederBecomes k .empty s
  | .fault, .ready | .fault, .empty | .fault, .disabled | .fault, .lost => feederBecomes k .faulted s
  | _, _ => s

/-- Feeder k's node becomes lost: LOST from any state (R112). -/
def feederNodeLost (k : Nat) (s : State) : State :=
  if (feederRec k s).state = .none then s else feederBecomes k .lost s

/-- Feeder k's node is seen again: LOST becomes FAULTED (R112). -/
def feederNodeSeen (k : Nat) (s : State) : State :=
  if (feederRec k s).state = .lost then feederBecomes k .faulted s else s

/-- The node table leaves use: no feeder is present (R110). -/
def feedersOutOfUse (s : State) : State :=
  evalPairs (evalFault { s with feeders := { s.feeders with recs := FeederMgr.cold.recs } })

/-- The records of the feeders the node table holds: present in READY, counts 0 (R110). -/
def presentFeeders (s : State) : Vector FeederRec 12 :=
  Vector.ofFn fun i =>
    { state := if (nodeOf .insertFeeder (i.val + 1) s).isSome then .ready else .none, misses := 0, timing := 0 }

/-- The node table comes into use (R110). -/
def feedersIntoUse (s : State) : State :=
  evalPairs (evalFault { s with feeders := { s.feeders with recs := presentFeeders s } })

/-- The counts return to 0 at a run clear (R114). -/
def feedersRunClear (s : State) : State :=
  { s with feeders := { s.feeders with recs := vmap (fun r => { r with misses := 0, timing := 0 }) s.feeders.recs } }

/-! ### The insert plan (R116) -/

/-- A feeder's position while it is present (R110). -/
def feederPos (k : Nat) (s : State) : Option Nat := (nodeOf .insertFeeder k s).map (·.position)

/-- The selected feeders in the order considered: present ones by ascending position, then the others by number (R116). -/
def planOrder (sel : List Nat) (s : State) : List Nat :=
  let present := sel.filter fun k => (feederPos k s).isSome
  let absent := sel.filter fun k => (feederPos k s).isNone
  sortBy (fun k => (feederPos k s).getD 0) present ++ absent

/-- The planned feeders, in order of consideration; none when an insert is unavailable (R116). -/
def planFeeders (sel : List Nat) (s : State) : List Nat → List Nat → Option (List Nat)
  | [], acc => some acc
  | k :: ks, acc =>
    let a := (feederJob k s).alternate
    if available k s then planFeeders sel s ks (acc ++ [k])
    else if available a s ∧ a ≠ 0 ∧ a ∉ sel ∧ a ∉ acc then planFeeders sel s ks (acc ++ [a])
    else none

/-- The insert plan of a set entering the track, and the set with INSERT UNAVAILABLE where no plan can be made (R116). -/
def insertPlan (x : SetRec) (s : State) : SetRec × List PlanEntry :=
  if !clean x then (x, [])
  else
    let sel := (x.acct.map (·.inserts)).getD []
    match planFeeders sel s (planOrder sel s) [] with
    | some fs =>
      let es := fs.map fun k => PlanEntry.mk k ((feederPos k s).getD 0) .pending
      (x, sortBy (·.position) es)
    | none => ({ x with marks := addMark .insertUnavailable x.marks }, [])

/-! ### At each feeder (R117 to R120) -/

/-- Give feeder k's plan entry a result. -/
def planResult (k : Nat) (res : PlanResult) (r : PocketRec) : PocketRec :=
  { r with plan := r.plan.map fun e => if e.feeder = k then { e with result := res } else e }

/-- The order for a set pocket at feeder k: FEED (yes) or SKIP (no), and the record after the decision (R117). -/
def feedDecision (k : Nat) (x : SetRec) (r : PocketRec) (s : State) : PocketRec × Bool :=
  let named := r.plan.any fun e => e.feeder == k
  if !clean x then (planResult k .unavailable r, false)
  else if named then
    if (feederRec k s).state = .ready then (r, true)
    else ({ planResult k .unavailable r with content := some { x with marks := addMark .insertUnavailable x.marks } }, false)
  else (r, false)

/-- A timing judgement (R96, R99, R119). -/
inductive Timing where
  | inside | outside
  deriving DecidableEq, Repr, Inhabited

/-- A feeder in READY or EMPTY becomes FAULTED; one in another state keeps it (R118, R119). -/
def faultIf (b : Bool) (k : Nat) (s : State) : State :=
  let st := (feederRec k s).state
  if b ∧ (st = .ready ∨ st = .empty) then feederBecomes k .faulted s else s

/-- The result byte of a FEED: 1 FED, 2 MISS, 3 DOUBLE; any other is a MISS (R96). -/
def feedResult (n : Nat) : PlanResult := if n = 1 then .fed else if n = 3 then .double else .miss

/-- The consecutive misses after a result: 0 after FED, else one more, at most 7 (R114, R118). -/
def missesAfter (res : PlanResult) (n : Nat) : Nat := if res = .fed then 0 else satInc 7 n

/-- The timing errors after a judgement (R114, R119). -/
def timingAfter (t : Timing) (n : Nat) : Nat := if t = .inside then 0 else satInc 3 n

/-- The misses reach the working miss limit; with no working values nothing is compared (R118, log 18). -/
def missTrips (res : PlanResult) (misses : Nat) (s : State) : Bool :=
  res != .fed && (match s.tables.work with | some w => decide (w.missLimit ≤ misses) | none => false)

/-- Feeder k takes the result and the timing judgement of a matched FEED in one event (R118, R119). -/
def feederReport (k : Nat) (res : PlanResult) (t : Timing) (s : State) : State :=
  let r := feederRec k s
  let r' := { r with misses := missesAfter res r.misses, timing := timingAfter t r.timing }
  let s := putFeeder k r' s
  faultIf (missTrips res r'.misses s || (t == .outside && r'.timing == 3)) k s

/-- Feeder k takes the judgement "missing" (R119, R120): a timing error, no miss. -/
def feederMissing (k : Nat) (s : State) : State :=
  let r := feederRec k s
  let r' := { r with timing := timingAfter .outside r.timing }
  faultIf (r'.timing == 3) k (putFeeder k r' s)

end Sys2Proof.Machine
end

