-- ==== Sys2Proof/Machine/Track.lean ====
section
/-! DEFINITION. The Track Unit with the envelope and caliper checks (06 and 07, R91 to R109 and R123 to R126). -/

namespace Sys2Proof.Machine

/-- A record as it is made at position 0 (R91). -/
def newPocket (entry : Option Nat) : PocketRec :=
  { pocket := entry, content := none, plan := [], readPart := .none, stationPart := .none, caliper := none, expected := none,
    awaited := none, gateOrder := .none, gateConfirmed := false, exitDecision := none, binConfirmed := false }

/-- A record after its set has left it (R105). -/
def emptied (r : PocketRec) : PocketRec :=
  { r with content := none, plan := [], readPart := .none, stationPart := .none, caliper := none, expected := none }

def putTrack (recs : List PocketRec) (s : State) : State := { s with track := { s.track with recs := recs } }

/-- The set pocket at position p, with its record. -/
def pocketAt (p : Nat) (s : State) : Option PocketRec := s.track.recs[p]?

/-- A mark is added to a set pocket at positions 0 to D-1 only (R103). -/
def markPocket (p : Nat) (why : Reason) (s : State) : State :=
  if belowGate p s then
    modPocket p (fun r => { r with content := r.content.map fun x => { x with marks := addMark why x.marks } }) s
  else s

/-- The upper limit of the phase counter (R2, R8). -/
def phaseLimit (s : State) : Nat :=
  match profileOf s with
  | some p => p.phases - 1
  | none => Config.phaseLimitNoProfile

/-- The phase handed out, never above the limit (R9, log 19). -/
def phaseNow (s : State) : Nat := min s.pitch.phase (phaseLimit s)

/-! ### Timing counts (R99, R100) -/

def stationCount (role : Role) (t : TrackUnit) : Nat :=
  match role with
  | .envStation => t.envCount
  | .caliper => t.calCount
  | .divertGate => t.gateCount
  | .sorter => t.sortCount
  | .sheetStation | .insertFeeder | .envReader | .closer | .lineComputer | .panel => 0

def putCount (role : Role) (n : Nat) (s : State) : State :=
  match role with
  | .envStation => { s with track := { s.track with envCount := n } }
  | .caliper => { s with track := { s.track with calCount := n } }
  | .divertGate => { s with track := { s.track with gateCount := n } }
  | .sorter => { s with track := { s.track with sortCount := n } }
  | .sheetStation | .insertFeeder | .envReader | .closer | .lineComputer | .panel => s

/-- A timing error at a station: the third in a row raises STATION TIMING (R99). -/
def timingError (role : Role) (s : State) : State :=
  let n := stationCount role s.track + 1
  if 3 ≤ n then raise .stationTiming 1 (addrOf role s) (putCount role 0 s) else putCount role n s

/-- A missing confirmation of the divert gate or the sorter raises STATION TIMING at once (R100). -/
def missingConfirmation (role : Role) (s : State) : State :=
  raise .stationTiming 1 (addrOf role s) (putCount role 0 s)

/-! ### The envelope check and the caliper check (R123 to R126) -/

/-- The read part and the mark for a set and what the reader gave: a key, or a no-read (R123). -/
def envelopeJudge (x : SetRec) (key : Option Nat) : ReadPart × Option Reason :=
  match x.acct with
  | some a =>
    if a.matchReq then
      match key with
      | some k => if a.envKey = some k then (.matched, none) else (.mismatch, some .envMismatch)
      | none => (.noread, some .envNoRead)
    else (.notRequired, none)
  | none => (.notRequired, none)

/-- The envelope check takes a key or a no-read for the set pocket at p (R123). -/
def envelopeCheck (p : Nat) (key : Option Nat) (s : State) : State :=
  match (pocketAt p s).bind (·.content) with
  | some x =>
    let (part, why) := envelopeJudge x key
    let s := modPocket p (fun r => { r with readPart := part }) s
    match why with
    | some w => markPocket p w s
    | none => s
  | none => s

/-- The expected thickness at the MEASURE order (R125); a set with no captured values cannot come here inserted (log 25). -/
def expectedThickness (x : SetRec) (r : PocketRec) (s : State) : Nat :=
  let base := match x.captured with
    | some c => c.envCaliper + sheetCount x * c.sheetCaliper
    | none => 0
  let fed := ((r.plan.filter fun e => e.result == .fed).map fun e => (feederJob e.feeder s).caliper).sum
  min 65535 (base + fed)

/-- A measured thickness lies within the captured tolerance of the expected thickness (R126). -/
def withinTolerance (x : SetRec) (expected measured : Nat) : Bool :=
  let tol := ((x.captured).map (·.tolerance)).getD 0
  expected - tol ≤ measured && measured ≤ expected + tol

/-- The caliper check takes a measured thickness (R126). -/
def caliperCheck (p measured : Nat) (s : State) : State :=
  match pocketAt p s with
  | some r =>
    let s := modPocket p (fun r => { r with caliper := some measured }) s
    match r.content with
    | some x => if withinTolerance x (r.expected.getD 0) measured then s else markPocket p .thickness s
    | none => s
  | none => s

/-! ### The close of a pitch (R98) -/

/-- Judge the report still awaited at position p (R98, R100, R119, R120). DESIGN CHOICE: a missing confirmation of the divert gate or the
sorter raises once, also as the third timing error in a row (log 41); the mark STATION TIMING comes before the raising, and so before the
SUSPECT of an entry to RECOVERY (log 46). -/
def closeAt (s : State) (p : Nat) : State :=
  match (pocketAt p s).bind (·.awaited) with
  | none => s
  | some a =>
    let s := modPocket p (fun r => { r with awaited := none }) s
    match a.role with
    | .envReader => envelopeCheck p none s
    | .insertFeeder =>
        feederMissing a.feeder (modPocket p (planResult a.feeder .miss) (markPocket p .stationTiming s))
    | .divertGate => missingConfirmation .divertGate (markPocket p .stationTiming s)
    | .sorter => missingConfirmation .sorter (markPocket p .stationTiming s)
    | .envStation => timingError .envStation (markPocket p .stationTiming s)
    | .caliper => timingError .caliper (markPocket p .stationTiming s)
    | .sheetStation | .closer | .lineComputer | .panel => s

/-- Close the ending pitch, position by position from the entry (R98, log 27). -/
def trackClose (s : State) : State := (List.range s.track.recs.length).foldl closeAt s

/-! ### Departures (R105 to R108) -/

/-- The seq a record carries: the binding seq, or the seq read, or 0. -/
def bindingSeq : Binding → Nat
  | .account n => n
  | .stray o => o.getD 0

/-- DIVERTED or STRAY for a set diverted at D (R105). -/
def divertRecord (x : SetRec) (r : PocketRec) : Record :=
  match x.binding with
  | .account n => .diverted n (x.marks.headD .suspect) x.marks.length r.gateConfirmed
  | .stray o => .stray o r.gateConfirmed (x.marks.headD .stray) x.marks.length

/-- MAILED or HELD for a set leaving X by its exit decision (R107). -/
def exitRecord (x : SetRec) (r : PocketRec) (d : ExitDecision) : Record :=
  match d with
  | .binned b g t p => .mailed (bindingSeq x.binding) g b t p r.binConfirmed
  | .held g why => .held (bindingSeq x.binding) g why

/-- The record written when the set pocket at D departs, if it departs (R105, R106, R108). -/
def gateOutcome (driveOn : Bool) (x : SetRec) (r : PocketRec) : Option Record :=
  if driveOn then
    match r.gateOrder with
    | .divert => some (divertRecord x r)
    | .pass => none
    | .none => some (.lost x.binding false)
  else some (.lost x.binding false)

/-- The record written when the set pocket at X departs (R107, R108). -/
def exitOutcome (driveOn : Bool) (x : SetRec) (r : PocketRec) : Record :=
  match driveOn, r.exitDecision with
  | true, some d => exitRecord x r d
  | _, _ => .lost x.binding true

/-- The departure from D (R105, R106, R108). -/
def departGate (driveOn : Bool) (s : State) : State :=
  match positionOf .divertGate s with
  | none => s
  | some d =>
    match pocketAt d s with
    | none => s
    | some r =>
      match r.content with
      | none => s
      | some x =>
        match gateOutcome driveOn x r with
        | some out => writeRecord out (modPocket d emptied s)
        | none => s

/-- The departure from X, the last position (R107, R108). -/
def departExit (driveOn : Bool) (s : State) : State :=
  let p := s.track.recs.length - 1
  match pocketAt p s with
  | none => s
  | some r =>
    match r.content with
    | none => s
    | some x => writeRecord (exitOutcome driveOn x r) (modPocket p emptied s)

/-- The records move up by one position; the record at X leaves; a new one is made at position 0 (R101). -/
def trackMove (entry : Option Nat) (s : State) : State :=
  if s.track.recs.isEmpty then s else putTrack (newPocket entry :: s.track.recs.dropLast) s

/-! ### Arrivals (R93, R94, R106, R108, R117, R124, R125) -/

/-- The pocket number of a record as a byte of an order. -/
def pocketByte (r : PocketRec) : Byte := BitVec.ofNat 8 (r.pocket.getD 0)

/-- Await a station's answer at position p. -/
def await (p : Nat) (n : NodeEntry) (role : Role) (subtype : Nat) (s : State) : State :=
  let w := if role = .envReader then none else some (n.windowOpen, n.windowClose)
  modPocket p (fun r => { r with awaited := some (Awaited.mk role n.feeder subtype w) }) s

/-- A feeder's arrival (R93, R117). -/
def arriveFeeder (n : NodeEntry) (r : PocketRec) (x : SetRec) (s : State) : State :=
  let (r', feed) := feedDecision n.feeder x r s
  let s := modPocket n.position (fun _ => r') s
  if feed then issueOrder n [3, pocketByte r] (await n.position n .insertFeeder 3 s) else issueOrder n [4, pocketByte r] s

/-- The envelope station's arrival: INSERT for a clean set, HOLD otherwise (R124). -/
def arriveEnvelope (n : NodeEntry) (r : PocketRec) (x : SetRec) (s : State) : State :=
  let sub := if clean x then 5 else 6
  issueOrder n [BitVec.ofNat 8 sub, pocketByte r] (await n.position n .envStation sub s)

/-- The caliper's arrival: MEASURE for an inserted set, SKIP otherwise (R125). -/
def arriveCaliper (n : NodeEntry) (r : PocketRec) (x : SetRec) (s : State) : State :=
  if r.stationPart = .inserted then
    let s := modPocket n.position (fun r => { r with expected := some (expectedThickness x r s) }) s
    issueOrder n [7, pocketByte r] (await n.position n .caliper 7 s)
  else issueOrder n [4, pocketByte r] s

/-- The divert gate's order: DIVERT (R94). -/
def gateDecision (r : PocketRec) : GateOrder :=
  match r.content with
  | some x => if clean x then .pass else .divert
  | none => if r.pocket.isSome then .pass else .none

/-- The divert gate's arrival (R94). -/
def arriveGate (n : NodeEntry) (r : PocketRec) (s : State) : State :=
  let g := gateDecision r
  let s := modPocket n.position (fun r => { r with gateOrder := g }) s
  match g with
  | .none => s
  | .divert => issueOrder n [8, pocketByte r] (await n.position n .divertGate 8 s)
  | .pass => issueOrder n [9, pocketByte r] (await n.position n .divertGate 9 s)

/-- The bin of an exit decision: 1 to 16, or 0 (R106). -/
def decisionBin : ExitDecision → Nat
  | .binned b _ _ _ => b
  | .held _ _ => 0

/-- The sorter's arrival: the exit decision, then BIN (R106). -/
def arriveSorter (n : NodeEntry) (r : PocketRec) (x : SetRec) (s : State) : State :=
  let (s, d) := exitDecision ((x.acct.map (·.group)).getD 0) (bindingSeq x.binding) s
  let s := modPocket n.position (fun r => { r with exitDecision := some d }) s
  issueOrder n ([10, pocketByte r] ++ beBytes 1 (decisionBin d) ++ beBytes 3 (bindingSeq x.binding))
    (await n.position n .sorter 10 s)

/-- The arrival of the record now at a station's position, with the drive on (R93). -/
def arriveAt (s : State) (n : NodeEntry) : State :=
  match pocketAt n.position s with
  | none => s
  | some r =>
    match n.role, r.content with
    | some .insertFeeder, some x => arriveFeeder n r x s
    | some .envReader, some _ => await n.position n .envReader 0 s
    | some .envStation, some x => arriveEnvelope n r x s
    | some .caliper, some x => arriveCaliper n r x s
    | some .divertGate, _ => arriveGate n r s
    | some .sorter, some x => arriveSorter n r x s
    | _, _ => s

/-- Roles with a position on the track that acts on arrivals (R93). -/
def positioned : Option Role → Bool
  | some .insertFeeder | some .envReader | some .envStation | some .caliper | some .divertGate | some .sorter => true
  | _ => false

/-- The stations in ascending order of position (R93). -/
def stationsInOrder (s : State) : List NodeEntry := sortBy (·.position) ((trackNodes s).filter fun n => positioned n.role)

/-- The arrivals with the drive off: set pockets at a feeder, at E-1, E or C become suspect (R108). -/
def arriveOff (s : State) (n : NodeEntry) : State :=
  match n.role with
  | some .insertFeeder | some .envReader | some .envStation | some .caliper =>
      modPocket n.position (fun r => { r with content := r.content.map markSuspect }) s
  | _ => s

/-- The arrivals of a pitch notice (R101 step 4). -/
def trackArrive (driveOn : Bool) (s : State) : State :=
  (stationsInOrder s).foldl (if driveOn then arriveAt else arriveOff) s

/-- From this notice on the Track Unit has the positions and windows of a VALID node table (R92). -/
def takePositions (s : State) : State :=
  { s with track := { s.track with positions := s.tables.node.state == .valid, due := none } }

/-- The Track Unit takes a pitch notice: close, depart, move, arrive (R101). -/
def trackNotice (n : Notice) (s : State) : State :=
  let s := takePositions s
  trackArrive n.driveOn (trackMove n.entry (departExit n.driveOn (departGate n.driveOn (trackClose s))))

/-- The Track Unit takes the notice it has not yet taken, if there is one (R102). -/
def takeDue (s : State) : State :=
  match s.track.due with
  | some n => trackNotice n s
  | none => s

/-! ### A release into the track (R102) -/

/-- The record at position p holds pocket P and is EMPTY. -/
def vacantAt (p pocket : Nat) (s : State) : Bool :=
  match pocketAt p s with
  | some r => r.pocket == some pocket && r.content.isNone
  | none => false

/-- The set becomes the content of the record at p, with its insert plan (R102, R116). -/
def putSet (p : Nat) (x : SetRec) (s : State) : State :=
  let (x', plan) := insertPlan x s
  modPocket p (fun r => { r with content := some x', plan := plan }) s

/-- The Track Unit takes a release naming pocket P: at position 0, at position 1 with its arrival there, or not at all, in which case
the set is written LOST with departure at D (R102). A pitch notice it has not yet taken it takes first (takeDue). -/
def placeSet (pocket : Nat) (x : SetRec) (s : State) : State :=
  if vacantAt 0 pocket s then putSet 0 x s
  else if vacantAt 1 pocket s then
    ((trackNodes s).filter fun n => n.position == 1 && positioned n.role).foldl arriveAt (putSet 1 x s)
  else writeRecord (.lost x.binding false) s

/-- STATION TIMING for an unconfirmed release, at position 1 or still at 0 (R88, R103). -/
def markRelease (pocket : Nat) (s : State) : State :=
  let holds := fun p => (pocketAt p s).any fun r => r.pocket == some pocket
  if holds 1 then markPocket 1 .stationTiming s
  else if holds 0 then markPocket 0 .stationTiming s
  else s

/-! ### Reports (R95 to R97) -/

/-- The run counter of stale reports of a station (R168). -/
def staleCounter (role : Role) (feeder : Nat) : Nat :=
  match role with
  | .sheetStation => 14
  | .insertFeeder => 14 + feeder
  | .envReader => 27
  | .envStation => 28
  | .caliper => 29
  | .divertGate => 30
  | .sorter | .closer | .lineComputer | .panel => 31

/-- A phase lies in the window from open to close (R96). -/
def insideWindow (w : Option (Nat × Nat)) (phase : Nat) : Bool :=
  match w with
  | some (o, c) => o ≤ phase && phase ≤ c
  | none => true

/-- The timing of a matched report at a station other than a feeder (R96, R99). -/
def stationTimed (role : Role) (p : Nat) (inside : Bool) (s : State) : State :=
  if inside then putCount role 0 s else timingError role (markPocket p .stationTiming s)

/-- The mark of a FEED's result (R118). -/
def resultMark (res : PlanResult) (p : Nat) (s : State) : State :=
  match res with
  | .miss => markPocket p .insertMiss s
  | .double => markPocket p .insertDouble s
  | .pending | .fed | .unavailable => s

/-- A matched DONE: its result is handed on, with the mark it brings, then it is judged against the window (R96; the order of the two
marks: log 16). -/
def matchedDone (n : NodeEntry) (role : Role) (a : Awaited) (result thickness : Nat) (s : State) : State :=
  let p := n.position
  let inside := insideWindow a.window (phaseNow s)
  let s := modPocket p (fun r => { r with awaited := none }) s
  match role with
  | .insertFeeder =>
      let res := feedResult result
      let s := resultMark res p (modPocket p (planResult n.feeder res) s)
      let s := if inside then s else markPocket p .stationTiming s
      feederReport n.feeder res (if inside then .inside else .outside) s
  | .envStation =>
      stationTimed role p inside
        (modPocket p (fun r => { r with stationPart := if a.subtype = 5 then .inserted else .held }) s)
  | .caliper => stationTimed role p inside (caliperCheck p thickness s)
  | .divertGate => stationTimed role p inside (modPocket p (fun r => { r with gateConfirmed := true }) s)
  | .sorter => stationTimed role p inside (modPocket p (fun r => { r with binConfirmed := true }) s)
  | .sheetStation | .envReader | .closer | .lineComputer | .panel => s

/-- The DONE answers what the record at the station's position awaits (R95). -/
def doneMatches (n : NodeEntry) (role : Role) (pocket subtype bin : Nat) (r : PocketRec) : Option Awaited :=
  match r.awaited with
  | some a =>
    if a.role = role ∧ a.feeder = n.feeder ∧ r.pocket = some pocket ∧ a.subtype = subtype ∧
        (subtype = 10 → r.exitDecision.map decisionBin = some bin) then some a else none
  | none => none

/-- The record standing at a reporting station's position; none while the Track Unit has no positions (R92, R95). -/
def recordAt (n : NodeEntry) (s : State) : Option PocketRec := if s.track.positions then pocketAt n.position s else none

/-- The Track Unit takes a DONE from a node (R95, R96). -/
def trackDone (n : NodeEntry) (role : Role) (pocket subtype result thickness bin : Nat) (s : State) : State :=
  match (recordAt n s).bind (doneMatches n role pocket subtype bin) with
  | some a => matchedDone n role a result thickness s
  | none => bumpRun (staleCounter role n.feeder) s

/-- The Track Unit takes an ENVREAD from the reader (R97). DESIGN CHOICE: one that names the pocket at E-1, left EMPTY by a run clear, is
discarded without counting as R97 says, not counted as stale as R109 says (log 43). -/
def trackEnvread (n : NodeEntry) (pocket : Nat) (key : Option Nat) (s : State) : State :=
  match recordAt n s with
  | none => bumpRun 27 s
  | some r =>
    if r.pocket = some pocket ∧ r.content.isNone then s
    else if r.pocket = some pocket ∧ r.awaited.any fun a => a.role == .envReader then
      envelopeCheck n.position key (modPocket n.position (fun r => { r with awaited := none }) s)
    else bumpRun 27 s

/-! ### Table changes and the run clear (R92, R109) -/

/-- TRACK_LEN records with no pocket number (R92). -/
def freshTrack (n : Nat) : List PocketRec := List.replicate n (newPocket none)

/-- Every awaited field becomes none (R92). -/
def clearAwaited (s : State) : State := putTrack (s.track.recs.map fun r => { r with awaited := none }) s

/-- The PURGED record of the set pocket at p, and the record as at its creation (R109). -/
def purgeAt (s : State) (p : Nat) : State :=
  match pocketAt p s with
  | none => s
  | some r =>
    let s := modPocket p (fun r => newPocket r.pocket) s
    match r.content with
    | some x => writeRecord (.purged x.binding true) s
    | none => s

/-- A run clear at the track: PURGED in descending order of position, counts 0 (R109). -/
def trackRunClear (s : State) : State :=
  let s := (List.range s.track.recs.length).reverse.foldl purgeAt s
  { s with track := { s.track with envCount := 0, calCount := 0, gateCount := 0, sortCount := 0 } }

end Sys2Proof.Machine
end

