-- ==== Sys2Proof/Machine/Collation.lean ====
section
/-! DEFINITION. The Collation Unit (05, R71 to R90): ordering a set, sheets, finishing, late and stray sheets, the entry vacancy,
releases and their confirmation, its part of a run clear; and the held flags' effect on the line (R146, R152). -/

namespace Sys2Proof.Machine

def putStage (t : Stage) (s : State) : State := { s with stage := t }

def putAssembly (x : Option SetRec) (s : State) : State := putStage { s.stage with assembly := x } s

/-- Append a reason to a set's marks (R71). -/
def SetRec.mark (x : SetRec) (why : Reason) : SetRec := { x with marks := addMark why x.marks }

/-! ### Ordering a set (R72) -/

/-- The job values captured in a set record (R47). -/
def capture (w : Working) : Captured :=
  { tolerance := w.tolerance, sheetCaliper := w.sheetCaliper, envCaliper := w.envCaliper, fold := w.fold, envClass := w.envClass }

/-- The set record made at a take (R72). -/
def orderedSet (seq : Nat) (f : AcctFields) (unsettled : Bool) (w : Working) : SetRec :=
  { binding := .account seq, acct := some f, state := .ordered, finish := none, rebindSpent := false, sheets := [],
    extraSheets := 0, firstTotal := none, balance := 0, pitches := 0, maxSheets := w.maxSheets
    captured := some (capture w)
    marks := if unsettled then [.unsettled] else [], suspect := false, unsettled := unsettled }

/-- The FEED SET order: subtype 1, pocket 255, seq, maximum sheets, fold program (R72, 02 "Station payloads"). -/
def feedSetPayload (seq : Nat) (w : Working) : List Byte :=
  [1, 255] ++ beBytes 3 seq ++ beBytes 1 w.maxSheets ++ beBytes 1 w.fold

/-- The Collation Unit creates the ordered set and issues FEED SET (R72). -/
def orderSet (seq : Nat) (f : AcctFields) (unsettled : Bool) (w : Working) (s : State) : State :=
  let s := putStage { s.stage with assembly := some (orderedSet seq f unsettled w), freshTake := true } s
  issueOrder (nodeOf .sheetStation 0 s) (feedSetPayload seq w) s

/-! ### Sheet reads (R73) -/

/-- A SHEET as judged: seq, page, total and word of a good read, none on a no-read; and the double flag (R73). -/
structure SheetRead where
  good : Option (Nat × Nat × Nat × Word16)
  double : Bool
  deriving DecidableEq, Repr, Inhabited

/-- Good read or no-read (R73). -/
def sheetRead (seq page total : Nat) (word : Word16) (quality : Nat) (double : Bool) : SheetRead :=
  let ok := quality == 0 && 1 ≤ seq && 1 ≤ page && page ≤ 24 && 1 ≤ total && total ≤ 24
  { good := if ok then some (seq, page, total, word) else none, double := double }

/-! ### Later sheets and finishing (R78 to R82) -/

/-- The seq a set's good reads must name: the binding seq, or the seq read of a stray set, if any (R74, R78). -/
def boundSeq : Binding → Option Nat
  | .account n => some n
  | .stray o => o

/-- The marks a sheet adds (R78), in the order of its table. -/
def sheetMarks (r : SheetRead) (x : SetRec) : List Reason :=
  (match r.good with
   | some (q, page, total, _) =>
      (if (boundSeq x.binding).any (· != q) then [Reason.seqBreak] else []) ++
      (if page ≠ x.sheets.length + 1 then [Reason.pageOrder] else []) ++
      (if x.firstTotal.any (· != total) then [Reason.pageOrder] else [])
   | none => [Reason.noRead]) ++
  (if r.double then [Reason.doubleSheet] else [])

/-- The sheet entry of a read (R71). -/
def sheetEntry (r : SheetRead) : Sheet :=
  { good := r.good.map fun (_, page, total, word) => (page, total, word), double := r.double }

/-- The word a read adds to the balance (R71). -/
def sheetWord (r : SheetRead) : Word16 := (r.good.map fun (_, _, _, w) => w).getD 0

/-- The binding after a read joins: a stray set with no seq read takes that of its first good read (R77). -/
def bindingAfter (r : SheetRead) : Binding → Binding
  | .stray none => .stray (r.good.map fun (q, _, _, _) => q)
  | b => b

/-- A sheet joins an ASSEMBLING set with no finish cause (R78). -/
def joinSheet (r : SheetRead) (x : SetRec) : SetRec :=
  { x with
    binding := bindingAfter r x.binding
    marks := (sheetMarks r x).foldl (fun l why => addMark why l) x.marks
    firstTotal := x.firstTotal.or (r.good.map fun (_, _, t, _) => t)
    sheets := x.sheets ++ [sheetEntry r]
    balance := x.balance ^^^ sheetWord r }

/-- The account checks of R81: PAGE COUNT, then RECALLED and PULLED at the head. -/
def pageCountMark (x : SetRec) (f : AcctFields) (l : List Reason) : List Reason :=
  if sheetCount x ≠ f.pages then addMark .pageCount l else l

/-- UNBALANCED (R81). -/
def balanceMark (x : SetRec) (l : List Reason) : List Reason :=
  if !x.sheets.isEmpty && x.sheets.all (fun e => e.good.isSome) && x.balance != 0 then addMark .unbalanced l else l

/-- RECALLED, then PULLED, at the head (R81). -/
def hostMarks (f : AcctFields) (l : List Reason) : List Reason :=
  let l := if f.recalled then headMark .recalled l else l
  if f.pulled then headMark .pulled l else l

/-- The finishing checks (R81). -/
def finishMarks (x : SetRec) : List Reason :=
  match x.binding, x.acct with
  | .account _, some f => hostMarks f (balanceMark x (pageCountMark x f x.marks))
  | _, _ => balanceMark x x.marks

/-- A set finishes with a cause (R79 to R82): its rebind is spent, and it is ASSEMBLING until it moves up. -/
def finishSet (why : Finish) (x : SetRec) : SetRec :=
  { x with finish := some why, rebindSpent := true, state := .assembling, marks := finishMarks x }

/-- The finish by sheets (R79), after the sheet has joined. -/
def judgeFinish (r : SheetRead) (x : SetRec) : SetRec :=
  if r.good.any fun (_, page, total, _) => page == total then finishSet .complete x
  else if x.sheets.length = x.maxSheets then finishSet .maximum (x.mark .overlength)
  else x

/-- A finished set in the assembly slot moves to an empty release slot and becomes READY (R82). -/
def moveUp (t : Stage) : Stage :=
  match t.assembly, t.ready with
  | some x, none =>
    if x.finish.isSome then { t with assembly := none, ready := some { x with state := .ready } } else t
  | _, _ => t

/-- A sheet joins the set in the assembly slot, may finish it, and the set moves up (R78, R79, R82). -/
def assembleSheet (r : SheetRead) (x : SetRec) (s : State) : State :=
  putStage (moveUp { s.stage with assembly := some (judgeFinish r (joinSheet r x)) }) s

/-! ### The first sheet (R75 to R77) -/

/-- The set becomes ASSEMBLING with its rebind spent (R75). -/
def settled (x : SetRec) : SetRec := { x with state := .assembling, rebindSpent := true }

/-- The set rebound to account t (R76). -/
def reboundSet (t : Nat) (f : AcctFields) (x : SetRec) : SetRec := settled { x with binding := .account t, acct := some f }

/-- The set made stray (R77). -/
def strayedSet (o : Option Nat) (x : SetRec) : SetRec :=
  settled { x with binding := .stray o, acct := none, marks := headMark .stray x.marks }

/-- The ordered set turns stray: MISSING with cause set strayed (R77). -/
def strayFirst (n : Nat) (r : SheetRead) (x : SetRec) (s : State) : State :=
  let o := r.good.map fun (q, _, _, _) => q
  writeRecord (.missing n .setStrayed) (assembleSheet r (strayedSet o x) s)

/-- The first sheet names a later account t (R76). -/
def rebindFirst (n t : Nat) (r : SheetRead) (x : SetRec) (s : State) : State :=
  match rebindRecord t s with
  | some (s', f) => writeRecord (.missing n .reboundPast) (assembleSheet r (reboundSet t f x) s')
  | none => strayFirst n r x s

/-- The first sheet of a set ordered for seq n (R75 to R77). -/
def firstSheet (n : Nat) (r : SheetRead) (x : SetRec) (s : State) : State :=
  match r.good with
  | some (q, _, _, _) =>
    if q = n then assembleSheet r (settled x) s
    else if n < q then rebindFirst n q r x s
    else strayFirst n r x s
  | none => strayFirst n r x s

/-- A sheet reaches the unfinished set (R74 case 1). -/
def sheetToSet (r : SheetRead) (x : SetRec) (s : State) : State :=
  match x.state, x.binding with
  | .ordered, .account n => firstSheet n r x s
  | _, _ => assembleSheet r x s

/-! ### Late sheets and stray sets (R74, R83 to R85) -/

/-- A late sheet joins a finished set (R83). -/
def lateSheet (r : SheetRead) (x : SetRec) : SetRec :=
  let marks := if r.good.isNone then addMark .noRead x.marks else x.marks
  let marks := if r.double then addMark .doubleSheet marks else marks
  { x with
    sheets := if x.sheets.length < Config.sheetCapacity then x.sheets ++ [sheetEntry r] else x.sheets
    extraSheets := if x.sheets.length < Config.sheetCapacity then x.extraSheets else satInc 255 x.extraSheets
    balance := x.balance ^^^ sheetWord r, marks := marks }

/-- A sheet matches a finished set (R74 case 2). -/
def lateMatches (r : SheetRead) (x : Option SetRec) : Bool :=
  match x, r.good with
  | some x, some (q, _, _, _) => x.finish.isSome && boundSeq x.binding == some q
  | some x, none => x.finish.isSome
  | none, _ => false

/-- The stray set a sheet creates (R84, R89). -/
def strayNew (r : SheetRead) (s : State) : SetRec :=
  let x : SetRec :=
    { binding := .stray (r.good.map fun (q, _, _, _) => q), acct := none, state := .assembling, finish := none,
      rebindSpent := true, sheets := [], extraSheets := 0, firstTotal := none, balance := 0, pitches := 0
      maxSheets := ((s.tables.work).map (·.maxSheets)).getD Config.sheetCapacity
      captured := (s.tables.work).map capture
      marks := [.stray], suspect := false, unsettled := false }
  if s.pitch.driveEn then x else markSuspect x

/-- A sheet with no set: a stray set when the assembly slot is empty and there is room, else a collation overrun (R84, R85). -/
def sheetAlone (src : Nat) (r : SheetRead) (s : State) : State :=
  if s.stage.assembly = none ∧ claims s + 2 ≤ free s then bumpRun 8 (assembleSheet r (strayNew r s) s)
  else raise .collationOverrun 1 src (suspectStage s)

/-- A sheet that finds no unfinished set (R74 cases 2 to 4). -/
def sheetLate (src : Nat) (r : SheetRead) (s : State) : State :=
  if lateMatches r s.stage.assembly then putAssembly (s.stage.assembly.map (lateSheet r)) s
  else if lateMatches r s.stage.ready then putStage { s.stage with ready := s.stage.ready.map (lateSheet r) } s
  else if s.line.state = .halted then bumpRun 14 s
  else sheetAlone src r s

/-- A sheet is routed (R74). -/
def routeSheet (src : Nat) (r : SheetRead) (s : State) : State :=
  match s.stage.assembly with
  | some x => if x.finish.isNone then sheetToSet r x s else sheetLate src r s
  | none => sheetLate src r s

/-! ### Release (R87) and the held flags (R146, R152) -/

/-- The pocket a READY set would be released into now (R87). -/
def releasePocket (s : State) : Option Nat :=
  match s.stage.ready, s.stage.vacancy with
  | some _, some v =>
    if v.usable ∧ v.vacant ∧ (s.line.state = .running ∨ s.line.state = .draining) ∧ s.pitch.driveEn then some v.pocket else none
  | _, _ => none

/-- RELEASE is issued, the vacancy is used, and the confirmation is awaited (R87, R88). -/
def issueRelease (p : Nat) (s : State) : State :=
  let s := issueOrder (nodeOf .sheetStation 0 s) [2, BitVec.ofNat 8 p] s
  putStage { s.stage with
    vacancy := s.stage.vacancy.map fun v => { v with vacant := false }, releaseAwaited := some p } s

/-- The set in the release slot passes to the track, and a waiting finished set moves up (R82, R87). The Track Unit first takes a
pitch notice it has not taken, when the pocket is not at position 0 (R102); the set stays in the slot, where a suspect marking
reaches it, until then. -/
def releaseInto (p : Nat) (s : State) : State :=
  let s := issueRelease p s
  let s := if vacantAt 0 p s then s else takeDue s
  match s.stage.ready with
  | some x => placeSet p x (putStage (moveUp { s.stage with ready := none }) s)
  | none => s

/-- A READY set is released as soon as R87 allows. -/
def tryRelease (s : State) : State :=
  match releasePocket s with
  | some p => releaseInto p s
  | none => s

/-- A PAUSED or DRAINING line with no held flag set goes to HALTED (R146, R152). -/
def judgeHeld (s : State) : State :=
  if (s.line.state = .paused ∨ s.line.state = .draining) ∧ held s = false then setLine .halted 0 s else s

/-- What follows in the event of a change of the stage, the track or the line state: a release, and the held flags' effect. -/
def settle (s : State) : State := judgeHeld (tryRelease s)

/-! ### The pitch notice at the stage (R80, R86, R88) -/

/-- The old entry vacancy record is judged: a gap pocket (R86). -/
def judgeGap (s : State) : State :=
  if s.stage.vacancy.any fun v => v.inRunning && v.vacant then bumpRun 11 s else s

/-- The new entry vacancy record (R86). -/
def newVacancy (n : Notice) (s : State) : Option Vacancy :=
  match n.entry with
  | some p =>
    if n.driveOn ∧ n.counterValid ∧ (s.line.state = .running ∨ s.line.state = .draining) then
      some { pocket := p, usable := !(defectPockets s).contains p, vacant := true, inRunning := s.line.state == .running }
    else none
  | none => none

/-- A release not confirmed by this notice (R88). -/
def unconfirmedRelease (s : State) : State :=
  match s.stage.releaseAwaited with
  | none => s
  | some p =>
    let s := markRelease p (putStage { s.stage with releaseAwaited := none } s)
    if 3 ≤ s.stage.releaseMiss + 1 then
      raise .stationTiming 1 (addrOf .sheetStation s) (putStage { s.stage with releaseMiss := 0 } s)
    else putStage { s.stage with releaseMiss := s.stage.releaseMiss + 1 } s

/-- The deadline compares: a set whose pitches reach the working set deadline; nothing is compared without working values (R80). -/
def deadlineMet (x : SetRec) (s : State) : Bool :=
  x.finish.isNone && (match s.tables.work with | some w => decide (w.deadline ≤ x.pitches) | none => false)

/-- A set finishes by its deadline (R80). -/
def deadlineFinish (x : SetRec) : SetRec := finishSet .deadline (x.mark .shortSet)

/-- Judge the set in the assembly slot by its deadline (R80, R82). -/
def judgeDeadline (s : State) : State :=
  match s.stage.assembly with
  | some x =>
    if deadlineMet x s then putStage (moveUp { s.stage with assembly := some (deadlineFinish x) }) s else s
  | none => s

/-- One more pitch for an unfinished set (R80). -/
def countPitch (s : State) : State :=
  putAssembly (s.stage.assembly.map fun x =>
    if x.finish.isNone then { x with pitches := satInc 1000 x.pitches } else x) s

/-- The set deadline at a notice with drive ON (R80). A set taken at this notice is neither counted nor judged. -/
def deadlineNotice (driveOn : Bool) (s : State) : State :=
  if driveOn ∧ s.stage.freshTake = false then judgeDeadline (countPitch s) else s

/-- The Collation Unit takes a pitch notice (R80, R86, R88). DESIGN CHOICE: a release not confirmed is judged before the deadline is
counted, and before an already READY set is released into the new entry pocket, which settle does afterwards (log 40). -/
def collationNotice (n : Notice) (s : State) : State :=
  let s := judgeGap s
  let s := putStage { s.stage with vacancy := newVacancy n s } s
  deadlineNotice n.driveOn (unconfirmedRelease s)

/-- SET_DEADLINE_EXPIRY: with the drive on, the deadline judged as the set's count stands (R80, log 8). -/
def deadlineExpiry (s : State) : State := if s.pitch.driveEn then settle (judgeDeadline s) else s

def execSetDeadlineExpiry (s : State) : Out State := run true deadlineExpiry s

/-! ### DONE for RELEASE (R88) -/

/-- The Collation Unit takes the sheet station's DONE for RELEASE (R88). -/
def releaseDone (pocket : Nat) (s : State) : State :=
  if s.stage.releaseAwaited = some pocket then putStage { s.stage with releaseAwaited := none, releaseMiss := 0 } s
  else bumpRun 14 s

/-! ### Run clear (R90) -/

/-- PURGED for a set of the stage (R90). -/
def purgeSlot (x : Option SetRec) (s : State) : State :=
  match x with
  | some x => writeRecord (.purged x.binding false) s
  | none => s

/-- The Collation Unit's part of a run clear: release slot first, then assembly slot (R90). -/
def stageRunClear (s : State) : State :=
  let s1 := purgeSlot s.stage.ready (putStage { s.stage with ready := none } s)
  purgeSlot s.stage.assembly (putStage Stage.cold s1)

end Sys2Proof.Machine
end

