-- ==== Sys2Proof/Machine/Loop.lean ====
section
/-! DEFINITION. The Loop Interface (02): cells taken at LOOP_IN, the roll, presence, station reports, sending (R17 to R25, R95, R97,
R137 to R141, R156). -/

namespace Sys2Proof.Machine

def putLoop (l : LoopIf) (s : State) : State := { s with loop := l }

/-! ### Cells not for the part (R17, R18, R19) -/

/-- A cell whose check word is not its CRC is discarded and counted (R17). -/
def crcDiscard (c : Cell) (crc : Word16) (s : State) : State := if crc = cellCrc c then s else bumpRun 12 (bumpLoop 1 s)

def execCrcErrorDiscard (c : Cell) (crc : Word16) (s : State) : Out State :=
  run (Instr.wf (.crcErrorDiscard c crc)) (crcDiscard c crc) s

/-- A good cell for another node (R18). -/
def forwardCell (c : Cell) (s : State) : State :=
  if c.src = 0 then bumpLoop 4 s
  else if passedFlag c then bumpRun 13 (bumpLoop 2 s)
  else if s.loop.forward.length < Config.forwardCapacity then
    putLoop (LoopIf.start { s.loop with forward := s.loop.forward ++ [setPassed c] }) s
  else bumpLoop 3 s

def execForwardedCell (c : Cell) (s : State) : Out State := run (Instr.wf (.forwardedCell c)) (forwardCell c) s

/-- A cell to address 0 that no one takes: an own cell undelivered, or an unknown kind (R19). -/
def unknownCell (src : Byte) (s : State) : State := if src = 0 then bumpLoop 4 s else bumpLoop 5 s

def execUnknownKindCell (src kind : Byte) (s : State) : Out State :=
  run (Instr.wf (.unknownKindCell src kind)) (unknownCell src) s

/-- A management cell joins the input queue, or is a management overrun (R25). -/
def managementArrival (c : Cell) (s : State) : State :=
  if s.loop.mgmtIn.length < Config.mgmtCapacity then putLoop { s.loop with mgmtIn := s.loop.mgmtIn ++ [c] } s else bumpLoop 8 s

def execManagementCellArrival (c : Cell) (s : State) : Out State :=
  run (Instr.wf (.managementCellArrival c)) (managementArrival c) s

/-! ### The roll (R21, R22) -/

/-- The ROLL cell of a serial: a mask with bit 0 set (R21). -/
def rollCell (serial : Nat) : Cell := ownCell 0 0x21 0 (beBytes 1 serial ++ beBytes 8 1)

/-- The roll being replaced is judged (R22). -/
def judgeRoll (s : State) : State :=
  if s.loop.returned then putLoop { s.loop with misses := 0 } s
  else
    let n := satInc 2 s.loop.misses
    if n = 2 ∧ s.loop.ringBreakUp = false then
      raise .ringBreak 0 0 (putLoop { s.loop with misses := n, ringBreakUp := true } s)
    else putLoop { s.loop with misses := n } s

/-- The next ROLL is made and placed in the roll slot (R21). -/
def makeRoll (l : LoopIf) : LoopIf :=
  let n := (l.rollSerial + 1) % 256
  LoopIf.start { l with rollSerial := n, returned := false, rollSlot := some (rollCell n) }

/-- A roll becomes due (R21, R22). -/
def rollDue (s : State) : State :=
  let s := judgeRoll s
  putLoop (makeRoll s.loop) s

/-! ### Presence (R23, R112, R156) -/

/-- A node that is seen again leaves the Line Controller's station-loss set (R156). -/
def stationSeen (n : NodeEntry) (s : State) : State :=
  { s with line := { s.line with stationLoss := s.line.stationLoss.filter (· != n.addr) } }

/-- A lost node is seen again (R23, R112, R156). -/
def nodeSeen (n : NodeEntry) (s : State) : State :=
  let s := stationSeen n s
  let s := if n.role = some .insertFeeder then feederNodeSeen n.feeder s else s
  if s.loop.nodeRecs.any (·.lost) then s else lower .nodeLost s

/-- A node becomes lost: the station-loss set, NODE LOST, and the Feeder Manager for a feeder (R23, R112, R156, log 32). -/
def nodeGone (n : NodeEntry) (s : State) : State :=
  let s := if (n.role.map stationRole).getD false then
      { s with line := { s.line with stationLoss := s.line.stationLoss ++ [n.addr] } } else s
  let s := raiseFor n.role .nodeLost 1 n.addr s
  if n.role = some .insertFeeder then feederNodeLost n.feeder s else s

def putNodeRec (i : Nat) (r : NodeRec) (s : State) : State :=
  putLoop { s.loop with nodeRecs := s.loop.nodeRecs.set i r } s

/-- The record of the i-th node is judged against its bit (R23). -/
def judgeNode (i : Nat) (n : NodeEntry) (seen : Bool) (s : State) : State :=
  match s.loop.nodeRecs[i]? with
  | none => s
  | some r =>
    if seen then
      let s := putNodeRec i { r with absent := 0, lost := false } s
      if r.lost then nodeSeen n s else s
    else
      let a := satInc 3 r.absent
      if a = 3 ∧ r.lost = false then nodeGone n (putNodeRec i { absent := a, lost := true, status := none } s)
      else putNodeRec i { r with absent := a } s

/-- The presence check over the node table, from entry i on (R23). -/
def checkPresence (mask : BitVec 64) : Nat → List NodeEntry → State → State
  | _, [], s => s
  | i, n :: ns, s => checkPresence mask (i + 1) ns (judgeNode i n (mask.getLsbD n.addr) s)

/-- RING BREAK is lowered at the first current roll that returns (R22). -/
def endRingBreak (s : State) : State :=
  if s.loop.ringBreakUp then lower .ringBreak (putLoop { s.loop with ringBreakUp := false } s) else s

/-- The current roll is recorded as returned, with its mask; the presence check takes the mask; RING BREAK is lowered (R22, R23). -/
def currentRoll (mask : BitVec 64) (s : State) : State :=
  let s := putLoop { s.loop with returned := true, lastMask := mask, misses := 0 } s
  endRingBreak (checkPresence mask 0 (nodesOf s) s)

/-- A ROLL returns (R22); a recovery in WAIT is judged at the end of the event (R158). -/
def rollReturned (serial : Byte) (mask : BitVec 64) (s : State) : State :=
  if serial.toNat = s.loop.rollSerial then endWait s (currentRoll mask s) else s

def execRollReturn (serial : Byte) (mask : BitVec 64) (s : State) : Out State := run true (rollReturned serial mask) s

/-! ### Station reports (R19) -/

/-- The kind codes a role may send (R19). -/
def roleKinds : Role → List Nat
  | .sheetStation => [0x10, 0x11, 0x13]
  | .insertFeeder => [0x11, 0x13]
  | .envReader => [0x12, 0x13]
  | .envStation | .caliper | .divertGate => [0x11, 0x13]
  | .closer => [0x13]
  | .sorter => [0x11, 0x14, 0x13]
  | .lineComputer | .panel => []

/-- The node entry and role of an accepted station report (R19). -/
def acceptReport (kind : Nat) (src : Byte) (s : State) : Option (NodeEntry × Role) :=
  (nodeAt src.toNat s).bind fun n =>
    n.role.bind fun r => if (roleKinds r).contains kind then some (n, r) else none

/-- A station report is handed on, or counted as refused; one whose source is 0 is an own cell that nobody took, undelivered (R19). -/
def report (kind : Nat) (src : Byte) (f : NodeEntry → Role → State → State) (s : State) : State :=
  if src = 0 then bumpLoop 4 s
  else
    match acceptReport kind src s with
    | some (n, r) => f n r s
    | none => bumpLoop 6 s

def execSheet (src : Byte) (seq : BitVec 24) (page total : Byte) (word : Word16) (quality : Byte) (double : Bool)
    (s : State) : Out State :=
  run true
    (report 0x10 src fun _ _ s =>
      settle (routeSheet src.toNat (sheetRead seq.toNat page.toNat total.toNat word quality.toNat double) s)) s

/-- A DONE: RELEASE from the sheet station goes to the Collation Unit, any other to the Track Unit (R19). -/
def doneReport (pocket subtype result : Nat) (thickness bin : Nat) (n : NodeEntry) (r : Role) (s : State) : State :=
  if r = .sheetStation ∧ subtype = 2 then releaseDone pocket s
  else trackDone n r pocket subtype result thickness bin s

def execDone (src pocket subtype result : Byte) (thickness : Word16) (bin : Byte) (s : State) : Out State :=
  run true
    (report 0x11 src (doneReport pocket.toNat subtype.toNat result.toNat thickness.toNat bin.toNat)) s

/-- The key of an ENVREAD: none on a no-read, byte 9 not 0 (R97). -/
def envKeyRead (key : BitVec 32) (noRead : Byte) : Option Nat := if noRead = 0 then some key.toNat else none

def execEnvread (src pocket : Byte) (key : BitVec 32) (noRead : Byte) (s : State) : Out State :=
  run true
    (report 0x12 src fun n _ s => trackEnvread n pocket.toNat (envKeyRead key noRead) s) s

/-! ### STATUS (R19, R23, R111, R141, R156) -/

/-- An accepted STATUS replaces the node's last status (R23). -/
def recordStatus (src : Nat) (st : StationState) (detail : Byte) (s : State) : State :=
  match (nodesOf s).findIdx? fun n => n.addr == src with
  | some i => putLoop { s.loop with
      nodeRecs := s.loop.nodeRecs.modify i fun r => { r with status := some (st, detail) } } s
  | none => s

def putJammed (l : List Nat) (s : State) : State := { s with line := { s.line with jammed := l } }

/-- A node joins the jammed set: JAM is raised when it was not there (R156). -/
def jamAdd (src : Nat) (s : State) : State :=
  if src ∈ s.line.jammed then s else raise .jam 1 src (putJammed (s.line.jammed ++ [src]) s)

/-- A node leaves the jammed set: JAM is lowered when it becomes empty (R156). -/
def jamRemove (src : Nat) (s : State) : State :=
  if src ∈ s.line.jammed then
    let s := putJammed (s.line.jammed.filter (· != src)) s
    if s.line.jammed.isEmpty then lower .jam s else s
  else s

/-- The Line Controller's part of a STATUS (R156). -/
def lineStatus (src : Nat) (r : Role) (st : StationState) (s : State) : State :=
  match st with
  | .jam => jamAdd src s
  | .fault => if r = .insertFeeder then s else jamAdd src s
  | .ready =>
    let s := jamRemove src s
    if r = .sheetStation then lower .collationOverrun s else s
  | .empty => s

/-- The Feeder Manager's and the Presort Unit's parts of a STATUS (R111, R141). -/
def unitStatus (n : NodeEntry) (r : Role) (st : StationState) (detail : Byte) (s : State) : State :=
  match r with
  | .insertFeeder => feederStatus n.feeder st s
  | .sorter => sorterStatus st detail s
  | _ => s

/-- A STATUS is recorded and handed on (R19); a recovery in WAIT is judged at the end of the event (R158). -/
def statusReport (src : Nat) (st : StationState) (detail : Byte) (n : NodeEntry) (r : Role) (s : State) : State :=
  endWait s (unitStatus n r st detail (lineStatus src r st (recordStatus src st detail s)))

def execStatus (src : Byte) (st : StationState) (detail : Byte) (s : State) : Out State :=
  run true (report 0x13 src (statusReport src.toNat st detail)) s

/-! ### BIN REPORT (R137 to R139) -/

/-- A BIN REPORT acts on a bin 1 to 16; any other is discarded and counted (R139). -/
def binReport (f : Nat → State → State) (bin : Byte) (s : State) : State :=
  if 1 ≤ bin.toNat ∧ bin.toNat ≤ 16 then f bin.toNat s else bumpRun 31 s

def execBinEmptied (src bin : Byte) (s : State) : Out State :=
  run true (report 0x14 src fun _ _ s => binReport binEmptied bin s) s

def execBinOffline (src bin : Byte) (s : State) : Out State :=
  run true (report 0x14 src fun _ _ s => binReport binOffline bin s) s

def execBinOnline (src bin : Byte) (s : State) : Out State :=
  run true (report 0x14 src fun _ _ s => binReport binOnline bin s) s

/-- A BIN REPORT of an unknown report code is discarded and counted (R139). -/
def execUnknownBinReport (src code bin : Byte) (s : State) : Out State :=
  run (Instr.wf (.unknownBinReport src code bin)) (report 0x14 src fun _ _ s => bumpRun 31 s) s

/-! ### Sending (R20, R25, R33, R167) -/

/-- The REPLY just sent is the one that accepted a DEVICE RESET: no reply is left behind it (R33). -/
def resetSent (c : Cell) (side : Side) (l : LoopIf) : Bool :=
  l.dispatcher.reset == .accepted && side == .own && kindCode c.kind == 0x50 && l.replies.isEmpty &&
    l.dispatcher.waiting.isEmpty

/-- The cell on LOOP_OUT has been sent, and the arbiter chooses the next (R20). -/
def LoopIf.sent (l : LoopIf) : LoopIf :=
  match l.wire with
  | none => l
  | some (c, side) =>
    let d := if resetSent c side l then { l.dispatcher with reset := .sent } else l.dispatcher
    LoopIf.choose { l with lastSide := some side, dispatcher := d }

/-- CELL_SENT; while LOOP_OUT sends idle fill there is no cell (log 2). -/
def cellSent (s : State) : State := putLoop s.loop.sent s

def execCellSent (s : State) : Out State := run true cellSent s

end Sys2Proof.Machine
end

