-- ==== Sys2Proof/Machine/Pitch.lean ====
section
/-! DEFINITION. The Pitch Unit (01, R2 to R16): time, the pocket counter, the phase, the meter, the emergency stop; and the ends of the
part's timers (R10, R15, R21, R158). -/

namespace Sys2Proof.Machine

def putPitch (p : PitchUnit) (s : State) : State := { s with pitch := p }

/-! ### Time (log 5) -/

/-- `n` units of 10 us pass: each running timer advances, up to its end (R10, R15, R21, R158). -/
def elapse (n : Nat) (s : State) : State :=
  { s with
    pitch := { s.pitch with
      openPeriod := s.pitch.openPeriod.map fun t => min Config.periodMax (t + n)
      releaseTimer := s.pitch.releaseTimer.map fun t => min Config.releaseTime (t + n) }
    loop := { s.loop with rollTimer := s.loop.rollTimer.map fun t => min Config.rollTime (t + n) }
    line := { s.line with holdLeft := s.line.holdLeft - n } }

/-! ### The meter (R10, R12) -/

/-- An entry joins the meter's list; the oldest of nine leaves (R10). -/
def joinMeter (e : Nat) (l : List Nat) : List Nat := (l ++ [e]).drop (l.length + 1 - Config.meterEntries)

/-- The average of a valid meter, 0 otherwise (R10). -/
def meterAverage (p : PitchUnit) : Nat := if p.meter.length = Config.meterEntries then p.meter.sum / 8 else 0

/-- The average of a valid meter lies outside the run-speed limits (R12). -/
def overSpeed (s : State) : Bool :=
  match profileOf s with
  | some p => decide (meterAverage s.pitch < p.periodLo) || decide (p.periodHi < meterAverage s.pitch)
  | none => false

/-- The run-speed check, when an entry has joined (R12). -/
def speedCheck (s : State) : State :=
  if s.line.state = .running ∧ s.pitch.driveEn ∧ meterValid s ∧ overSpeed s ∧ s.pitch.driveRateUp = false then
    raise .driveRate 0 0 (putPitch { s.pitch with driveRateUp := true } s)
  else s

/-! ### The pitch mark at the Pitch Unit (R2, R3, R5, R7, R8, R10) -/

/-- The counter's advance, modulo POCKETS (R3). -/
def advance (pockets n : Nat) : Nat := if n + 1 < pockets then n + 1 else 0

/-- What the Pitch Unit finds at a mark: its state after it, and whether a chain slip was found (R5, R7). -/
structure Marked where
  unit : PitchUnit
  slip : Bool

/-- A chain slip: the counter is 0 and invalid and the search count 0 (R5, R7). -/
def slipped (p : PitchUnit) : Marked := { unit := { p with counter := 0, counterValid := false, searchCount := 0 }, slip := true }

/-- A pending index is consumed after the counter has advanced (R5). DESIGN CHOICE: it returns the search count to 0 in every line state, as
R5's table says, where R7 leaves the count unchanged at a mark outside PRIMING (log 44). -/
def consumeIndex (p : PitchUnit) : Marked :=
  let q := { p with indexPending := false, searchCount := 0 }
  if p.counterValid ∧ p.counter ≠ 0 then slipped q
  else { unit := { q with counter := 0, counterValid := true }, slip := false }

/-- The index search in PRIMING, at a mark that consumes no index (R7). -/
def searchIndex (pockets : Nat) (priming : Bool) (p : PitchUnit) : Marked :=
  if priming then
    let n := p.searchCount + 1
    if pockets + 2 ≤ n then slipped p else { unit := { p with searchCount := n }, slip := false }
  else { unit := p, slip := false }

/-- The pocket counter at a mark, with the line profile VALID or without it (R2, R3, R5, R7). -/
def markCounter (pockets : Option Nat) (priming : Bool) (p : PitchUnit) : Marked :=
  match pockets with
  | none => { unit := { p with counter := 0, counterValid := false, indexPending := false }, slip := false }
  | some n =>
    let q := { p with counter := advance n p.counter }
    if p.indexPending then consumeIndex q else searchIndex n priming q

/-- The phase at a mark: the last span, then 0 (R8). -/
def markPhase (span : Nat) (p : PitchUnit) : PitchUnit := { p with lastSpan := span, phase := 0 }

/-- The meter at a mark: the open period is closed into an entry, and a period opens (R10). -/
def markMeter (p : PitchUnit) : PitchUnit :=
  match p.openPeriod with
  | some t => { p with meter := joinMeter (max 1 (min Config.periodMax t)) p.meter, openPeriod := some 0 }
  | none => if p.driveEn then { p with openPeriod := some 0 } else p

/-- UNEXPECTED MOTION: raised at a mark with the drive off unless up, lowered at a mark with the drive on (R14). -/
def unexpectedMotion (driveOn : Bool) (s : State) : State :=
  if driveOn then
    if s.pitch.unexpectedUp then lower .unexpectedMotion (putPitch { s.pitch with unexpectedUp := false } s) else s
  else if s.pitch.unexpectedUp then s
  else raise .unexpectedMotion 0 0 (putPitch { s.pitch with unexpectedUp := true } s)

/-- The Pitch Unit's own state after a mark (R2, R3). -/
def markUnit (s : State) : Marked :=
  let m := markCounter ((profileOf s).map (·.pockets)) (s.line.state == .priming) s.pitch
  { m with unit := markMeter (markPhase (phaseNow s) m.unit) }

/-- The pocket number at track position `p`, 0 to TRACK_LEN-1: the counter's value less `p`, modulo POCKETS; absent while the counter is
invalid (R6). -/
def pocketNumber (p : Nat) (s : State) : Option Nat :=
  match profileOf s with
  | some f =>
    if s.pitch.counterValid ∧ p < f.trackLen then some ((s.pitch.counter + (f.pockets - p)) % f.pockets) else none
  | none => none

/-- The notice a mark hands on, from the counter as it stands after the mark (R3, R6). -/
def noticeOf (driveOn : Bool) (s : State) : Notice :=
  { entry := pocketNumber 0 s, driveOn := driveOn, counterValid := s.pitch.counterValid }

/-- The conditions a mark may raise or lower, before its notice is handed on (R5, R7, R12, R14, log 7). -/
def markConditions (slip joined driveOn : Bool) (s : State) : State :=
  let s := if slip then pulse .chainSlip s else s
  let s := if joined then speedCheck s else s
  unexpectedMotion driveOn s

/-- The Pitch Unit takes a mark: its own state, its conditions, and the notice (R3). -/
def takeMark (s : State) : State × Notice :=
  let m := markUnit s
  let on := s.pitch.driveEn
  let s' := putPitch m.unit s
  (markConditions m.slip s.pitch.openPeriod.isSome on s', noticeOf on s')

/-! ### INDEX and ENCODER_STEP (R5, R8) -/

def execIndex (s : State) : Out State := run true (fun s => putPitch { s.pitch with indexPending := true } s) s

/-- The place of two levels in the forward order 00, 10, 11, 01 (PHASE_A leads PHASE_B, R8). -/
def quadrature (a b : Bool) : Nat :=
  match a, b with
  | false, false => 0
  | true, false => 1
  | true, true => 2
  | false, true => 3

/-- The phase after a change of levels: a forward step, a reverse step, or none (R8). -/
def stepPhase (old new limit phase : Nat) : Nat :=
  if new = (old + 1) % 4 then (if phase < limit then phase + 1 else limit)
  else if old = (new + 1) % 4 then phase - 1
  else phase

/-- The encoder's levels change (R8). -/
def encoderStep (a b : Bool) (s : State) : State :=
  putPitch { s.pitch with
    phase := stepPhase (quadrature s.pins.phaseA s.pins.phaseB) (quadrature a b) (phaseLimit s) (phaseNow s) } s

/-- ENCODER_STEP; while RESET_N is low the decoder only takes the levels as its reference (log 4). -/
def execEncoderStep (a b : Bool) (s : State) : Out State :=
  .next
    (let s' := if s.pins.resetN then encoderStep a b s else s
     { s' with pins := { s'.pins with phaseA := a, phaseB := b } })

/-! ### The emergency stop (R15) -/

def putEstopPin (high : Bool) (s : State) : State := { s with pins := { s.pins with estopN := high } }

/-- A fall of ESTOP_N: the release timer stops; an input not yet taken as asserted is taken so, the outputs go off, and ESTOP is
raised (R15, R161). -/
def estopFall (s : State) : State :=
  if s.pitch.estopAsserted then putPitch { s.pitch with releaseTimer := none } s
  else raise .estop 0 0 (updateDrive (putPitch { s.pitch with estopAsserted := true, releaseTimer := none } s))

/-- ESTOP_ASSERT: a level already low does not fall (log 2). -/
def execEstopAssert (s : State) : Out State :=
  .next (if s.pins.estopN then putEstopPin false (if s.pins.resetN then estopFall s else s) else s)

/-- A rise of ESTOP_N starts the release timer (R15). -/
def estopRise (s : State) : State := if s.pitch.estopAsserted then putPitch { s.pitch with releaseTimer := some 0 } s else s

/-- ESTOP_RISE: a level already high does not rise (log 2). -/
def execEstopRise (s : State) : Out State :=
  .next (if s.pins.estopN then s else putEstopPin true (if s.pins.resetN then estopRise s else s))

/-- The release timer ends: the input is taken as released and ESTOP is lowered (R15). -/
def estopRelease (s : State) : State :=
  match s.pitch.releaseTimer with
  | none => s
  | some t =>
    let s := elapse (Config.releaseTime - t) s
    lower .estop (updateDrive (putPitch { s.pitch with estopAsserted := false, releaseTimer := none } s))

/-- ESTOP_RELEASE_TIMER_EXPIRY; with the timer stopped nothing ends (log 2). -/
def execEstopReleaseTimerExpiry (s : State) : Out State := run true estopRelease s

/-- At the end of a reset ESTOP_N is read as it stands (R15). -/
def readEstop (s : State) : State := if s.pins.estopN then s else estopFall s

/-! ### Other timer ends (R7, R10, R21) -/

/-- A stall entry joins the meter and a new period opens (R10, R12, R150). -/
def meterStall (s : State) : State :=
  match s.pitch.openPeriod with
  | none => s
  | some t =>
    let s := elapse (Config.periodMax - t) s
    let s := putPitch { s.pitch with meter := joinMeter Config.periodMax s.pitch.meter, openPeriod := some 0 } s
    settle (takeReports (speedCheck s))

/-- METER_STALL_ENTRY; with no open period nothing ends (log 2). -/
def execMeterStallEntry (s : State) : Out State := run true meterStall s

/-- The index search count stands at POCKETS+2 in PRIMING (R7). -/
def searchSpent (s : State) : Bool :=
  s.line.state == .priming && (profileOf s).any fun p => decide (p.pockets + 2 ≤ s.pitch.searchCount)

/-- The index search ends without an index (R7); a PITCH_MARK that brings the count there has already done this (log 8). -/
def searchExpiry (s : State) : State :=
  if searchSpent s then takeReports (pulse .chainSlip (putPitch (slipped s.pitch).unit s)) else s

def execIndexSearchExpiry (s : State) : Out State := run true searchExpiry s

/-- The roll timer ends and a roll becomes due (R21). -/
def rollTimerEnd (s : State) : State :=
  match s.loop.rollTimer with
  | none => s
  | some t =>
    let s := elapse (Config.rollTime - t) s
    rollDue (putLoop { s.loop with rollTimer := some 0 } s)

/-- ROLL_TIMER_EXPIRY; with the timer stopped nothing ends (log 2). -/
def execRollTimerExpiry (s : State) : Out State := run true rollTimerEnd s

end Sys2Proof.Machine
end

