-- ==== Sys2Proof/Machine/Line.lean ====
section
/-! DEFINITION. The Line Controller's requests (09, R147 to R149, R154), the end of the recovery hold (R158), and the feeder and group
requests (R113, R142, R143). -/

namespace Sys2Proof.Machine

def putLine (l : LineCtl) (s : State) : State := { s with line := l }

/-! ### START (R147) -/

/-- The blocking latch kinds, in code order (R147). -/
def blockingKinds : List LatchKind := [.estop, .essentialLost, .retriesExhausted, .groupExhausted]

/-- The lowest-coded blocking latch that is ACTIVE or LATCHED (R147). -/
def blockingLatch (s : State) : Option LatchKind := blockingKinds.find? fun k => (latch k s).state != .idle

/-- The first start condition that fails, with what it names (R147). -/
def startFailure (s : State) : Option (Nat × Nat) :=
  match firstInvalidTable s with
  | some t => some (1, tableNumber t)
  | none =>
    if s.pitch.estopAsserted then some (2, 0)
    else (blockingLatch s).map fun k => (3, latchCode k)

/-- The data of a reply to START (R147). -/
def startData (st : LineState) (f : Option (Nat × Nat)) : List Byte :=
  beBytes 1 (lineCode st) ++ beBytes 1 (f.getD (0, 0)).1 ++ beBytes 1 (f.getD (0, 0)).2

/-- An accepted START from a stopped state (R147, R150). -/
def startLine (s : State) : State :=
  setLine .priming 0 (putLine { s.line with retry := 0, clean := 0, drainPending := false } s)

/-- START (R147, R159, R160; log 36). -/
def startHandler : Handler := fun _ s =>
  match s.line.state, startFailure s with
  | .halted, none | .paused, none => (startLine s, one .accepted (startData .priming none))
  | .draining, none => (settle (setLine .running 0 s), one .accepted (startData .running none))
  | .halted, some f | .paused, some f | .draining, some f => (s, one .state (startData s.line.state (some f)))
  | .priming, f | .running, f => (s, one .accepted (startData s.line.state f))
  | .recovery, _ | .lockout, _ => (s, one .state (startData s.line.state none))

/-! ### STOP and CUT (R148, R149) -/

/-- The effect of STOP (R148, R152). -/
def stopLine (s : State) : State :=
  match s.line.state with
  | .priming => settle (setLine .draining 0 (putLine { s.line with drainPending := false } s))
  | .running => settle (setLine .draining 0 s)
  | .recovery | .lockout => setLine (stoppedState s) 0 s
  | .draining | .halted | .paused => s

/-- The data of a reply to STOP or CUT: the state before and after (R148, R149). -/
def beforeAfter (s s' : State) : List Byte := beBytes 1 (lineCode s.line.state) ++ beBytes 1 (lineCode s'.line.state)

def stopHandler : Handler := fun _ s => (stopLine s, one .accepted (beforeAfter s (stopLine s)))

/-- The effect of CUT (R149). -/
def cutLine (s : State) : State :=
  match s.line.state with
  | .priming | .running | .draining =>
      let s := suspectAll s
      setLine (stoppedState s) 0 s
  | .recovery => setLine (stoppedState s) 0 s
  | .halted | .paused | .lockout => s

def cutHandler : Handler := fun _ s => (cutLine s, one .accepted (beforeAfter s (cutLine s)))

/-! ### CLEAR FAULT (R154) -/

/-- The reply code of a CLEAR FAULT (R154). -/
def clearCode (l : Latch) (occurrence : Nat) : ResultCode :=
  match l.state with
  | .active => .stillActive
  | .latched => if l.occurrence = occurrence then .accepted else .stale
  | .idle => .accepted

/-- The latch after a CLEAR FAULT (R154). -/
def clearLatch (l : Latch) (occurrence : Nat) : Latch :=
  if l.state = .latched ∧ l.occurrence = occurrence then { l with state := .idle } else l

/-- CLEAR FAULT (R154). -/
def clearFaultHandler : Handler := fun c s =>
  match latchOfCode (payByte c 4) with
  | none => (s, one .arg [])
  | some k =>
    let l := clearLatch (latch k s) (payByte c 5)
    (putLatch k l s, one (clearCode (latch k s) (payByte c 5)) (beBytes 1 (latchStateCode l.state) ++ beBytes 1 l.occurrence))

/-! ### The end of the recovery hold (R158) -/

/-- The retry limit of the line profile, 0 while it is not VALID (R162). -/
def retryLimit (s : State) : Nat := ((profileOf s).map (·.retryLimit)).getD 0

/-- The hold expires: WAIT, LOCKOUT by RETRIES EXHAUSTED, or PRIMING (R158, log 31). -/
def holdExpiry (s : State) : State :=
  if recoveryCondition s then putLine { s.line with phase := .wait, holdLeft := 0 } s
  else if retryLimit s ≤ s.line.retry then pulse .retriesExhausted s
  else setLine .priming 0 (putLine { s.line with retry := s.line.retry + 1, phase := .none } s)

/-- RECOVERY_HOLD_EXPIRY: the timer runs only while the phase is HOLD (R158, log 2). -/
def recoveryExpiry (s : State) : State := if s.line.phase = .hold then holdExpiry (elapse s.line.holdLeft s) else s

def execRecoveryHoldExpiry (s : State) : Out State := run true recoveryExpiry s

/-! ### FEEDER ENABLE and FEEDER DISABLE (R113) -/

/-- A feeder number, 1 to 12 (R113). -/
def feederOk (k : Nat) : Bool := 1 ≤ k && k ≤ 12

/-- The feeder's node last reported READY (R113). -/
def lastReady (k : Nat) (s : State) : Bool := (lastStatusOf .insertFeeder k s).any fun p => p.1 == .ready

/-- A feeder is enabled: READY with its counts at 0 (R113, R114). -/
def enableFeeder (k : Nat) (s : State) : State :=
  feederBecomes k .ready (putFeeder k { feederRec k s with misses := 0, timing := 0 } s)

/-- The reply data of both requests: the feeder's state before (R113). -/
def feederData (k : Nat) (s : State) : List Byte := beBytes 1 (feederCode (feederRec k s).state)

/-- FEEDER ENABLE (R113). -/
def feederEnableHandler : Handler := fun c s =>
  let k := payByte c 4
  if !feederOk k then (s, one .arg [])
  else
    match (feederRec k s).state with
    | .ready => (s, one .accepted (feederData k s))
    | .faulted | .disabled =>
      if lastReady k s then (enableFeeder k s, one .accepted (feederData k s)) else (s, one .state (feederData k s))
    | .none | .empty | .lost => (s, one .state (feederData k s))

/-- FEEDER DISABLE (R113). -/
def feederDisableHandler : Handler := fun c s =>
  let k := payByte c 4
  if !feederOk k then (s, one .arg [])
  else if (feederRec k s).state = .none then (s, one .state (feederData k s))
  else (feederBecomes k .disabled s, one .accepted (feederData k s))

/-! ### CLOSE GROUP and RESTART GROUP (R142, R143) -/

/-- The bin belongs to a group CLOSE GROUP names: 255 names every group (R142). -/
def namedBin (g b : Nat) (s : State) : Bool :=
  match ownerOf b s with
  | some o => g == 255 || o == g
  | none => false

/-- CLOSE GROUP (R142). -/
def closeGroupHandler : Handler := fun c s =>
  let g := payByte c 4
  if !(g ≤ 63 || g == 255) then (s, one .arg [])
  else
    let r := closeBins .closed (namedBin g) allBins s
    (r.1, one .accepted (beBytes 1 r.2))

/-- RESTART GROUP acts on a group that has bins; GROUP EXHAUSTED is evaluated when it was a STOP group in EXHAUSTED (R143). -/
def restartGroup (g : Nat) (s : State) : State :=
  let r := groupRec g s
  if r.rotation.isEmpty then s
  else
    let s' := modGroup g (fun r => { r with index := 0, state := .active }) s
    if r.action = .stop ∧ r.state = .exhausted then evalExhausted s' else s'

/-- RESTART GROUP (R143). -/
def restartGroupHandler : Handler := fun c s =>
  let g := payByte c 4
  if !(g ≤ 63) then (s, one .arg [])
  else (restartGroup g s, one .accepted (beBytes 1 (groupStateCode (groupRec g s).state)))

/-! ### The commands -/

def execStart (s : State) : Out State := run true (request 0x3B startHandler) s
def execStop (s : State) : Out State := run true (request 0x3C stopHandler) s
def execCut (s : State) : Out State := run true (request 0x3D cutHandler) s
def execFeederEnable (s : State) : Out State := run true (request 0x3E feederEnableHandler) s
def execFeederDisable (s : State) : Out State := run true (request 0x3F feederDisableHandler) s
def execCloseGroup (s : State) : Out State := run true (request 0x40 closeGroupHandler) s
def execRestartGroup (s : State) : Out State := run true (request 0x41 restartGroupHandler) s
def execClearFault (s : State) : Out State := run true (request 0x42 clearFaultHandler) s

end Sys2Proof.Machine
end

