-- ==== Sys2Proof/Machine/Staging.lean ====
section
/-! DEFINITION. Staged parameters and settling (03, R43 and R48 to R51): STAGE, HOLD, HOLD RELEASE, the apply at a take. -/

namespace Sys2Proof.Machine

/-! ### The slots (R48) -/

/-- The slots present of a vector of slots. -/
def present {n : Nat} (v : Vector (Option Nat) n) : List Bool := v.toList.map (·.isSome)

/-- Whether the slots of fields 1, 2, 3, 5, 7, 8, 9 are present, each at its field's place (R48, R52). -/
def Staged.fields (g : Staged) : List Bool :=
  [g.tolerance.isSome, g.sheetCaliper.isSome, g.envCaliper.isSome, false, g.missLimit.isSome, false, g.fold.isSome,
    g.envClass.isSome, g.deadline.isSome]

/-- The number of slots present, 0 to 31 (R48). -/
def Staged.count (g : Staged) : Nat := (g.fields ++ present g.calipers ++ present g.pairs).countP id

/-- A value lies in the range of its STAGE field, and the field and feeder are right (R43, R48). -/
def stageOk (f : StageForm) : Bool :=
  let inRange := fun (lo hi : Nat) => lo ≤ f.value && f.value ≤ hi
  let feederOk := 1 ≤ f.feeder && f.feeder ≤ 12
  match f.field with
  | 1 => inRange 0 2000
  | 2 => inRange 1 100
  | 3 => inRange 1 1000
  | 4 => feederOk && inRange 0 1000
  | 5 => inRange 1 7
  | 6 => feederOk && inRange 0 6
  | 7 => inRange 0 15
  | 8 => inRange 0 15
  | 9 => inRange 4 1000
  | _ => false

/-- The slot a STAGE names, as it stands (R48). -/
def stagedSlot (f : StageForm) (g : Staged) : Option Nat :=
  match f.field with
  | 1 => g.tolerance
  | 2 => g.sheetCaliper
  | 3 => g.envCaliper
  | 4 => vget g.calipers (f.feeder - 1)
  | 5 => g.missLimit
  | 6 => vget g.pairs (f.feeder - 1)
  | 7 => g.fold
  | 8 => g.envClass
  | 9 => g.deadline
  | _ => none

/-- The slot a STAGE names takes the value (R48). -/
def putSlot (f : StageForm) (g : Staged) : Staged :=
  match f.field with
  | 1 => { g with tolerance := some f.value }
  | 2 => { g with sheetCaliper := some f.value }
  | 3 => { g with envCaliper := some f.value }
  | 4 => { g with calipers := vset g.calipers (f.feeder - 1) (some f.value) }
  | 5 => { g with missLimit := some f.value }
  | 6 => { g with pairs := vset g.pairs (f.feeder - 1) (some f.value) }
  | 7 => { g with fold := some f.value }
  | 8 => { g with envClass := some f.value }
  | 9 => { g with deadline := some f.value }
  | _ => g

def putStaged (g : Staged) (s : State) : State := { s with tables := { s.tables with staged := g } }
def putHold (b : Bool) (s : State) : State := { s with tables := { s.tables with hold := b } }

/-- STAGE (R48). -/
def stageHandler : Handler := fun c s =>
  let f := stageForm c
  if !stageOk f then (s, one .arg [])
  else if s.tables.job.state ≠ .valid then (s, one .state [])
  else
    let g := putSlot f s.tables.staged
    (putStaged g s, one .accepted (flagByte (stagedSlot f s.tables.staged).isSome ++ beBytes 1 g.count))

/-- HOLD and HOLD RELEASE: the hold flag takes a value; the reply gives its previous one and the slots present (R49). -/
def holdHandler (b : Bool) : Handler := fun _ s =>
  (putHold b s, one .accepted (flagByte s.tables.hold ++ beBytes 1 s.tables.staged.count))

/-! ### The apply at a take and the settling answer (R50, R51) -/

/-- The working values with every present slot's value in place of the matching one (R50). -/
def Working.apply (w : Working) (g : Staged) : Working :=
  { w with
    tolerance := g.tolerance.getD w.tolerance, sheetCaliper := g.sheetCaliper.getD w.sheetCaliper,
    envCaliper := g.envCaliper.getD w.envCaliper, fold := g.fold.getD w.fold, envClass := g.envClass.getD w.envClass,
    missLimit := g.missLimit.getD w.missLimit, deadline := g.deadline.getD w.deadline
    feeders := Vector.ofFn fun i =>
      let j := w.feeders[i]
      { j with caliper := g.calipers[i].getD j.caliper, pair := g.pairs[i].getD j.pair } }

/-- The tables after an apply of the present slots (R50, R51). -/
def applyTables (w : Working) (t : TableStore) : TableStore :=
  let w' := w.apply t.staged
  { t with
    work := some w', staged := Staged.none, lastFold := some (w'.fold, w'.envClass)
    settling := if w'.fold ≠ w.fold ∨ w'.envClass ≠ w.envClass then 2 else t.settling }

/-- The apply at a take: with the hold off and a slot present, every present slot replaces its working value; a replaced essential
pair is followed by the evaluation of the pairs (R50, R51, R121). -/
def applyStaged (s : State) : State :=
  match s.tables.work with
  | some w =>
    if s.tables.hold = false ∧ s.tables.staged.count ≠ 0 then
      let s' := { s with tables := applyTables w s.tables }
      if (present s.tables.staged.pairs).any id then evalPairs s' else s'
    else s
  | none => s

/-- The settling counter answers whether the set is unsettled, and decreases (R51). -/
def settlingAnswer (s : State) : State × Bool :=
  ({ s with tables := { s.tables with settling := s.tables.settling - 1 } }, decide (s.tables.settling ≠ 0))

def execStage (s : State) : Out State := run true (request 0x38 stageHandler) s
def execHold (s : State) : Out State := run true (request 0x39 (holdHandler true)) s
def execHoldRelease (s : State) : Out State := run true (request 0x3A (holdHandler false)) s

end Sys2Proof.Machine
end

