-- ==== Sys2Proof/Machine/PitchMark.lean ====
section
/-! DEFINITION. PITCH_MARK: the take and the feed hold (04, R59 to R63), the line's clean pitches (R151), and the pitch notice at its
five receivers (R4). -/

namespace Sys2Proof.Machine

/-! ### Skipped records (R60) -/

/-- Skipped records leave the head of the queue while room allows (R60); `n` bounds the number of releases. -/
def releaseSkipped : Nat → State → State
  | 0, s => s
  | n + 1, s =>
    match s.acct.queue with
    | [] => s
    | r :: rest =>
      if r.skipped ∧ claims s + 1 ≤ free s then
        releaseSkipped n
          (bumpRun 1 (writeRecord (.missing r.seq .skippedRelease) (putAcct { s.acct with queue := rest } s)))
      else s

/-! ### The conditions of a take (R59) and the feed hold (R63) -/

/-- A station's last status is EMPTY (R59). -/
def reportsEmpty (role : Role) (s : State) : Bool := (lastStatusOf role 0 s).any fun p => p.1 == .empty

/-- The first failing condition of a take, in table order (R59). -/
def holdReason (s : State) : Option HoldReason :=
  if s.stage.assembly.isSome then some .stageBusy
  else if s.acct.queue.head?.any (·.skipped) then some .releaseWaiting
  else if s.acct.queue.isEmpty then some .queueEmpty
  else if reportsEmpty .sheetStation s then some .sheetEmpty
  else if reportsEmpty .envStation s then some .envelopeEmpty
  else if !pairsCovered s then some .essentialEmpty
  else if free s < claims s + 3 then some .room
  else none

/-- A FEED HOLD begin notice (R63, 02 "Reply and notice"). -/
def beginHold (r : HoldReason) (s : State) : State := notice 3 [1, BitVec.ofNat 8 (holdCode r)] s

/-- The feed-hold state takes the result of a considered take (R63). -/
def feedHold (new : Option HoldReason) (s : State) : State :=
  if s.acct.holdReason = new then s
  else
    let s := endFeedHold s
    match new with
    | some r => beginHold r (putAcct { s.acct with holdReason := some r } s)
    | none => s

/-! ### The take (R61) -/

/-- The head record r is bound to a new set (R61); `rest` follows it in the queue. -/
def takeRecord (r : Account) (rest : List Account) (s : State) : State :=
  let (s, unsettled) := settlingAnswer (applyStaged s)
  let (s, f) := bindRecord r s
  let s := bumpRun 1 (putAcct { s.acct with queue := rest } s)
  match s.tables.work with
  | some w => orderSet r.seq f unsettled w s
  | none => s

/-- The take is considered: made, or held for the first failing condition (R59, R61, R63). Without working values no take is made
(R47). -/
def considerTake (s : State) : State :=
  match holdReason s, s.acct.queue, s.tables.work with
  | some h, _, _ => feedHold (some h) s
  | none, r :: rest, some _ => takeRecord r rest (feedHold none s)
  | none, _, _ => s

/-- The Account Queue takes a pitch notice (R59, R60). DESIGN CHOICE: in DRAINING with the drive ON skipped records are released whatever
the counter state (log 39). -/
def accountNotice (n : Notice) (s : State) : State :=
  match s.line.state with
  | .running =>
    if n.driveOn ∧ n.counterValid then considerTake (releaseSkipped s.acct.queue.length s) else s
  | .draining => if n.driveOn then releaseSkipped s.acct.queue.length s else s
  | .halted | .paused | .priming | .recovery | .lockout => s

/-! ### The line's notice (R150, R151) -/

/-- One more clean pitch; the 500th forgives the retries (R151). -/
def cleanPitch (s : State) : State :=
  if Config.cleanPitches ≤ s.line.clean + 1 then { s with line := { s.line with clean := 0, retry := 0 } }
  else { s with line := { s.line with clean := s.line.clean + 1 } }

/-- The Line Controller takes a pitch notice, and with it the Pitch Unit's reports (R150, R151). DESIGN CHOICE: the notice counts as
taken in RUNNING by the line state before the reports, so the notice at which PRIMING ends is no clean pitch (log 42). -/
def lineNotice (n : Notice) (s : State) : State :=
  let running := s.line.state == .running
  let s := takeReports s
  if running && n.driveOn then cleanPitch s else s

/-- CLEAN_PITCH_COUNT_EXPIRY: in RUNNING with the drive on and the count at 499, the 500th clean pitch (R151, log 8). -/
def cleanExpiry (s : State) : State :=
  if s.line.state = .running ∧ s.pitch.driveEn ∧ Config.cleanPitches ≤ s.line.clean + 1 then cleanPitch s else s

def execCleanPitchCountExpiry (s : State) : Out State := run true cleanExpiry s

/-! ### The receivers (R4) -/

/-- One receiver takes the notice; what follows from it follows at once. -/
def receive (n : Notice) (s : State) (r : Receiver) : State :=
  settle
    (match r with
     | .track => takeDue s
     | .collation => collationNotice n s
     | .account => accountNotice n s
     | .line => lineNotice n s
     | .loop => if n.driveOn then rollDue s else s)

/-- The five receivers, each once: in the order given, and any that it leaves out after them (R4, log 6). -/
def receiverOrder (order : List Receiver) : List Receiver :=
  (order ++ [Receiver.track, .collation, .account, .line, .loop]).foldl (fun l r => if r ∈ l then l else l ++ [r]) []

/-- The notice is handed on, and no longer due once every receiver has taken it (R4, R102). -/
def handOn (n : Notice) (order : List Receiver) (s : State) : State :=
  let s := order.foldl (receive n) { s with track := { s.track with due := some n } }
  { s with track := { s.track with due := none }, stage := { s.stage with freshTake := false } }

/-- A pitch mark `elapsed` units after the command before it (R3, R4, log 5, log 6). -/
def pitchMark (elapsed : Nat) (order : List Receiver) (s : State) : State :=
  let (s, n) := takeMark (elapse elapsed s)
  handOn n (receiverOrder order) s

def execPitchMark (elapsed : Nat) (order : List Receiver) (s : State) : Out State :=
  run true (pitchMark elapsed order) s

end Sys2Proof.Machine
end

