-- ==== Sys2Proof/Machine/Reads.lean ====
section
/-! DEFINITION. READ (R28): the data of every status item, each field in the width its range needs (02, "Status items"; R16, R34, R52,
R69, R113, R127, R144, R162, R169). -/

namespace Sys2Proof.Machine

/-- A number that may be absent, 0 when it is. -/
def orZero (o : Option Nat) : Nat := o.getD 0

/-- Pitch status, item 1 (R16, 02 "Status items"). DESIGN CHOICE: the last span is sent as recorded at the mark, also after a commit that
lowers PHASES below it (log 37). -/
def readPitch (s : State) : List Byte :=
  beBytes 1 s.pitch.counter ++
  beBytes 1 (bitMap [s.pitch.counterValid, s.pitch.indexPending, meterValid s, s.pitch.estopAsserted, s.pitch.driveEn,
    s.pitch.driveCrawl]) ++
  beBytes 1 s.pitch.searchCount ++ beBytes 2 (phaseNow s) ++ beBytes 2 s.pitch.lastSpan ++ beBytes 1 s.pitch.meter.length ++
  beBytes 2 (meterAverage s.pitch)

/-- Roll state, item 2. -/
def readRoll (s : State) : List Byte :=
  beBytes 1 s.loop.rollSerial ++ beBytes 1 (bitMap [s.loop.returned, s.loop.ringBreakUp]) ++ beBytes 1 s.loop.misses ++
    beBytes 8 s.loop.lastMask.toNat

/-- Node record, item 3: entry i of a VALID node table. -/
def readNode (i : Nat) (s : State) : Option (List Byte) :=
  match (nodesOf s)[i]?, s.loop.nodeRecs[i]? with
  | some n, some r =>
    some (beBytes 1 n.addr ++ beBytes 1 ((n.role.map roleCode).getD 0) ++ beBytes 1 n.feeder ++ beBytes 1 r.absent ++
      flagByte r.lost ++ beBytes 1 ((r.status.map fun p => stationCode p.1).getD 0) ++
      [(r.status.map fun p => p.2).getD 0])
  | _, _ => none

/-- Table state, item 4 (R52). -/
def readTable (t : TableId) (s : State) : List Byte :=
  let x := s.tables.get t
  beBytes 1 (tableNumber t) ++ beBytes 1 (tableStateCode x.state) ++ beBytes 2 x.loadCount ++ beBytes 2 x.count ++
    beBytes 2 x.checksum ++ beBytes 1 x.failCode ++ beBytes 2 x.failIndex

/-- Latch record, item 5 (R162). -/
def readLatch (k : LatchKind) (s : State) : List Byte :=
  let l := latch k s
  beBytes 1 (latchCode k) ++ beBytes 1 (latchStateCode l.state) ++ beBytes 1 l.occurrence ++ beBytes 1 l.sort ++
    beBytes 1 l.number ++ beBytes 2 l.raisings

/-- The hold timer's steps of 100 ms still to run, rounded up (R162, log 22). -/
def holdRemaining (s : State) : Nat :=
  if s.line.phase = .hold then (s.line.holdLeft + Config.holdStep - 1) / Config.holdStep else 0

/-- Line status, item 6 (R162). -/
def readLine (s : State) : List Byte :=
  beBytes 1 (lineCode s.line.state) ++ beBytes 1 (lineCode s.line.prev) ++ beBytes 1 s.line.lastCause ++
  flagByte s.line.drainPending ++ beBytes 1 s.line.retry ++ beBytes 1 (retryLimit s) ++ beBytes 2 s.line.clean ++
  beBytes 1 (phaseCode s.line.phase) ++ beBytes 2 (holdRemaining s) ++ flagByte s.line.counterValid ++
  flagByte s.line.meterValid ++ flagByte (stageHeld s) ++ flagByte (trackHeld s) ++ flagByte (firstInvalidTable s).isNone ++
  beBytes 1 s.line.jammed.length ++ beBytes 1 s.line.stationLoss.length

/-- The standing of a feeder's pair, 0 when it is in none (R127). -/
def pairStanding (k : Nat) (s : State) : Nat :=
  let p := (feederJob k s).pair
  if p = 0 then 0 else standingCode (vget s.feeders.pairs (p - 1))

/-- Feeder record, item 7 (R127). -/
def readFeeder (k : Nat) (s : State) : List Byte :=
  let n := nodeOf .insertFeeder k s
  let j := feederJob k s
  let r := feederRec k s
  beBytes 1 k ++ flagByte n.isSome ++ beBytes 1 (orZero (n.map (·.addr))) ++ beBytes 1 (orZero (n.map (·.position))) ++
  beBytes 1 (feederCode r.state) ++ beBytes 1 j.alternate ++ beBytes 2 j.caliper ++ beBytes 1 j.pair ++
  beBytes 1 (pairStanding k s) ++ beBytes 1 r.misses ++ beBytes 1 r.timing

def groupModeCode : GroupMode → Nat
  | .single => 1 | .loop => 2

def exhaustCode : ExhaustAction → Nat
  | .overflow => 1 | .stop => 2

/-- Group record, item 8 (R144). -/
def readGroup (g : Nat) (s : State) : List Byte :=
  let r := groupRec g s
  beBytes 1 g ++ beBytes 1 r.rotation.length ++ padTo 5 (r.rotation.map (BitVec.ofNat 8)) ++ beBytes 1 (groupModeCode r.mode) ++
  beBytes 1 (exhaustCode r.action) ++ beBytes 1 r.index ++ beBytes 1 (groupStateCode r.state) ++ beBytes 2 r.tray

/-- Bin record, item 9: bins 1 to 16, and bin 0 the overflow bin (R144). -/
def readBin (b : Nat) (s : State) : List Byte :=
  if b = 0 then
    beBytes 1 0 ++ beBytes 2 s.presort.overflow ++ beBytes 2 (warningLevel s) ++ flagByte s.presort.reportedFull
  else
    let r := binRec b s
    beBytes 1 b ++ beBytes 1 (binStateCode r.state) ++ beBytes 2 r.count ++ beBytes 2 (capacityOf b s) ++
    beBytes 1 ((ownerOf b s).getD 255) ++ beBytes 2 r.tray ++ beBytes 3 r.firstSeq ++ beBytes 3 r.lastSeq

/-- Account queue status, item 10 (R69). -/
def readAccounts (s : State) : List Byte :=
  let q := s.acct.queue
  beBytes 2 q.length ++ beBytes 3 (orZero (q.head?.map (·.seq))) ++ beBytes 3 (orZero s.acct.tail) ++
  beBytes 3 (orZero s.acct.base) ++ beBytes 3 (orZero (s.acct.halfA.map (·.seq))) ++ beBytes 2 (q.countP (·.skipped)) ++
  beBytes 2 (q.countP (·.recalled)) ++ beBytes 2 s.tables.pull.length ++ beBytes 1 (orZero (s.acct.holdReason.map holdCode))

/-- Pull list entry, item 11 (R69). -/
def readPull (e : PullEntry) : List Byte :=
  beBytes 6 e.key ++ beBytes 1 e.reason ++ beBytes 1 (pullKindCode e.kind) ++ beBytes 1 e.hits

/-- A counter: its number and its value (R34, R169). -/
def readCounter {n : Nat} (v : Vector Nat n) (i : Nat) : List Byte := beBytes 1 i ++ beBytes 4 (vget v (i - 1))

/-- Outcome queue status, item 13 (R169). -/
def readOutcomes (s : State) : List Byte :=
  beBytes 2 s.outcomes.recs.length ++ beBytes 2 (free s) ++ beBytes 1 (stageClaims s) ++ beBytes 1 (trackClaims s) ++
  beBytes 1 (presortClaims s) ++ beBytes 1 (claims s) ++ beBytes 2 (free s - claims s) ++ beBytes 4 s.outcomes.fetched

/-- Staged set, item 14 (R52). DESIGN CHOICE: the last applied fold is two bytes, the fold program and the envelope class, each 255
when it is absent (log 38). -/
def readStaged (s : State) : List Byte :=
  let g := s.tables.staged
  flagByte s.tables.hold ++ beBytes 1 g.count ++ beBytes 1 s.tables.settling ++ beBytes 2 (bitMap g.fields) ++
  beBytes 2 (bitMap (present g.calipers)) ++ beBytes 2 (bitMap (present g.pairs)) ++
  beBytes 1 ((s.tables.lastFold.map (·.1)).getD 255) ++ beBytes 1 ((s.tables.lastFold.map (·.2)).getD 255)

/-- Data when the index lies from lo to hi. -/
def inRange (lo hi i : Nat) (d : List Byte) : Option (List Byte) := if lo ≤ i ∧ i ≤ hi then some d else none

/-- The data of one entry of an item; none for an unknown item or an index beyond it (R28). -/
def readEntry (item i : Nat) (s : State) : Option (List Byte) :=
  match item with
  | 1 => inRange 0 0 i (readPitch s)
  | 2 => inRange 0 0 i (readRoll s)
  | 3 => readNode i s
  | 4 => (tableOfNumber i).map fun t => readTable t s
  | 5 => (latchOfCode i).map fun k => readLatch k s
  | 6 => inRange 0 0 i (readLine s)
  | 7 => inRange 1 12 i (readFeeder i s)
  | 8 => inRange 0 63 i (readGroup i s)
  | 9 => inRange 0 16 i (readBin i s)
  | 10 => inRange 0 0 i (readAccounts s)
  | 11 => (s.tables.pull[i]?).map readPull
  | 12 => inRange 1 31 i (readCounter s.outcomes.counters i)
  | 13 => inRange 0 0 i (readOutcomes s)
  | 14 => inRange 0 0 i (readStaged s)
  | 15 => inRange 1 9 i (readCounter s.loop.counters i)
  | _ => none

/-- The indexes of the entries of an item that has entries, in index order (R28). -/
def entryIndexes (item : Nat) (s : State) : Option (List Nat) :=
  match item with
  | 3 => some (List.range (nodesOf s).length)
  | 4 => some ((List.range 7).map (· + 1))
  | 5 => some ((List.range 14).map (· + 1))
  | 7 => some allFeeders
  | 8 => some (List.range 64)
  | 9 => some (List.range 17)
  | 11 => some (List.range s.tables.pull.length)
  | 12 => some ((List.range 31).map (· + 1))
  | 15 => some ((List.range 9).map (· + 1))
  | _ => none

/-- The entries a READ names: one, or all at index 65,535 (R28). -/
def readEntries (item i : Nat) (s : State) : Option (List (List Byte)) :=
  if i = 65535 then (entryIndexes item s).map fun l => l.filterMap fun k => readEntry item k s
  else (readEntry item i s).map fun d => [d]

/-- The pieces of 13 bytes an entry is sent in (R28): at most two are needed. -/
def pieces (d : List Byte) : List (List Byte) := if d.length ≤ 13 then [d] else [d.take 13, d.drop 13]

/-- The items of a READ's answer: one for each piece; a READ that yields none gives one of zeros (R27, R28). -/
def readItems (l : List (List Byte)) : List Item :=
  match l with
  | [] => one .accepted []
  | _ => (l.flatMap pieces).map fun d => (.accepted, d)

/-- READ (R28). -/
def readHandler : Handler := fun c s =>
  match readEntries (payByte c 4) (payNum c 5 2) s with
  | some l => (s, readItems l)
  | none => (s, one .arg [])

def execRead (s : State) : Out State := run true (request 0x32 readHandler) s

end Sys2Proof.Machine
end

