-- ==== Sys2Proof/Machine/Outcomes.lean ====
section
/-! DEFINITION. The Outcome Queue (10): the FETCH layouts, FETCH and REPLY_PLACE (R167), CLEAR RUN (R170). -/

namespace Sys2Proof.Machine

/-! ### The layouts of outcome and tray records (02, "Outcome and tray records") -/

/-- The flags of a set that may be stray: bit 0 stray set, bit 1 sequence number present. -/
def strayFlags : Binding → Nat
  | .account _ => 2
  | .stray none => 1
  | .stray (some _) => 3

/-- A yes or no as bit 0. -/
def bit (b : Bool) : Nat := if b then 1 else 0

/-- The 13 data bytes of a record: its kind, then bytes 1 to 12. -/
def recordBytes : Record → List Byte
  | .mailed seq g b t p c => beBytes 1 1 ++ beBytes 3 seq ++ beBytes 1 g ++ beBytes 1 b ++ beBytes 2 t ++ beBytes 2 p ++ flagByte c
  | .held seq g why => beBytes 1 2 ++ beBytes 3 seq ++ beBytes 1 g ++ beBytes 1 (heldCode why)
  | .diverted seq why n c => beBytes 1 3 ++ beBytes 3 seq ++ beBytes 1 (reasonCode why) ++ beBytes 1 n ++ flagByte c
  | .stray o c why n =>
      beBytes 1 4 ++ beBytes 3 (o.getD 0) ++ beBytes 1 (bit o.isSome + 2 * bit c) ++ beBytes 1 (reasonCode why) ++ beBytes 1 n
  | .missing seq why => beBytes 1 5 ++ beBytes 3 seq ++ beBytes 1 (missingCode why)
  | .purged b t => beBytes 1 6 ++ beBytes 3 (bindingSeq b) ++ beBytes 1 (strayFlags b) ++ beBytes 1 (1 + bit t)
  | .lost b x => beBytes 1 7 ++ beBytes 3 (bindingSeq b) ++ beBytes 1 (strayFlags b) ++ beBytes 1 (1 + bit x)
  | .tray g why b t n first last =>
      beBytes 1 8 ++ beBytes 1 (g + 64 * trayCauseCode why) ++ beBytes 1 b ++ beBytes 2 t ++ beBytes 2 n ++ beBytes 3 first ++
        beBytes 3 last

/-! ### FETCH and REPLY_PLACE (R25, R167) -/

def putDispatcher (d : Dispatcher) (s : State) : State := { s with loop := { s.loop with dispatcher := d } }

/-- FETCH fixes its number of items; with none it is answered at once (R167). -/
def fetchHandler : Handler := fun c s =>
  let n := min s.outcomes.recs.length Config.fetchLimit
  if n = 0 then (s, one .accepted [])
  else (putDispatcher { s.loop.dispatcher with fetch := some { dest := c.src.toNat, tag := c.tag, left := n } } s, [])

/-- The FETCH job after one more record has been placed. -/
def FetchJob.next (j : FetchJob) : Option FetchJob := if 1 < j.left then some { j with left := j.left - 1 } else none

/-- The oldest record leaves the outcome queue as the data of a REPLY (R167, R168). -/
def placeRecord (j : FetchJob) (s : State) : State :=
  match s.outcomes.recs with
  | [] => putDispatcher { s.loop.dispatcher with fetch := none } s
  | r :: rest =>
    let s := { s with
      outcomes := { s.outcomes with recs := rest, fetched := (s.outcomes.fetched + 1) % (Config.counterMax + 1) }
      loop := s.loop.reply (replyCell j.dest j.tag (j.next == none) (.accepted, recordBytes r)) }
    putDispatcher { s.loop.dispatcher with fetch := j.next } s

/-- The next waiting REPLY is placed (R25). -/
def placeWaiting (c : Cell) (rest : List Cell) (s : State) : State :=
  let s := { s with loop := s.loop.reply c }
  putDispatcher { s.loop.dispatcher with waiting := rest } s

/-- REPLY_PLACE: while the reply queue has room the dispatcher places a waiting REPLY, or the next record of a FETCH (R25, R167,
log 2, log 10). -/
def replyPlace (s : State) : State :=
  if s.loop.replies.length < Config.replyCapacity then
    match s.loop.dispatcher.waiting, s.loop.dispatcher.fetch with
    | c :: rest, _ => placeWaiting c rest s
    | [], some j => placeRecord j s
    | [], none => s
  else s

/-! ### CLEAR RUN (R170) -/

/-- The queue of records grew by the PURGED records of stages 2 and 3. -/
def purgedCount (s : State) : Nat := bit s.stage.ready.isSome + bit s.stage.assembly.isSome + s.track.recs.countP fun r => r.content.isSome

/-- Stage 5: the remaining blocks' run-clear values (R48, R70, R114, R162, R170). -/
def clearRest (s : State) : State :=
  let s := feedersRunClear s
  { s with
    acct := AccountQueue.cold
    tables := { s.tables with staged := Staged.none }
    line := { s.line with retry := 0, clean := 0, drainPending := false } }

/-- The run clear, in the stages of R170, and the held flags' effect (R146). -/
def runClear (s : State) : State × Nat :=
  let s := { s with outcomes := { s.outcomes with counters := Vector.replicate 31 0 } }
  let r := presortRunClear (judgeHeld (trackRunClear (stageRunClear s)))
  (clearRest r.1, r.2)

/-- CLEAR RUN (R170). -/
def clearRunHandler : Handler := fun _ s =>
  if stoppedLine s.line.state then
    let r := runClear s
    (r.1, one .accepted (beBytes 2 (purgedCount s) ++ beBytes 1 r.2 ++ beBytes 2 s.acct.queue.length))
  else (s, one .state (beBytes 1 (lineCode s.line.state)))

def execFetch (s : State) : Out State := run true (request 0x43 fetchHandler) s
def execClearRun (s : State) : Out State := run true (request 0x44 clearRunHandler) s
def execReplyPlace (s : State) : Out State := run true replyPlace s

end Sys2Proof.Machine
end

