-- ==== Sys2Proof/Machine/Tables.lean ====
section
/-! DEFINITION. The Table Store's LOAD and COMMIT (03, R35 to R47): load windows, the checksum, the structural checks, and what the
users of a table are told. -/

namespace Sys2Proof.Machine

def putTable (t : TableId) (x : Table) (s : State) : State := { s with tables := s.tables.put t x }

/-! ### Load windows (R45) -/

/-- Some bin is OPEN (R45). -/
def anyBinOpen (s : State) : Bool := s.presort.bins.toList.any fun b => b.state == .opened

/-- The line state and the bins lie within a table's load window (R45). -/
def inWindow (t : TableId) (s : State) : Bool :=
  match t with
  | .lineProfile | .nodeTable | .defectList => s.line.state == .halted
  | .jobTable => stoppedLine s.line.state
  | .scheme | .groupTable | .binTable => stoppedLine s.line.state && !anyBinOpen s

/-! ### LOAD (R36) -/

/-- The Pitch Unit at the line profile's first LOAD (R1); the counter's validity is reported (R5). -/
def profileLeaves (s : State) : State :=
  { s with
    pitch := { s.pitch with counter := 0, counterValid := false, indexPending := false, searchCount := 0 }
    line := { s.line with counterValid := false }
    track := { s.track with recs := [] } }

/-- The node table leaves use: node records and NODE LOST, the jammed and station-loss sets and JAM, the Track Unit's positions and
awaited reports, the feeders (R23, R92, R110, R156). -/
def nodesLeave (s : State) : State :=
  let s := { s with
    loop := { s.loop with nodeRecs := [] }
    line := { s.line with jammed := [], stationLoss := [] }
    track := { s.track with positions := false } }
  feedersOutOfUse (clearAwaited (lower .jam (lower .nodeLost s)))

/-- The job table leaves use: no working values, no staged value, no pair (R36, R47, R121). -/
def jobLeaves (s : State) : State :=
  evalPairs { s with tables := { s.tables with work := none, staged := Staged.none } }

/-- The users of a table are told that it has left use (R46). -/
def leaveUse (t : TableId) (s : State) : State :=
  match t with
  | .lineProfile => profileLeaves s
  | .nodeTable => nodesLeave s
  | .jobTable => jobLeaves s
  | .groupTable => groupsOutOfUse s
  | .defectList | .scheme | .binTable => s

/-- A table as it becomes LOADING: entries zero, counts 0; the last failure stays (R36, R52). -/
def Table.toLoading (x : Table) : Table := { x with state := .loading, entries := [], loadCount := 0, count := 0, checksum := 0 }

/-- The first LOAD of a table in EMPTY, VALID or BAD (R36). -/
def startLoading (t : TableId) (s : State) : State :=
  if (s.tables.get t).state = .loading then s else leaveUse t (putTable t (s.tables.get t).toLoading s)

/-- The staged values a LOAD discards: those of a job table that becomes LOADING (R36, R48). -/
def discarded (t : TableId) (s : State) : Nat :=
  if t = .jobTable ∧ s.tables.job.state ≠ .loading then s.tables.staged.count else 0

/-- A table with one entry written (R36). -/
def Table.write (i : Nat) (e : List Byte) (x : Table) : Table :=
  { x with entries := entWrite x.entries i e, loadCount := satInc 65535 x.loadCount }

/-- LOAD (R36). -/
def loadHandler : Handler := fun c s =>
  let f := loadForm c
  match tableOfNumber f.table with
  | none => (s, one .arg [])
  | some t =>
    if tableSize t ≤ f.index then (s, one .arg [])
    else if !inWindow t s then (s, one .protected_ [])
    else
      let s' := startLoading t s
      let x := (s'.tables.get t).write f.index f.entry
      (putTable t x s', one .accepted (beBytes 1 2 ++ beBytes 2 x.loadCount ++ beBytes 1 (discarded t s)))

/-! ### The checksum (R38) -/

/-- The mask of a table's entry, word by word (R38). -/
def maskOf (t : TableId) (entry : Nat) : List Nat :=
  match t with
  | .lineProfile => [0xFFFF, 0xFFFF, 0xFFFF, 0xFFFF, 0xFFFF, 0xFF00]
  | .nodeTable | .groupTable => [0xFFFF, 0xFFFF, 0xFFFF, 0xFFFF, 0, 0]
  | .jobTable => if entry = 0 then [0xFFFF, 0xFFFF, 0xFFFF, 0xFFFF, 0xFFFF, 0xFF00] else [0xFFFF, 0xFFFF, 0, 0, 0, 0]
  | .defectList => [0xFF00, 0, 0, 0, 0, 0]
  | .scheme => [0xFFFF, 0xFFFF, 0xFFFF, 0xFFFF, 0xFFFF, 0xFFFF]
  | .binTable => [0xFFFF, 0, 0, 0, 0, 0]

/-- The sum of an entry's masked words (R38). -/
def entrySum (mask : List Nat) (e : List Byte) : Nat :=
  ((List.range 6).map fun w => entNum e (2 * w) 2 &&& mask.getD w 0).sum

/-- The checksum of a table's first `n` entries (R38). -/
def checksumOf (t : TableId) (m : List (Nat × List Byte)) (n : Nat) : Nat :=
  ((List.range n).map fun i => entrySum (maskOf t i) (entRead m i)).sum % 65536

/-! ### Structural checks (R39, R41 to R44) -/

/-- A structural check's finding: the failure code and the failing index. -/
abbrev Failure := Nat × Nat

/-- A check of the table as a whole (R39). -/
def wholeCheck (code : Nat) (ok : Bool) : Option Failure := if ok then none else some (code, Config.noIndex)

/-- A check made entry by entry, in index order (R39). -/
def entryCheck {α : Type} (code : Nat) (ok : α → Bool) (l : List α) : Option Failure :=
  (l.findIdx? fun x => !ok x).map fun i => (code, i)

/-- The first entry, in index order, that clashes with an earlier one (R39, log 17). -/
def firstClash {α : Type} (clash : α → α → Bool) : Nat → List α → List α → Option Nat
  | _, _, [] => none
  | i, before, x :: xs => if before.any fun y => clash y x then some i else firstClash clash (i + 1) (x :: before) xs

/-- A check that entries do not clash, reporting the later (R39, R44). -/
def clashCheck {α : Type} (code : Nat) (clash : α → α → Bool) (l : List α) : Option Failure :=
  (firstClash clash 0 [] l).map fun i => (code, i)

/-- The first failure among checks made in order (R39). -/
def firstFailure (l : List (Option Failure)) : Option Failure := l.findSome? id

/-- A number lies from lo to hi. -/
def between (lo hi n : Nat) : Bool := lo ≤ n && n ≤ hi

/-- The line profile's ranges (R41). -/
def profileRanges (p : Profile) : Bool :=
  between 20 120 p.pockets && between 8 64 p.trackLen && p.trackLen ≤ p.pockets && between 64 1024 p.phases &&
    between 1 65534 p.periodLo && between (p.periodLo + 1) 65535 p.periodHi && between 1 600 p.hold && p.retryLimit ≤ 7

/-- A node entry agrees with a line profile (R41). -/
def nodeFits (p : Profile) (n : NodeEntry) : Bool :=
  (n.role != some .sorter || n.position + 1 == p.trackLen) && n.windowClose ≤ p.phases - 1

/-- A line profile agrees with a VALID node table and a VALID defect list (R41). -/
def profileFits (s : State) (p : Profile) : Bool :=
  (nodesOf s).all (nodeFits p) && (defectPockets s).all fun d => d < p.pockets

def checkProfile (es : List (List Byte)) (s : State) : Option Failure :=
  firstFailure
    [wholeCheck 2 (es.length == 1), entryCheck 3 profileRanges (es.map profileOfEntry),
      wholeCheck 7 (profileFits s (profileOfEntry (es.headD zeroEntry)))]

/-- Roles with a window (R24, R42). -/
def windowed : Role → Bool
  | .insertFeeder | .envStation | .caliper | .divertGate | .sorter => true
  | .sheetStation | .envReader | .closer | .lineComputer | .panel => false

/-- Roles whose position must be 0 (R42). -/
def unplaced : Role → Bool
  | .sheetStation | .closer | .lineComputer | .panel => true
  | .insertFeeder | .envReader | .envStation | .caliper | .divertGate | .sorter => false

/-- A node entry's ranges (R42). -/
def nodeRanges (n : NodeEntry) : Bool :=
  between 1 63 n.addr &&
  (match n.role with
   | none => false
   | some r =>
      (if r = .insertFeeder then between 1 12 n.feeder else n.feeder == 0) &&
      (if windowed r then n.windowClose ≤ 1023 && n.windowOpen < n.windowClose else n.windowOpen == 0 && n.windowClose == 0) &&
      (!unplaced r || n.position == 0))

/-- Two node entries share an address, or as feeders a number or a position (R42). -/
def nodesClash (a b : NodeEntry) : Bool :=
  a.addr == b.addr ||
    (a.role == some .insertFeeder && b.role == some .insertFeeder && (a.feeder == b.feeder || a.position == b.position))

/-- The role counts of a complete line (R24, R42). -/
def roleCounts (ns : List NodeEntry) : Bool :=
  let count := fun r => ns.countP fun n => n.role == some r
  [Role.sheetStation, .envReader, .envStation, .caliper, .divertGate, .sorter].all (fun r => count r == 1) &&
    count .closer ≤ 1 && between 1 2 (count .lineComputer) && count .panel ≤ 2

/-- The position order of a line (R42). -/
def positionOrder (ns : List NodeEntry) : Bool :=
  let pos := fun r => ((ns.find? fun n => n.role == some r).map (·.position)).getD 0
  let e := pos .envStation
  let feeders := (ns.filter fun n => n.role == some .insertFeeder).map (·.position)
  pos .envReader + 1 == e && 1 ≤ pos .envReader && feeders.all (fun p => 0 < p && p + 1 < e) &&
    e < pos .caliper && pos .caliper < pos .divertGate && pos .divertGate < pos .sorter

def checkNodes (es : List (List Byte)) (s : State) : Option Failure :=
  let ns := es.map nodeOfEntry
  firstFailure
    [wholeCheck 2 (1 ≤ ns.length), entryCheck 3 nodeRanges ns, clashCheck 4 nodesClash ns, wholeCheck 5 (roleCounts ns),
      wholeCheck 6 (positionOrder ns),
      (match profileOf s with
       | some p => entryCheck 7 (nodeFits p) ns
       | none => none)]

/-- The ranges of the job table's entry 0 (R43). -/
def jobRanges (e : List Byte) : Bool :=
  entNum e 0 2 ≤ 2000 && between 1 100 (entNum e 2 2) && between 1 1000 (entNum e 4 2) && between 1 7 (entByte e 7) &&
    between 1 24 (entByte e 8) && between 4 1000 (entNum e 9 2)

/-- The ranges of a feeder's job entry (R43). -/
def feederRanges (e : List Byte) : Bool := entNum e 0 2 ≤ 1000 && entByte e 2 ≤ 12 && entByte e 3 ≤ 6

/-- Each entry of a list with its index. -/
def indexed {α : Type} (l : List α) : List (Nat × α) := (List.range l.length).zip l

/-- Entry k's alternate names neither itself nor a feeder whose alternate is a third (R43). -/
def alternateOk (es : List (List Byte)) (p : Nat × List Byte) : Bool :=
  let k := p.1
  let a := entByte p.2 2
  let back := entByte (es.getD a zeroEntry) 2
  k == 0 || a == 0 || (a != k && (back == 0 || back == k))

def checkJob (es : List (List Byte)) : Option Failure :=
  firstFailure
    [wholeCheck 2 (1 ≤ es.length),
      entryCheck 3 (fun p => if p.1 = 0 then jobRanges p.2 else feederRanges p.2) (indexed es),
      entryCheck 8 (alternateOk es) (indexed es)]

def checkDefects (es : List (List Byte)) (s : State) : Option Failure :=
  let ds := es.map fun e => entByte e 0
  firstFailure
    [clashCheck 4 (fun a b => a == b) ds,
      (match profileOf s with
       | some p => entryCheck 7 (fun d => d < p.pockets) ds
       | none => none)]

/-- A scheme entry's ranges (R44). -/
def schemeRanges (e : SchemeEntry) : Bool :=
  [3, 5, 9, 11].contains e.digits && e.group ≤ 63 && e.low < 10 ^ e.digits && e.high < 10 ^ e.digits && e.low ≤ e.high

/-- Two scheme entries of one digit length share a number (R44). -/
def schemeClash (a b : SchemeEntry) : Bool := a.digits == b.digits && a.low ≤ b.high && b.low ≤ a.high

def checkScheme (es : List (List Byte)) : Option Failure :=
  let l := es.map schemeOfEntry
  firstFailure [entryCheck 3 schemeRanges l, clashCheck 9 schemeClash l]

/-- A group entry's ranges (R44). -/
def groupRanges (g : GroupEntry) : Bool :=
  g.length ≤ 5 && g.bins.all (between 1 16) && between 1 2 g.mode && between 1 2 g.action

/-- The first group entry in which a bin appears a second time (R44). -/
def binTwice : Nat → List Nat → List GroupEntry → Option Nat
  | _, _, [] => none
  | i, seen, g :: gs =>
    if !g.bins.Nodup || g.bins.any fun b => seen.contains b then some i else binTwice (i + 1) (seen ++ g.bins) gs

def checkGroups (es : List (List Byte)) : Option Failure :=
  let l := es.map groupOfEntry
  firstFailure [entryCheck 3 groupRanges l, (binTwice 0 [] l).map fun i => (4, i)]

def checkBins (es : List (List Byte)) : Option Failure :=
  firstFailure
    [wholeCheck 2 (es.length == 17), entryCheck 3 (fun p => p.1 == 0 || between 1 999 (entNum p.2 0 2)) (indexed es)]

/-- The structural checks of a table over the entries under commit (R41 to R44). -/
def structural (t : TableId) (es : List (List Byte)) (s : State) : Option Failure :=
  match t with
  | .lineProfile => checkProfile es s
  | .nodeTable => checkNodes es s
  | .jobTable => checkJob es
  | .defectList => checkDefects es s
  | .scheme => checkScheme es
  | .groupTable => checkGroups es
  | .binTable => checkBins es

/-- The committing source is a LINE COMPUTER of the entries under commit (R39). -/
def selfKept (src : Nat) (es : List (List Byte)) : Bool :=
  (es.map nodeOfEntry).any fun n => n.addr == src && n.role == some .lineComputer

/-! ### Coming into use (R46) -/

/-- The track's records are made (R92). -/
def profileComes (s : State) : State :=
  putTrack (freshTrack (((profileOf s).map (·.trackLen)).getD 0)) s

/-- A node record as it begins (R23). -/
def NodeRec.fresh : NodeRec := { absent := 0, lost := false, status := none }

/-- The node table comes into use: node records afresh, the last manager forgotten, the feeders present (R23, R30, R110). -/
def nodesCome (s : State) : State :=
  feedersIntoUse { s with
    loop := { s.loop with nodeRecs := List.replicate s.tables.node.count NodeRec.fresh, lastManager := none } }

/-- The feeders' job values of the committed entries (R43). -/
def jobFeeders (es : List (List Byte)) : Vector FeederJob 12 :=
  Vector.ofFn fun i =>
    match es[i.val + 1]? with
    | some e => feederJobOfEntry e
    | none => { caliper := 0, alternate := 0, pair := 0 }

/-- The tables with working values made afresh, and the settling counter and last applied fold as R51 states. -/
def jobTables (w : Working) (t : TableStore) : TableStore :=
  { t with
    work := some w, lastFold := some (w.fold, w.envClass)
    settling := if t.lastFold.any (· != (w.fold, w.envClass)) then 2 else t.settling }

/-- The job table comes into use (R47, R51, R121). -/
def jobComes (es : List (List Byte)) (s : State) : State :=
  evalPairs { s with tables := jobTables (workingOfEntries (es.headD zeroEntry) (jobFeeders es)) s.tables }

/-- The users of a table are told of its new contents (R46). -/
def comeIntoUse (t : TableId) (es : List (List Byte)) (s : State) : State :=
  match t with
  | .lineProfile => profileComes s
  | .nodeTable => nodesCome s
  | .jobTable => jobComes es s
  | .groupTable => groupsIntoUse es s
  | .defectList | .scheme | .binTable => s

/-! ### COMMIT (R37 to R40) -/

/-- The reply to a judged COMMIT (R39). -/
def commitReply (code : ResultCode) (st : TableState) (failure sum index : Nat) : List Item :=
  one code (beBytes 1 (tableStateCode st) ++ beBytes 1 failure ++ beBytes 2 sum ++ beBytes 2 index)

/-- TABLE BAD is lowered when no table is BAD (R40). -/
def evalTableBad (s : State) : State :=
  if allTables.any fun t => (s.tables.get t).state == .bad then s else lower .tableBad s

/-- A commit leaves its table BAD (R39, R40). -/
def commitBad (t : TableId) (sum : Nat) (f : Failure) (s : State) : State × List Item :=
  let s' := putTable t { s.tables.get t with state := .bad, failCode := f.1, failIndex := f.2 } s
  (raise .tableBad 5 (tableNumber t) s', commitReply .accepted .bad f.1 sum f.2)

/-- A table as a commit makes it VALID (R39). -/
def Table.committed (count sum : Nat) (x : Table) : Table :=
  { x with state := .valid, count := count, checksum := sum, failCode := 0, failIndex := Config.noIndex }

/-- A commit makes its table VALID (R39, R40, R46). -/
def commitValid (t : TableId) (count sum : Nat) (es : List (List Byte)) (s : State) : State × List Item :=
  let s' := putTable t ((s.tables.get t).committed count sum) s
  (evalTableBad (comeIntoUse t es s'), commitReply .accepted .valid 0 sum Config.noIndex)

/-- The self-lockout check refuses a node table (R39). -/
def commitLocked (t : TableId) (sum : Nat) (s : State) : State × List Item :=
  (putTable t { s.tables.get t with failCode := 10, failIndex := Config.noIndex } s,
    commitReply .protected_ .loading 10 sum Config.noIndex)

/-- A LOADING table is judged (R38, R39). -/
def judgeCommit (t : TableId) (src count expected : Nat) (s : State) : State × List Item :=
  let m := (s.tables.get t).entries
  let sum := checksumOf t m count
  let es := firstEntries (s.tables.get t) count
  if sum ≠ expected then commitBad t sum (1, Config.noIndex) s
  else if t = .nodeTable ∧ selfKept src es = false then commitLocked t sum s
  else
    match structural t es s with
    | some f => commitBad t sum f s
    | none => commitValid t count sum es s

/-- COMMIT (R37). -/
def commitHandler : Handler := fun c s =>
  let f := commitForm c
  match tableOfNumber f.table with
  | none => (s, one .arg [])
  | some t =>
    let st := (s.tables.get t).state
    if tableSize t < f.count then (s, one .arg [])
    else if !inWindow t s then (s, one .protected_ (beBytes 1 (tableStateCode st)))
    else if st ≠ .loading then (s, one .state (beBytes 1 (tableStateCode st)))
    else judgeCommit t c.src.toNat f.count f.checksum s

def execLoad (s : State) : Out State := run true (request 0x30 loadHandler) s
def execCommit (s : State) : Out State := run true (request 0x31 commitHandler) s

end Sys2Proof.Machine
end

