-- ==== Sys2Proof/Machine/Resets.lean ====
section
/-! DEFINITION. The cold reset and its end, DEVICE RESET and its effect (R15, R16, R21, R33, R34, R53, R70, R90, R109, R127, R144,
R162, R171). -/

namespace Sys2Proof.Machine

/-- The first roll is due 10 ms after a reset ends (R21). -/
def startRollTimer (s : State) : State := putLoop { s.loop with rollTimer := some 0 } s

/-- COLD_RESET: RESET_N falls, or power comes up; every block takes its cold-reset values and is held there (R34, log 4). -/
def execColdReset (s : State) : Out State := .next (State.cold { s.pins with resetN := false } s.draws s.pending)

/-- The end of a cold reset: ESTOP_N is read and the roll timer starts (R15, R21). -/
def coldResetEnd (s : State) : State :=
  readEstop (startRollTimer { s with pins := { s.pins with resetN := true } })

/-- COLD_RESET_END; a level already high does not rise (log 2). -/
def execColdResetEnd (s : State) : Out State := .next (if s.pins.resetN then s else coldResetEnd s)

/-- DEVICE RESET is accepted with the drive off; from then on the dispatcher takes no request (R33). -/
def deviceResetHandler : Handler := fun _ s =>
  if s.pitch.driveEn then (s, one .state [])
  else (putDispatcher { s.loop.dispatcher with reset := .accepted } s, one .accepted [])

def execDeviceReset (s : State) : Out State := run true (request 0x45 deviceResetHandler) s

/-- The tables after a device reset: the line profile and the node table as they stand, the rest as at a cold reset (R53). -/
def TableStore.kept (t : TableStore) : TableStore := { TableStore.cold with profile := t.profile, node := t.node }

/-- The state at the device-reset values, before ESTOP_N is read: what follows from the kept tables is made afresh (R16, R34, R53,
R109, R127). -/
def deviceValues (s : State) : State :=
  let s := { State.cold s.pins s.draws s.pending with tables := s.tables.kept }
  let s := match profileOf s with
    | some p => putTrack (freshTrack p.trackLen) s
    | none => s
  { s with
    loop := { s.loop with nodeRecs := List.replicate (nodesOf s).length NodeRec.fresh }
    track := { s.track with positions := s.tables.node.state == .valid }
    feeders := { s.feeders with recs := presentFeeders s } }

/-- The accepted DEVICE RESET takes effect (R33). -/
def deviceReset (s : State) : State := readEstop (startRollTimer (deviceValues s))

/-- DEVICE_RESET_EFFECT, once the REPLY that accepted it has been sent (R33, log 2). -/
def execDeviceResetEffect (s : State) : Out State :=
  run true (fun s => if s.loop.dispatcher.reset = .sent then deviceReset s else s) s

end Sys2Proof.Machine
end

