-- ==== Sys2Proof/Machine/Dispatch.lean ====
section
/-! DEFINITION. The dispatch: one arm for each command. -/

namespace Sys2Proof.Machine

def exec (i : Instr) (s : State) : Host.Outcome State Fault Refusal :=
  match i with
  | .coldReset => Sys2Proof.Machine.execColdReset s
  | .pitchMark elapsed order => Sys2Proof.Machine.execPitchMark elapsed order s
  | .index => Sys2Proof.Machine.execIndex s
  | .encoderStep a b => Sys2Proof.Machine.execEncoderStep a b s
  | .estopAssert => Sys2Proof.Machine.execEstopAssert s
  | .estopRise => Sys2Proof.Machine.execEstopRise s
  | .estopReleaseTimerExpiry => Sys2Proof.Machine.execEstopReleaseTimerExpiry s
  | .meterStallEntry => Sys2Proof.Machine.execMeterStallEntry s
  | .indexSearchExpiry => Sys2Proof.Machine.execIndexSearchExpiry s
  | .setDeadlineExpiry => Sys2Proof.Machine.execSetDeadlineExpiry s
  | .cleanPitchCountExpiry => Sys2Proof.Machine.execCleanPitchCountExpiry s
  | .recoveryHoldExpiry => Sys2Proof.Machine.execRecoveryHoldExpiry s
  | .rollTimerExpiry => Sys2Proof.Machine.execRollTimerExpiry s
  | .crcErrorDiscard c crc => Sys2Proof.Machine.execCrcErrorDiscard c crc s
  | .forwardedCell c => Sys2Proof.Machine.execForwardedCell c s
  | .rollReturn serial mask => Sys2Proof.Machine.execRollReturn serial mask s
  | .unknownKindCell src kind => Sys2Proof.Machine.execUnknownKindCell src kind s
  | .sheet src seq page total word quality double => Sys2Proof.Machine.execSheet src seq page total word quality double s
  | .done src pocket subtype result thickness bin => Sys2Proof.Machine.execDone src pocket subtype result thickness bin s
  | .envread src pocket key noRead => Sys2Proof.Machine.execEnvread src pocket key noRead s
  | .status src st detail => Sys2Proof.Machine.execStatus src st detail s
  | .binEmptied src bin => Sys2Proof.Machine.execBinEmptied src bin s
  | .binOffline src bin => Sys2Proof.Machine.execBinOffline src bin s
  | .binOnline src bin => Sys2Proof.Machine.execBinOnline src bin s
  | .managementCellArrival c => Sys2Proof.Machine.execManagementCellArrival c s
  | .load => Sys2Proof.Machine.execLoad s
  | .commit => Sys2Proof.Machine.execCommit s
  | .read => Sys2Proof.Machine.execRead s
  | .acctA => Sys2Proof.Machine.execAcctA s
  | .acctB => Sys2Proof.Machine.execAcctB s
  | .pullAdd => Sys2Proof.Machine.execPullAdd s
  | .pullRemove => Sys2Proof.Machine.execPullRemove s
  | .recallRequest => Sys2Proof.Machine.execRecall s
  | .stage => Sys2Proof.Machine.execStage s
  | .hold => Sys2Proof.Machine.execHold s
  | .holdRelease => Sys2Proof.Machine.execHoldRelease s
  | .start => Sys2Proof.Machine.execStart s
  | .stop => Sys2Proof.Machine.execStop s
  | .cut => Sys2Proof.Machine.execCut s
  | .feederEnable => Sys2Proof.Machine.execFeederEnable s
  | .feederDisable => Sys2Proof.Machine.execFeederDisable s
  | .closeGroup => Sys2Proof.Machine.execCloseGroup s
  | .restartGroup => Sys2Proof.Machine.execRestartGroup s
  | .clearFault => Sys2Proof.Machine.execClearFault s
  | .fetch => Sys2Proof.Machine.execFetch s
  | .clearRun => Sys2Proof.Machine.execClearRun s
  | .deviceReset => Sys2Proof.Machine.execDeviceReset s
  | .noticeMask => Sys2Proof.Machine.execNoticeMask s
  | .replyPlace => Sys2Proof.Machine.execReplyPlace s
  | .cellSent => Sys2Proof.Machine.execCellSent s
  | .deviceResetEffect => Sys2Proof.Machine.execDeviceResetEffect s
  | .coldResetEnd => Sys2Proof.Machine.execColdResetEnd s
  | .unknownBinReport src code bin => Sys2Proof.Machine.execUnknownBinReport src code bin s

end Sys2Proof.Machine
end

