-- ==== Sys2Proof/Machine/Step.lean ====
section
/-! DEFINITION. One step: the command at the front of the queue, or one idle unit of time. -/

namespace Sys2Proof.Machine

/-- Take the command at the front of the queue and run it on the state with the queue's rest; on an empty queue 10 us pass
(log 5). -/
def step (s : State) : Host.Outcome State Fault Refusal :=
  match s.pending with
  | c :: rest => exec c { s with pending := rest }
  | [] => .next (if s.pins.resetN then elapse 1 s else s)

/-- The state with the command a word spells at the front of its queue; no word spells one (no row of the table gives bits). -/
def State.withFetchWord (s : State) (nbits w : Nat) : State :=
  match Sys2Proof.decodeTableWord nbits w with
  | some c => { s with pending := c :: s.pending }
  | none => s

end Sys2Proof.Machine
end

