-- ==== Sys2Proof/Safety.lean ====
section
/-! DEFINITION. The invariants of the part: what holds after reset and is kept by every step. -/

namespace Sys2Proof.Machine

/-- The drive outputs that R13 asks for, from the line state and ESTOP_N as taken. -/
def driveOk (en crawl estop : Bool) (line : LineState) : Prop :=
  en = (driveState line && !estop) ∧ crawl = (driveState line && !estop && line == .priming)

/-- DRIVE_EN and DRIVE_CRAWL stand as R13 states. -/
abbrev DriveFollowsLine (s : State) : Prop :=
  driveOk s.pitch.driveEn s.pitch.driveCrawl s.pitch.estopAsserted s.line.state

/-- Every table's entries are in canonical form (R36). -/
def TablesCanonical (s : State) : Prop := ∀ t : TableId, Memory.wf (s.tables.get t).entries

/-- The queues of the Loop Interface hold no more than their capacities (R18, R20, R25, R31). -/
structure LoopIf.Bounded (l : LoopIf) : Prop where
  forward : l.forward.length ≤ Config.forwardCapacity
  mgmtIn : l.mgmtIn.length ≤ Config.mgmtCapacity
  orders : l.orders.length ≤ Config.orderCapacity
  replies : l.replies.length ≤ Config.replyCapacity
  notices : l.notices.length ≤ Config.noticeCapacity
  dropped : l.dropped ≤ 255

/-- The queues of the Loop Interface are within their capacities. -/
abbrev LoopBounded (s : State) : Prop := s.loop.Bounded

/-- The account queue is a rising run between the run base and the tail, of at most 256 records, and a waiting half A carries the tail
sequence plus 1 (R55, R57). -/
structure Accounts (queue : List Account) (halfA : Option HalfA) (tail base : Option Nat) : Prop where
  rising : queue.Pairwise fun a b => a.seq < b.seq
  bounded : queue.length ≤ Config.accountCapacity
  between : ∀ r ∈ queue, (∃ b, base = some b ∧ b ≤ r.seq) ∧ ∃ t, tail = some t ∧ r.seq ≤ t
  together : tail.isSome = base.isSome
  ordered : ∀ b t, base = some b → tail = some t → b ≤ t
  next : ∀ h t, halfA = some h → tail = some t → h.seq = t + 1

/-- The account queue's invariant (R57). -/
abbrev AccountsOrdered (s : State) : Prop := Accounts s.acct.queue s.acct.halfA s.acct.tail s.acct.base

/-- The pull list: ascending key, no two of one key, at most 320 entries (R66). -/
def pullOk (l : List PullEntry) : Prop := l.Pairwise (fun a b => a.key < b.key) ∧ l.length ≤ Config.pullCapacity

abbrev PullListOrdered (s : State) : Prop := pullOk s.tables.pull

/-- A latch's numbers (R153): the occurrence is 0 before the first raising and 1 to 255 after it; an ACTIVE or LATCHED latch has
been raised. -/
def Latch.ok (l : Latch) : Prop :=
  l.occurrence ≤ 255 ∧ l.raisings ≤ 65535 ∧ (l.occurrence = 0 ↔ l.raisings = 0) ∧ (l.state ≠ .idle → l.occurrence ≠ 0)

/-- Every latch's numbers are in range (R153). -/
abbrev LatchesInRange (s : State) : Prop := ∀ k : LatchKind, Latch.ok (vget s.line.latches (latchIdx k))

/-! ### Words the statements use -/

/-- The dispatcher is about to take the request c of a kind, and admits its source: RESET_N is high, the dispatcher is idle, c is the
oldest cell in the input queue (R25, R26). -/
structure Takes (kind : Nat) (c : Cell) (s : State) : Prop where
  running : s.pins.resetN = true
  oldest : s.loop.mgmtIn.head? = some c
  kindIs : kindCode c.kind = kind
  idle : s.loop.dispatcher = Dispatcher.idle
  admitted : admitted c s = true

/-- The state an admitted request finds: its cell has left the input queue, and its source is the last manager while the node table
is not VALID (R25, R26). -/
def handed (c : Cell) (s : State) : State :=
  { s with loop := { s.loop with
      mgmtIn := s.loop.mgmtIn.tail
      lastManager := if s.tables.node.state = .valid then s.loop.lastManager else some c.src.toNat } }

/-- The state after a request has been answered with one REPLY: result code and data (R27). -/
def replied (c : Cell) (code : ResultCode) (data : List Byte) (s : State) : State := answer c (one code data) s

/-- The commands that are a request of the dispatcher, with their kind codes (02, "Kind codes"). -/
def requestRows : List (Nat × Instr) :=
  [(0x30, .load), (0x31, .commit), (0x32, .read), (0x33, .acctA), (0x34, .acctB), (0x35, .pullAdd), (0x36, .pullRemove),
    (0x37, .recallRequest), (0x38, .stage), (0x39, .hold), (0x3A, .holdRelease), (0x3B, .start), (0x3C, .stop), (0x3D, .cut),
    (0x3E, .feederEnable), (0x3F, .feederDisable), (0x40, .closeGroup), (0x41, .restartGroup), (0x42, .clearFault),
    (0x43, .fetch), (0x44, .clearRun), (0x45, .deviceReset), (0x46, .noticeMask)]

/-- The station report of a kind from src reaches its owner: RESET_N is high, src is not 0, and the VALID node table accepts the report
from the entry n, of role r (R19). -/
structure Reports (kind : Nat) (src : Byte) (n : NodeEntry) (r : Role) (s : State) : Prop where
  running : s.pins.resetN = true
  address : src ≠ 0
  accepted : acceptReport kind src s = some (n, r)

end Sys2Proof.Machine
end

