-- ==== Sys2Proof/Certificates/Slice0/Obligations.lean ====
section
/-! DEFINITION. The statements for the provers: what the block, its commands and its state do. -/

open Sys2Proof Sys2Proof.Machine

/-! ### The queue of commands, and every command -/

/-- With a command at the front of the queue, a step is that command's effect on the state with the queue's rest. -/
def Obligations.StepRunsFront : Prop :=
  ∀ (c : Instr) (rest : List Instr) (s : State), s.pending = c :: rest → step s = exec c { s with pending := rest }

/-- On an empty queue 10 us pass while RESET_N is high: the four timers that run advance, each up to its end, and nothing else
changes; while RESET_N is low nothing changes (the model's choice, log 5). -/
def Obligations.EmptyQueueLetsTimePass : Prop :=
  ∀ s : State, s.pending = [] →
    (s.pins.resetN = false → step s = .next s) ∧
    (s.pins.resetN = true → step s = .next { s with
      pitch := { s.pitch with
        openPeriod := s.pitch.openPeriod.map fun t => min 65535 (t + 1)
        releaseTimer := s.pitch.releaseTimer.map fun t => min 2000 (t + 1) }
      loop := { s.loop with rollTimer := s.loop.rollTimer.map fun t => min 1000 (t + 1) }
      line := { s.line with holdLeft := s.line.holdLeft - 1 } })

/-- Every command has a next state, in which the queue is as it was: none is refused and none faults. A command whose operands are
no event of its row (a cell of another length, a check word that is right, a kind another row takes) changes nothing (the model's
choice, log 3). While RESET_N is low the part is held: a command other than the reset's own, the encoder's levels and ESTOP_N's
levels changes nothing (the model's reading of R34, log 4). -/
def Obligations.EveryCommandCompletes : Prop :=
  (∀ (c : Instr) (s : State), ∃ t, exec c s = .next t ∧ t.pending = s.pending ∧ (c.wf = false → t = s)) ∧
  (∀ (c : Instr) (s : State), s.pins.resetN = false →
      c ≠ .coldReset → c ≠ .coldResetEnd → (∀ a b, c ≠ .encoderStep a b) → c ≠ .estopAssert → c ≠ .estopRise →
      exec c s = .next s)

/-! ### Invariants that every step keeps -/

/-- DRIVE_EN and DRIVE_CRAWL stand as R13 states, in every state a step leads to from one where they do. -/
def Obligations.DriveFollowsLineKept : Prop :=
  ∀ s t : State, DriveFollowsLine s → step s = .next t → DriveFollowsLine t

/-- The tables' entries stay in the model's canonical form: indexes strictly rising, no all-zero entry listed. The form is the
model's own representation (log 21); R36 gives only what an entry reads as. -/
def Obligations.TablesStayCanonical : Prop :=
  ∀ s t : State, TablesCanonical s → step s = .next t → TablesCanonical t

/-- The loop's queues never hold more than the capacities of R18, R20, R25 and R31. -/
def Obligations.LoopQueuesStayBounded : Prop :=
  ∀ s t : State, LoopBounded s → step s = .next t → LoopBounded t

/-- The account queue stays a strictly rising run of at most 256 records between the run base and the tail (R57). -/
def Obligations.AccountQueueStaysOrdered : Prop :=
  ∀ s t : State, AccountsOrdered s → step s = .next t → AccountsOrdered t

/-- The pull list stays in strictly ascending order of key, with at most 320 entries (R66). -/
def Obligations.PullListStaysOrdered : Prop :=
  ∀ s t : State, PullListOrdered s → step s = .next t → PullListOrdered t

/-- Every latch's occurrence and raisings stay in the ranges of R153, and an ACTIVE or LATCHED latch has been raised. -/
def Obligations.LatchesStayInRange : Prop :=
  ∀ s t : State, LatchesInRange s → step s = .next t → LatchesInRange t

/-- The machine after reset satisfies the six invariants (the canonical form of the tables is the model's representation, log 21).
-/
def Obligations.ResetMeetsInvariants : Prop :=
  DriveFollowsLine State.reset ∧ TablesCanonical State.reset ∧ LoopBounded State.reset ∧ AccountsOrdered State.reset ∧
  PullListOrdered State.reset ∧ LatchesInRange State.reset

/-! ### Cells -/

/-- The twenty bytes of a cell give back the cell and its check word (R17, "Cell"). -/
def Obligations.CellBytesGiveBackTheCell : Prop :=
  ∀ c : Cell, c.wf = true → cellOfBytes (cellBytes c) = some (c, cellCrc c)

/-! ### Reset -/

/-- A cold reset gives every block the values its chapter states (R16, R34, R53, R70, R90, R109, R127, R144, R162, R171) and holds
the part there; only the levels of the other pins, the count of free values drawn and the queue of commands stay. At its end
ESTOP_N is read as it stands (R15) and the 10 ms roll timer starts (R21). With ESTOP_N high nothing else changes; with ESTOP_N low
and the cold values it is taken as asserted and ESTOP is ACTIVE with occurrence 1. A RESET_N already high does not rise (the
model's choice, log 2). State.reset is the state after such an end with ESTOP_N high (log 1). In the values of State.cold the
failing index of a table, and the mode and action of a group with no bins, are the model's (log 20). -/
def Obligations.ColdResetAndItsEnd : Prop :=
  (∀ s : State, ∃ t, exec .coldReset s = .next t ∧
      t.pins = { s.pins with resetN := false } ∧ t.draws = s.draws ∧ t.pending = s.pending ∧
      (t.pitch.counter = 0 ∧ t.pitch.counterValid = false ∧ t.pitch.indexPending = false ∧ t.pitch.searchCount = 0 ∧
        t.pitch.phase = 0 ∧ t.pitch.lastSpan = 0 ∧ t.pitch.meter = [] ∧ t.pitch.openPeriod = none ∧
        t.pitch.releaseTimer = none ∧ t.pitch.driveEn = false ∧ t.pitch.driveCrawl = false ∧ t.pitch.unexpectedUp = false ∧
        t.pitch.driveRateUp = false) ∧
      (t.loop.counters = Vector.replicate 9 0 ∧ t.loop.forward = [] ∧ t.loop.mgmtIn = [] ∧ t.loop.orders = [] ∧
        t.loop.replies = [] ∧ t.loop.notices = [] ∧ t.loop.rollSlot = none ∧ t.loop.wire = none ∧ t.loop.rollSerial = 0 ∧
        t.loop.returned = false ∧ t.loop.misses = 0 ∧ t.loop.ringBreakUp = false ∧ t.loop.lastMask = 0 ∧ t.loop.nodeRecs = [] ∧
        t.loop.lastManager = none ∧ t.loop.noticeMask = Vector.replicate 5 true ∧ t.loop.dropped = 0) ∧
      ((∀ i, (t.tables.get i).state = .empty ∧ (∀ j, entRead (t.tables.get i).entries j = zeroEntry) ∧
          (t.tables.get i).loadCount = 0 ∧ (t.tables.get i).count = 0 ∧ (t.tables.get i).checksum = 0 ∧
          (t.tables.get i).failCode = 0) ∧
        t.tables.work = none ∧ t.tables.lastFold = none ∧ t.tables.staged = Staged.none ∧ t.tables.hold = false ∧
        t.tables.settling = 0 ∧ t.tables.pull = []) ∧
      (t.acct.queue = [] ∧ t.acct.halfA = none ∧ t.acct.tail = none ∧ t.acct.base = none ∧ t.acct.holdReason = none) ∧
      (t.stage.assembly = none ∧ t.stage.ready = none ∧ t.stage.vacancy = none ∧ t.stage.releaseAwaited = none ∧
        t.stage.releaseMiss = 0) ∧
      (t.track.recs = [] ∧ t.track.positions = false ∧ t.track.envCount = 0 ∧
        t.track.calCount = 0 ∧ t.track.gateCount = 0 ∧ t.track.sortCount = 0) ∧
      ((∀ k, k < 12 → vget t.feeders.recs k = { state := .none, misses := 0, timing := 0 }) ∧
        ∀ n, n < 6 → vget t.feeders.pairs n = .none) ∧
      ((∀ g, g < 64 → (vget t.presort.groups g).rotation = [] ∧ (vget t.presort.groups g).index = 0 ∧
          (vget t.presort.groups g).state = .unused ∧ (vget t.presort.groups g).tray = 1) ∧
        (∀ b, b < 16 → vget t.presort.bins b = { state := .ready, count := 0, tray := 0, firstSeq := 0, lastSeq := 0 }) ∧
        t.presort.overflow = 0 ∧ t.presort.reportedFull = false) ∧
      (t.line.state = .halted ∧ t.line.prev = .halted ∧ t.line.lastCause = 0 ∧ t.line.drainPending = false ∧ t.line.retry = 0 ∧
        t.line.clean = 0 ∧ t.line.phase = .none ∧ t.line.holdLeft = 0 ∧ t.line.counterValid = false ∧
        t.line.meterValid = false ∧ t.line.jammed = [] ∧ t.line.stationLoss = [] ∧
        ∀ k, latch k t = { state := .idle, occurrence := 0, sort := 0, number := 0, raisings := 0 }) ∧
      (t.outcomes.recs = [] ∧ t.outcomes.counters = Vector.replicate 31 0 ∧ t.outcomes.fetched = 0)) ∧
  (∀ s : State, s.pins.resetN = true → exec .coldResetEnd s = .next s) ∧
  (∀ s : State, s.pins.resetN = false → s.pins.estopN = true →
    exec .coldResetEnd s = .next { s with
      pins := { s.pins with resetN := true }, loop := { s.loop with rollTimer := some 0 } }) ∧
  (∀ (p : Pins) (d : Nat) (q : List Instr), p.resetN = false → p.estopN = false →
    ∃ t, exec .coldResetEnd (State.cold p d q) = .next t ∧ t.pins = { p with resetN := true } ∧
      t.pitch = { PitchUnit.cold with estopAsserted := true } ∧ t.line.state = .halted ∧ t.loop.rollTimer = some 0 ∧
      latch .estop t = { state := .active, occurrence := 1, sort := 0, number := 0, raisings := 1 } ∧
      (∀ k, k ≠ .estop → latch k t = Latch.idle) ∧ t.tables = TableStore.cold ∧ t.acct = AccountQueue.cold ∧
      t.stage = Stage.cold ∧ t.track = TrackUnit.cold ∧ t.feeders = FeederMgr.cold ∧ t.presort = Presort.cold ∧
      t.outcomes = Outcomes.cold ∧ t.draws = d ∧ t.pending = q) ∧
  exec .coldResetEnd (State.cold { resetN := false, estopN := true, phaseA := false, phaseB := false } 0 []) = .next State.reset

/-! ### The Pitch Unit -/

/-- Taking an index sets the index-pending flag, whether or not it is set already, and nothing else (R5). A forward step (PHASE_A
leading PHASE_B) adds 1 to the phase up to its limit, a reverse step takes 1 away down to 0, a change of both levels moves it by
no step; the new levels are the decoder's reference (R2, R8). The phase counted from is the one handed out, never above the limit
(R9; the clamp is the model's, log 19). -/
def Obligations.IndexAndEncoderCommands : Prop :=
  (∀ s : State, s.pins.resetN = true →
      exec .index s = .next { s with pitch := { s.pitch with indexPending := true } }) ∧
  (∀ (a b : Bool) (s : State), s.pins.resetN = true →
      let limit := match profileOf s with | some p => p.phases - 1 | none => 1023
      let now := min s.pitch.phase limit
      let change := (s.pins.phaseA, s.pins.phaseB, a, b)
      let forward := change ∈ [(false, false, true, false), (true, false, true, true), (true, true, false, true),
        (false, true, false, false)]
      let reverse := change ∈ [(true, false, false, false), (true, true, true, false), (false, true, true, true),
        (false, false, false, true)]
      ∃ n, exec (.encoderStep a b) s = .next { s with
          pins := { s.pins with phaseA := a, phaseB := b }, pitch := { s.pitch with phase := n } } ∧
        (forward → n = if now < limit then now + 1 else limit) ∧ (reverse → n = now - 1) ∧ (¬forward → ¬reverse → n = now))

/-- A pitch mark: the Pitch Unit's own state, then its conditions, then the notice, handed to the Track Unit, the Collation Unit,
the Account Queue, the Line Controller and the Loop Interface, each once, in the order the operand gives (R3, R4; R4 gives none,
log 6). The phase, never above its limit (the clamp is the model's, log 19), goes to the last span and returns to 0; the counter
advances modulo POCKETS, a pending index ties it to 0, leaves it at 0, or finds a chain slip, and an index search that reaches
POCKETS+2 in PRIMING makes it invalid (R2, R3, R5, R7, R8); a slip raises CHAIN SLIP and lowers it at once, and takes a drive
state to RECOVERY (R5, R7). A consumed index returns the search count to 0 in every line state (the model's choice, log 44). An
entry that joins the meter in RUNNING with the average outside the limits raises DRIVE RATE (R12); UNEXPECTED MOTION is raised at
a mark with the drive off, unless up, and lowered at one with it on (R14; in this order, log 7). The Track Unit takes a notice
once, also when a release or report made it take it first (R102); the Loop Interface makes a roll due with the drive ON (R21);
after each receiver a READY set is released and the held flags are judged (R87, R146; log 33). Left as they were: the input
levels, ESTOP_N as taken, the tables, the waiting half A, the tail and the run base. -/
def Obligations.MarkMovesCounterAndPhase : Prop :=
  (∀ (n : Nat) (order : List Receiver) (s : State), s.pins.resetN = true →
    let taken := takeMark (elapse n s)
    let u := taken.1
    let handed := (receiverOrder order).foldl (receive taken.2) { u with track := { u.track with due := some taken.2 } }
    let next := fun p : Profile => if s.pitch.counter + 1 < p.pockets then s.pitch.counter + 1 else 0
    let spent := fun p : Profile => s.line.state = .priming ∧ p.pockets + 2 ≤ s.pitch.searchCount + 1
    let slip := ∃ p, profileOf s = some p ∧
      (s.pitch.indexPending = true ∧ s.pitch.counterValid = true ∧ next p ≠ 0 ∨ s.pitch.indexPending = false ∧ spent p)
    let meter := (markMeter (elapse n s).pitch).meter
    let fast := s.line.state = .running ∧ s.pitch.driveEn = true ∧ s.pitch.driveRateUp = false ∧ s.pitch.openPeriod.isSome = true ∧
      meter.length = 8 ∧ ∃ p, profileOf s = some p ∧ (meter.sum / 8 < p.periodLo ∨ p.periodHi < meter.sum / 8)
    taken.2 = { entry := pocketNumber 0 u, driveOn := s.pitch.driveEn, counterValid := u.pitch.counterValid } ∧
    (slip → latch .chainSlip u = { (latch .chainSlip s).raised 0 0 with state := .latched } ∧
      u.line.state = (if driveState s.line.state = true then .recovery else s.line.state)) ∧
    (¬slip → latch .chainSlip u = latch .chainSlip s ∧
      (¬fast → u.line.state = s.line.state) ∧ (fast → u.line.state = .recovery ∧ u.line.lastCause = 3)) ∧
    (s.pitch.driveEn = false → s.pitch.unexpectedUp = false →
      latch .unexpectedMotion u = (latch .unexpectedMotion s).raised 0 0) ∧
    (s.pitch.driveEn = false → s.pitch.unexpectedUp = true → latch .unexpectedMotion u = latch .unexpectedMotion s) ∧
    (s.pitch.driveEn = true → s.pitch.unexpectedUp = true → up .unexpectedMotion u = false) ∧
    (∀ p, profileOf s = some p → u.pitch.searchCount =
      if s.pitch.indexPending = true then 0 else if s.line.state ≠ .priming then s.pitch.searchCount
      else if spent p then 0 else s.pitch.searchCount + 1) ∧
    ∃ t, exec (.pitchMark n order) s = .next t ∧
      t = { handed with track := { handed.track with due := none }, stage := { handed.stage with freshTake := false } } ∧
      t.pitch.phase = 0 ∧
      t.pitch.lastSpan = min s.pitch.phase (match profileOf s with | some p => p.phases - 1 | none => 1023) ∧
      t.pitch.indexPending = false ∧ t.pitch.unexpectedUp = !s.pitch.driveEn ∧
      (profileOf s = none → t.pitch.counter = 0 ∧ t.pitch.counterValid = false) ∧
      (∀ p, profileOf s = some p →
        (s.pitch.indexPending = true → t.pitch.counter = 0) ∧
        (s.pitch.indexPending = true → (s.pitch.counterValid = false ∨ next p = 0) → t.pitch.counterValid = true) ∧
        (s.pitch.indexPending = true → s.pitch.counterValid = true → next p ≠ 0 → t.pitch.counterValid = false) ∧
        (s.pitch.indexPending = false → spent p → t.pitch.counter = 0 ∧ t.pitch.counterValid = false) ∧
        (s.pitch.indexPending = false → ¬spent p →
          t.pitch.counter = next p ∧ t.pitch.counterValid = s.pitch.counterValid)) ∧
      t.pins = s.pins ∧ t.pitch.estopAsserted = s.pitch.estopAsserted ∧ (∀ i, t.tables.get i = s.tables.get i) ∧
      t.acct.halfA = s.acct.halfA ∧ t.acct.tail = s.acct.tail ∧ t.acct.base = s.acct.base ∧
      t.loop.mgmtIn = s.loop.mgmtIn ∧ t.loop.nodeRecs = s.loop.nodeRecs ∧ t.loop.noticeMask = s.loop.noticeMask ∧
      t.loop.dispatcher = s.loop.dispatcher ∧ t.draws = s.draws ∧ t.pending = s.pending) ∧
  (∀ order : List Receiver, (receiverOrder order).Nodup ∧
    (∀ r : Receiver, r ∈ receiverOrder order ∧ r ∈ [Receiver.track, .collation, .account, .line, .loop]) ∧
    (order.Nodup → ∃ rest, receiverOrder order = order ++ rest)) ∧
  (∀ (n : Notice) (u : State),
    receive n u .track = settle (match u.track.due with | some d => trackNotice d u | none => u) ∧
    receive n u .collation = settle (collationNotice n u) ∧
    receive n u .account = settle (accountNotice n u) ∧
    receive n u .line = settle (lineNotice n u) ∧
    (n.driveOn = true → receive n u .loop = settle (rollDue u)) ∧
    (n.driveOn = false → receive n u .loop = settle u)) ∧
  (∀ u : State,
    let released := tryRelease u
    ((released.line.state = .paused ∨ released.line.state = .draining) ∧ held released = false →
      settle u = setLine .halted 0 released) ∧
    (¬((released.line.state = .paused ∨ released.line.state = .draining) ∧ held released = false) → settle u = released))

/-- The Track Unit takes a pitch notice in four steps: close, depart, move, arrive (R101), with the positions of a VALID node
table (R92). Every record moves up one position with its pocket number, the record at X leaves, and the new record at position 0
holds the notice's entry pocket; a track with no records stays empty. A whole record, its set, plan, results, gate order and exit
decision as the close leaves them, is found one position further on when it neither departs from D nor arrives at a station. The
number at position p is the counter less p modulo POCKETS, absent while the counter is invalid (R6); the notice's entry pocket is
that of position 0 (R3). -/
def Obligations.PitchNoticeMovesTheTrack : Prop :=
  (∀ (n : Notice) (s : State),
    trackNotice n s = trackArrive n.driveOn (trackMove n.entry (departExit n.driveOn (departGate n.driveOn
      (trackClose (takePositions s))))) ∧
    (trackNotice n s).track.recs.map (·.pocket) =
      (if s.track.recs = [] then [] else n.entry :: (s.track.recs.map (·.pocket)).dropLast) ∧
    (∀ (p : Nat) (r : PocketRec), (trackClose (takePositions s)).track.recs[p]? = some r → p + 1 < s.track.recs.length →
      (∀ d ∈ nodesOf s, d.role = some .divertGate → d.position = p → r.content = none ∨ n.driveOn = true ∧ r.gateOrder = .pass) →
      (∀ m ∈ nodesOf s, positioned m.role = true → m.position ≠ p + 1) →
      (trackNotice n s).track.recs[p + 1]? = some r)) ∧
  (∀ (s : State) (on : Bool), (noticeOf on s).entry = pocketNumber 0 s ∧
    (s.pitch.counterValid = false ∨ profileOf s = none → ∀ p, pocketNumber p s = none) ∧
    (∀ f p, profileOf s = some f → s.pitch.counterValid = true → s.pitch.counter < f.pockets → p < f.trackLen →
      f.trackLen ≤ f.pockets → ∃ q, pocketNumber p s = some q ∧ q < f.pockets ∧ (q + p) % f.pockets = s.pitch.counter))

/-- A fall of ESTOP_N is taken at once: the outputs go off, ESTOP is raised, and a line in a drive state or in RECOVERY goes to
its stopped state with ESTOP as the cause, from a drive state after the suspect marking (R15, R161); a fall while the input is
taken as asserted only stops the release timer. A rise starts the 20 ms timer. At its end the input is taken as released and ESTOP
is lowered. A level that does not change, and a timer that is stopped, change nothing (the model's choice, log 2). The suspect
marking (R89, R104): every set of the stage and every set pocket at positions 0 to D-1 has its suspect flag set and SUSPECT
appended once; one already suspect does not change, set pockets at D and beyond stay, and nothing else changes. D is the divert
gate's position as the Track Unit has it; with no D no pocket stands before it (the model's choice, log 26). -/
def Obligations.EmergencyStopActsAtOnce : Prop :=
  (∀ s : State, s.pins.resetN = true →
    (s.pins.estopN = false → exec .estopAssert s = .next s) ∧
    (s.pins.estopN = true → s.pitch.estopAsserted = true → exec .estopAssert s = .next { s with
      pins := { s.pins with estopN := false }, pitch := { s.pitch with releaseTimer := none } }) ∧
    (s.pins.estopN = true → s.pitch.estopAsserted = false → ∃ t, exec .estopAssert s = .next t ∧
      t.pins = { s.pins with estopN := false } ∧ t.pitch.estopAsserted = true ∧ t.pitch.releaseTimer = none ∧
      t.pitch.driveEn = false ∧ t.pitch.driveCrawl = false ∧ up .estop t = true ∧
      t.line.state = (if driveState s.line.state ∨ s.line.state = .recovery then stoppedState s else s.line.state) ∧
      (driveState s.line.state ∨ s.line.state = .recovery → t.line.lastCause = 1 ∧ t.line.prev = s.line.state ∧
        t.line.drainPending = false ∧ t.line.phase = .none) ∧
      t.stage = (if driveState s.line.state then (suspectAll s).stage else s.stage) ∧
      t.track = (if driveState s.line.state then (suspectAll s).track else s.track) ∧
      t.tables = s.tables ∧ t.acct.queue = s.acct.queue ∧ t.feeders = s.feeders ∧ t.presort = s.presort ∧
      t.outcomes = s.outcomes) ∧
    (s.pins.estopN = true → exec .estopRise s = .next s) ∧
    (s.pins.estopN = false → s.pitch.estopAsserted = true → exec .estopRise s = .next { s with
      pins := { s.pins with estopN := true }, pitch := { s.pitch with releaseTimer := some 0 } }) ∧
    (s.pitch.releaseTimer = none → exec .estopReleaseTimerExpiry s = .next s) ∧
    (∀ k, s.pitch.releaseTimer = some k → ∃ t, exec .estopReleaseTimerExpiry s = .next t ∧
      t.pitch.estopAsserted = false ∧ t.pitch.releaseTimer = none ∧ t.pitch.driveEn = driveState s.line.state ∧
      up .estop t = false ∧ t.line.state = s.line.state ∧ t.tables = s.tables ∧ t.acct = s.acct ∧ t.stage = s.stage ∧
      t.track = s.track ∧ t.feeders = s.feeders ∧ t.presort = s.presort ∧ t.outcomes = s.outcomes)) ∧
  (∀ s : State,
    let marked := fun x : SetRec =>
      if x.suspect = true then x
      else { x with suspect := true, marks := if .suspect ∈ x.marks then x.marks else x.marks ++ [.suspect] }
    let beforeGate : Nat → Bool := fun p => match positionOf .divertGate s with
      | some d => decide (p < d)
      | none => false
    ∃ recs : List PocketRec, recs.length = s.track.recs.length ∧
      (∀ (p : Nat) (r : PocketRec), s.track.recs[p]? = some r → recs[p]? = some
        (if beforeGate p = true then { r with content := r.content.map marked } else r)) ∧
      suspectAll s = { s with
        stage := { s.stage with assembly := s.stage.assembly.map marked, ready := s.stage.ready.map marked }
        track := { s.track with recs := recs } })

/-- At a mark an open period is closed into an entry of at least 1 and a new period opens; with no open period one opens if the
drive is on; the list keeps the eight newest entries (R10). An open period that reaches its limit adds an entry of 65,535 and
opens a new period. In RUNNING, with the drive on, an average outside the limits raises DRIVE RATE, which stops the drive by
RECOVERY (R12, R155); otherwise the entry only fills the meter, and the Line Controller is told. The time to the limit passes in
the same step (log 5); with no open period nothing changes (log 2). -/
def Obligations.MeterTakesItsEntries : Prop :=
  (∀ p : PitchUnit,
      (∀ k, p.openPeriod = some k → ∃ l, markMeter p = { p with meter := l, openPeriod := some 0 } ∧
        l = (p.meter ++ [max 1 (min 65535 k)]).drop (p.meter.length + 1 - 8)) ∧
      (p.openPeriod = none → p.driveEn = true → markMeter p = { p with openPeriod := some 0 }) ∧
      (p.openPeriod = none → p.driveEn = false → markMeter p = p)) ∧
  (∀ s : State, s.pins.resetN = true →
      (s.pitch.openPeriod = none → exec .meterStallEntry s = .next s) ∧
      (∀ k, s.pitch.openPeriod = some k → s.line.state = .running → releasePocket s = none →
        let l := (s.pitch.meter ++ [65535]).drop (s.pitch.meter.length + 1 - 8)
        let late := elapse (65535 - k) s
        let bad := l.length = 8 ∧ ∃ p, profileOf s = some p ∧ (l.sum / 8 < p.periodLo ∨ p.periodHi < l.sum / 8)
        (¬bad → exec .meterStallEntry s = .next { late with
          pitch := { late.pitch with meter := l, openPeriod := some 0 }
          line := { late.line with counterValid := s.pitch.counterValid, meterValid := l.length == 8 } }) ∧
        (bad → s.pitch.driveEn = true → s.pitch.driveRateUp = false → ∃ t, exec .meterStallEntry s = .next t ∧
          t.line.state = .recovery ∧ t.line.lastCause = 3 ∧ t.pitch.driveEn = false ∧ t.pitch.meter = [] ∧
          t.pitch.driveRateUp = false ∧ up .driveRate t = false ∧ t.tables = s.tables ∧ t.acct.queue = s.acct.queue ∧
          t.outcomes = s.outcomes)))

/-! ### The line and its latches -/

/-- A change of line state (R145): the new state, the state it came from and its cause are recorded; DRIVE_EN and DRIVE_CRAWL
stand as R13 states, and when DRIVE_EN changes, or DRIVE_CRAWL changes with the drive on, the meter and its open period are
emptied and reported not valid (R11); the roll timer starts when the drive goes off and stops when it goes on (R21); the search
count returns to 0 on entry to PRIMING (R7), the clean-pitch count on entry to RUNNING (R151), drain-pending in a stopped state
and in LOCKOUT (R152), the recovery phase outside RECOVERY (R158). No latch changes but DRIVE RATE and STATION TIMING. Left as
they were: the input levels, the pocket counter and its validity, the pending index, phase and last span, the management input
queue, the tables, the account records, half A, tail and base, the stage, the track, the feeders, the presort groups and bins, the
retries, the jammed and station-loss sets, the outcomes, the free-value count and the queue of commands. -/
def Obligations.LineStateChanges : Prop :=
  ∀ (n : LineState) (cause : Nat) (s : State),
    let t := setLine n cause s
    let en := driveState n && !s.pitch.estopAsserted
    let crawl := en && n == .priming
    let changed := s.pitch.driveEn != en || (en && s.pitch.driveCrawl != crawl)
    t.line.state = n ∧ t.line.prev = s.line.state ∧ t.line.lastCause = cause ∧
    t.pitch.driveEn = en ∧ t.pitch.driveCrawl = crawl ∧
    t.pitch.meter = (if changed then [] else s.pitch.meter) ∧
    t.pitch.openPeriod = (if changed then none else s.pitch.openPeriod) ∧
    t.line.meterValid = (if changed then false else s.line.meterValid) ∧
    t.loop.rollTimer = (if s.pitch.driveEn = en then s.loop.rollTimer else if en then none else some 0) ∧
    t.pitch.searchCount = (if n = .priming then 0 else s.pitch.searchCount) ∧
    t.line.clean = (if n = .running then 0 else s.line.clean) ∧
    t.line.drainPending = (if n = .halted ∨ n = .paused ∨ n = .lockout then false else s.line.drainPending) ∧
    (n ≠ .recovery → t.line.phase = .none) ∧
    (∀ k, k ≠ .driveRate → k ≠ .stationTiming → latch k t = latch k s) ∧
    t.pins = s.pins ∧ t.pitch.counter = s.pitch.counter ∧ t.pitch.counterValid = s.pitch.counterValid ∧
    t.pitch.indexPending = s.pitch.indexPending ∧ t.pitch.phase = s.pitch.phase ∧ t.pitch.lastSpan = s.pitch.lastSpan ∧
    t.loop.mgmtIn = s.loop.mgmtIn ∧ t.tables = s.tables ∧ t.acct.queue = s.acct.queue ∧ t.acct.halfA = s.acct.halfA ∧
    t.acct.tail = s.acct.tail ∧ t.acct.base = s.acct.base ∧ t.stage = s.stage ∧ t.track = s.track ∧ t.feeders = s.feeders ∧
    t.presort = s.presort ∧ t.line.retry = s.line.retry ∧ t.line.jammed = s.line.jammed ∧
    t.line.stationLoss = s.line.stationLoss ∧ t.outcomes = s.outcomes ∧ t.draws = s.draws ∧ t.pending = s.pending

/-- A raising makes its latch ACTIVE with the occurrence increased by 1 (from 255 to 1), the source and the raisings count
increased by 1 up to 65,535, and returns the clean-pitch count to 0 (R151, R153); a lowering makes an ACTIVE latch LATCHED and
changes no other latch record. Neither touches another latch. The Line Controller then responds by kind and line state (R155): a
recovery kind, or NODE LOST of a station role, takes a drive state to RECOVERY, in one event with the suspect marking
(EmergencyStopActsAtOnce says what it does), drain-pending yes when the line came from DRAINING and otherwise kept, the phase HOLD
and the full hold (R157); ESSENTIAL LOST and GROUP EXHAUSTED act as the table says; every other kind but ESTOP and RETRIES
EXHAUSTED changes no line state. A STATION TIMING raised with the drive off is lowered in the same event (R145). -/
def Obligations.LatchesTakeRaisingsAndLowerings : Prop :=
  (∀ (k : LatchKind) (sort number : Nat) (s : State),
    (latch k (takeRaising k sort number s) =
      { state := .active
        occurrence := if (latch k s).occurrence < 255 then (latch k s).occurrence + 1 else 1
        sort := sort, number := number
        raisings := if (latch k s).raisings < 65535 then (latch k s).raisings + 1 else (latch k s).raisings }) ∧
    (∀ j, j ≠ k → latch j (takeRaising k sort number s) = latch j s) ∧
    (takeRaising k sort number s).line.clean = 0 ∧ (takeRaising k sort number s).line.state = s.line.state ∧
    (takeRaising k sort number s).pitch = s.pitch ∧ (takeRaising k sort number s).tables = s.tables ∧
    (takeRaising k sort number s).stage = s.stage ∧ (takeRaising k sort number s).track = s.track ∧
    ((latch k s).state = .active → latch k (lower k s) = { latch k s with state := .latched }) ∧
    ((latch k s).state ≠ .active → latch k (lower k s) = latch k s) ∧
    (∀ j, j ≠ k → latch j (lower k s) = latch j s) ∧
    (lower k s).line.state = s.line.state ∧ (lower k s).pitch = s.pitch ∧ (lower k s).loop = s.loop) ∧
  (∀ (role : Option Role) (k : LatchKind) (sort number : Nat) (s : State),
    let t := takeRaising k sort number s
    let before := s.line.state
    let driving := before = .priming ∨ before = .running ∨ before = .draining
    let stations : List Role := [.sheetStation, .envReader, .envStation, .caliper, .divertGate, .closer, .sorter]
    let recovers := k ∈ [LatchKind.jam, .driveRate, .chainSlip, .ringBreak, .collationOverrun] ∨
      k = .nodeLost ∧ ∃ r ∈ stations, role = some r
    let marked := suspectAll (setLine .recovery (latchCode k) t)
    let entered := { marked with line := { marked.line with
      drainPending := s.line.state == .draining || s.line.drainPending, phase := .hold, holdLeft := fullHold s } }
    let pend := { t with line := { t.line with drainPending := true } }
    (recovers → raiseFor role k sort number s = if driving then entered else t) ∧
    (k = .stationTiming → raiseFor role k sort number s =
      if driving then lower .stationTiming entered else if s.pitch.driveEn = true then t else lower .stationTiming t) ∧
    (k ∈ [LatchKind.feederFault, .unexpectedMotion, .tableBad] ∨ k = .nodeLost ∧ (∀ r ∈ stations, role ≠ some r) →
      raiseFor role k sort number s = t) ∧
    (k = .essentialLost → raiseFor role k sort number s =
      if before = .priming ∨ before = .running ∨ before = .recovery ∧ s.line.drainPending = false then setLine .lockout 10 t
      else t) ∧
    (k = .groupExhausted → raiseFor role k sort number s =
      if before = .priming ∨ before = .recovery then pend else if before = .running then setLine .draining 12 t else t))

/-- The Line Controller keeps the Pitch Unit's reports of counter and meter; in PRIMING, with both valid, the line goes to
DRAINING when drain-pending is yes and to RUNNING otherwise, and drain-pending becomes no (R150): so a stall entry that makes the
meter valid ends PRIMING. A pitch notice taken in RUNNING with drive ON is a clean pitch (R151). The event after which a PAUSED or
DRAINING line holds no set takes it to HALTED (R146, R152): so after every pitch mark, in any order of its receivers (log 6), a
line that is PAUSED or DRAINING holds a set. The Line Controller takes a mark's reports with its notice, and the notice at which
PRIMING ends is not counted as a clean pitch (the model's choices, log 42). -/
def Obligations.PrimingAndDrainingEnd : Prop :=
  (∀ s : State,
    let valid := s.pitch.counterValid = true ∧ s.pitch.meter.length = 8
    let reported := { s with line := { s.line with
      counterValid := s.pitch.counterValid, meterValid := s.pitch.meter.length == 8 } }
    (s.line.state = .priming → valid → takeReports s = setLine (if s.line.drainPending then .draining else .running) 0
      { reported with line := { reported.line with drainPending := false } }) ∧
    (s.line.state ≠ .priming ∨ ¬valid → takeReports s = reported) ∧
    (∀ n : Notice, s.line.state ≠ .running ∨ n.driveOn = false → lineNotice n s = takeReports s) ∧
    (∀ n : Notice, s.line.state = .running → n.driveOn = true → lineNotice n s = { reported with line := { reported.line with
      clean := if 499 ≤ s.line.clean then 0 else s.line.clean + 1
      retry := if 499 ≤ s.line.clean then 0 else s.line.retry } })) ∧
  (∀ s : State, releasePocket s = none →
    (held s = false → s.line.state = .paused ∨ s.line.state = .draining → settle s = setLine .halted 0 s) ∧
    (held s = true ∨ s.line.state ≠ .paused ∧ s.line.state ≠ .draining → settle s = s)) ∧
  (∀ (elapsed : Nat) (order : List Receiver) (s : State), s.pins.resetN = true →
    ∃ t, exec (.pitchMark elapsed order) s = .next t ∧
      (t.line.state = .paused ∨ t.line.state = .draining → held t = true)) ∧
  (∀ (k : Nat) (s : State), s.pins.resetN = true → s.pitch.openPeriod = some k → s.line.state = .priming →
    s.pitch.meter.length = 7 → s.pitch.counterValid = true → s.stage.ready = none →
    ∃ t, exec .meterStallEntry s = .next t ∧ t.line.drainPending = false ∧ t.tables = s.tables ∧ t.stage = s.stage ∧
      t.track = s.track ∧ t.acct.queue = s.acct.queue ∧ t.outcomes = s.outcomes ∧
      t.line.state = if s.line.drainPending = false then .running else if held s then .draining else .halted)

/-- In PRIMING, with the index search count at POCKETS+2, the counter becomes 0 and invalid, the count returns to 0, and CHAIN
SLIP is raised and lowered in one event (R7), which leads to RECOVERY (R155). With the drive on, an unfinished set whose pitches
since order have reached the working set deadline finishes with cause DEADLINE and SHORT SET among its marks, its rebind spent
(R80, R81). It stays in the assembly slot while the release slot is occupied, and moves up as READY when it is empty (R82).
Anywhere else the two commands change nothing: a pitch mark that brings a count to its end has already done this (the model's
choice, log 8). -/
def Obligations.SearchAndDeadlineEnd : Prop :=
  (∀ s : State, s.pins.resetN = true →
      (¬(s.line.state = .priming ∧ ∃ p, profileOf s = some p ∧ p.pockets + 2 ≤ s.pitch.searchCount) →
        exec .indexSearchExpiry s = .next s) ∧
      (∀ p, s.line.state = .priming → profileOf s = some p → p.pockets + 2 ≤ s.pitch.searchCount →
        ∃ t, exec .indexSearchExpiry s = .next t ∧ t.pitch.counter = 0 ∧ t.pitch.counterValid = false ∧
          t.pitch.searchCount = 0 ∧ t.line.counterValid = false ∧ t.line.state = .recovery ∧ t.line.phase = .hold ∧
          t.pitch.driveEn = false ∧
          latch .chainSlip t = { (latch .chainSlip s).raised 0 0 with state := .latched } ∧ t.tables = s.tables ∧
          t.acct.queue = s.acct.queue ∧ t.feeders = s.feeders ∧ t.presort = s.presort ∧ t.outcomes = s.outcomes)) ∧
  (∀ s : State, s.pins.resetN = true → releasePocket s = none → held s = true →
      (∀ (x : SetRec) (w : Working), s.pitch.driveEn = true → s.stage.assembly = some x → x.finish = none →
        s.tables.work = some w → w.deadline ≤ x.pitches →
        let y := { x with
          finish := some .deadline, rebindSpent := true, state := .assembling
          marks := finishMarks { x with marks := addMark .shortSet x.marks } }
        (s.stage.ready.isSome = true → exec .setDeadlineExpiry s = .next { s with stage := { s.stage with assembly := some y } }) ∧
        (s.stage.ready = none → s.stage.vacancy = none → exec .setDeadlineExpiry s = .next { s with
          stage := { s.stage with assembly := none, ready := some { y with state := .ready } } })) ∧
      ((s.pitch.driveEn = false ∨ s.stage.assembly = none ∨ s.tables.work = none ∨
          ∃ x, s.stage.assembly = some x ∧ (x.finish.isSome = true ∨ ∀ w, s.tables.work = some w → x.pitches < w.deadline)) →
        exec .setDeadlineExpiry s = .next s))

/-- The 500th clean pitch in RUNNING with the drive on returns the clean-pitch count and the retry count to 0 (R151); at any other
moment its command changes nothing (log 8). When the recovery hold expires: with a recovery condition up the phase becomes WAIT;
with none up and the retries spent, RETRIES EXHAUSTED is left LATCHED and the line goes to LOCKOUT by it; with none up and retries
left, one more is counted and the line enters PRIMING, drain-pending kept (R158). Outside HOLD the timer is stopped and nothing
happens (log 2). The time the hold had left passes first (the model's choice, log 5), and retries above the limit count as spent
(the model's reading, log 31). -/
def Obligations.RetriesAndTheRecoveryHold : Prop :=
  (∀ s : State, s.pins.resetN = true →
      ((s.line.state = .running ∧ s.pitch.driveEn = true ∧ 499 ≤ s.line.clean) →
        exec .cleanPitchCountExpiry s = .next { s with line := { s.line with clean := 0, retry := 0 } }) ∧
      (¬(s.line.state = .running ∧ s.pitch.driveEn = true ∧ 499 ≤ s.line.clean) → exec .cleanPitchCountExpiry s = .next s)) ∧
  (∀ s : State, s.pins.resetN = true →
      (s.line.phase ≠ .hold → exec .recoveryHoldExpiry s = .next s) ∧
      (s.line.phase = .hold → recoveryCondition s = true →
        let late := elapse s.line.holdLeft s
        exec .recoveryHoldExpiry s = .next { late with line := { late.line with phase := .wait, holdLeft := 0 } }) ∧
      (s.line.phase = .hold → recoveryCondition s = false → s.line.state = .recovery → retryLimit s ≤ s.line.retry →
        ∃ t, exec .recoveryHoldExpiry s = .next t ∧ t.line.state = .lockout ∧ t.line.lastCause = 11 ∧ t.line.phase = .none ∧
          t.line.retry = s.line.retry ∧
          latch .retriesExhausted t = { (latch .retriesExhausted s).raised 0 0 with state := .latched } ∧
          t.tables = s.tables ∧ t.acct.queue = s.acct.queue ∧ t.stage = s.stage ∧ t.track = s.track ∧ t.outcomes = s.outcomes) ∧
      (s.line.phase = .hold → recoveryCondition s = false → s.line.retry < retryLimit s →
        ∃ t, exec .recoveryHoldExpiry s = .next t ∧ t.line.state = .priming ∧ t.line.prev = s.line.state ∧
          t.line.lastCause = 0 ∧ t.line.phase = .none ∧ t.line.retry = s.line.retry + 1 ∧
          t.line.drainPending = s.line.drainPending ∧ t.pitch.driveEn = (!s.pitch.estopAsserted) ∧ t.pitch.searchCount = 0 ∧
          t.tables = s.tables ∧ t.acct.queue = s.acct.queue ∧ t.stage = s.stage ∧ t.track = s.track ∧ t.outcomes = s.outcomes))

/-! ### The Loop Interface -/

/-- A roll becomes due each time the 10 ms timer ends: the roll before it is judged (one that returned sets the misses to 0, one
that did not adds a miss, the second raising RING BREAK), the serial increases by 1 modulo 256, and a new ROLL with bit 0 of its
mask set takes the roll slot (R20, R21, R22); on an idle LOOP_OUT it goes out at once (the model's choice, log 11). The time the
timer had left passes first (the model's choice, log 5); the roll before the first one counts as a miss (the model's reading, log
13). A stopped timer ends nothing (log 2). -/
def Obligations.RollTimerMakesARollDue : Prop :=
  ∀ s : State, s.pins.resetN = true →
    (s.loop.rollTimer = none → exec .rollTimerExpiry s = .next s) ∧
    (∀ k, s.loop.rollTimer = some k →
      let late := elapse (1000 - k) s
      let serial := (s.loop.rollSerial + 1) % 256
      let roll : Cell := {
        dest := 0, src := 0, kind := 0x21, tag := 0
        payload := [BitVec.ofNat 8 serial, 0, 0, 0, 0, 0, 0, 0, 1, 0, 0, 0, 0, 0] }
      let due := fun misses : Nat => LoopIf.start { late.loop with
        rollTimer := some 0, misses := misses, rollSerial := serial, returned := false, rollSlot := some roll }
      (s.loop.returned = true → exec .rollTimerExpiry s = .next { late with loop := due 0 }) ∧
      (s.loop.returned = false → s.loop.misses = 0 → exec .rollTimerExpiry s = .next { late with loop := due 1 }) ∧
      (s.loop.returned = false → 1 ≤ s.loop.misses → s.loop.misses ≤ 2 → s.loop.ringBreakUp = true →
        exec .rollTimerExpiry s = .next { late with loop := due 2 }) ∧
      (s.loop.returned = false → s.loop.misses = 1 → s.loop.ringBreakUp = false →
        ∃ t, exec .rollTimerExpiry s = .next t ∧ t.loop.misses = 2 ∧ t.loop.ringBreakUp = true ∧ t.loop.rollSerial = serial ∧
          t.loop.returned = false ∧ latch .ringBreak t = (latch .ringBreak s).raised 0 0 ∧
          t.line.state = (if driveState s.line.state then .recovery else s.line.state) ∧ t.tables = s.tables ∧
          t.acct.queue = s.acct.queue ∧ t.outcomes = s.outcomes))

/-- Cells that no block of the part takes: one whose check word is not its CRC is discarded and counted, by the run counter too
(R17); a good cell for another node is counted as undelivered when it is the part's own, as an orphan when it has passed before,
is forwarded with its passed flag set, or is a forward overrun (R18); a good cell to the part of no use is counted as undelivered
or as an unknown kind (R19). Nothing else changes. A forwarded cell is taken for sending at once on an idle LOOP_OUT (the model's
choice, log 11). -/
def Obligations.CellsNobodyTakesAreCounted : Prop :=
  ∀ s : State, s.pins.resetN = true →
    (∀ (c : Cell) (crc : Word16), c.wf = true → crc ≠ cellCrc c →
      exec (.crcErrorDiscard c crc) s = .next (bumpRun 12 (bumpLoop 1 s))) ∧
    (∀ c : Cell, c.wf = true → c.dest ≠ 0 → c.src = 0 → exec (.forwardedCell c) s = .next (bumpLoop 4 s)) ∧
    (∀ c : Cell, c.wf = true → c.dest ≠ 0 → c.src ≠ 0 → c.kind.getLsbD 7 = true →
      exec (.forwardedCell c) s = .next (bumpRun 13 (bumpLoop 2 s))) ∧
    (∀ c : Cell, c.wf = true → c.dest ≠ 0 → c.src ≠ 0 → c.kind.getLsbD 7 = false → s.loop.forward.length < 4 →
      exec (.forwardedCell c) s = .next { s with
        loop := LoopIf.start { s.loop with forward := s.loop.forward ++ [{ c with kind := c.kind ||| 0x80#8 }] } }) ∧
    (∀ c : Cell, c.wf = true → c.dest ≠ 0 → c.src ≠ 0 → c.kind.getLsbD 7 = false → 4 ≤ s.loop.forward.length →
      exec (.forwardedCell c) s = .next (bumpLoop 3 s)) ∧
    (∀ kind : Byte, kindCode kind ≠ 0x21 → exec (.unknownKindCell 0 kind) s = .next (bumpLoop 4 s)) ∧
    (∀ src kind : Byte, src ≠ 0 → isMgmtKind kind = false → isStationKind kind = false →
      exec (.unknownKindCell src kind) s = .next (bumpLoop 5 s))

/-- A ROLL with the current serial counts as returned: its mask is stored, the misses return to 0, every node of the VALID node
table is judged against its address's bit of the mask, in table order (the order is the model's, log 27), and RING BREAK is
lowered if it was up; a recovery in WAIT then starts the full hold afresh if the event ended the last recovery condition (R158). A
ROLL with any other serial changes nothing (R22). The node records after it are given one by one: a set bit returns the absent
count to 0 and ends the loss; a clear bit counts one more up to 3, and at 3 a node not lost becomes lost with no last status
(R23). The judging of one node is given too: seen again, a lost node leaves the station-loss set, a feeder in LOST is told, and
NODE LOST is lowered when no node remains lost; becoming lost, it joins the station-loss set if its role is a station's, NODE LOST
is raised with its address as source and its role, and a feeder is told (R23, R112, R156; in this order, log 32). -/
def Obligations.RollsReturnAndJudgeTheNodes : Prop :=
  (∀ (serial : Byte) (mask : BitVec 64) (s : State), s.pins.resetN = true →
      (serial.toNat ≠ s.loop.rollSerial → exec (.rollReturn serial mask) s = .next s) ∧
      (serial.toNat = s.loop.rollSerial →
        let noted := { s with loop := { s.loop with returned := true, lastMask := mask, misses := 0 } }
        let judged := (nodesOf s).zipIdx.foldl (fun v p => judgeNode p.2 p.1 (mask.getLsbD p.1.addr) v) noted
        let whole := if s.loop.ringBreakUp = true then lower .ringBreak { judged with loop := { judged.loop with ringBreakUp := false } }
          else judged
        ∃ t, exec (.rollReturn serial mask) s = .next t ∧
          t = (if whole.line.phase = .wait ∧ recoveryCondition s = true ∧ recoveryCondition whole = false then
            { whole with line := { whole.line with phase := .hold, holdLeft := fullHold s } } else whole) ∧
          (∀ (i : Nat) (n : NodeEntry) (r : NodeRec), (nodesOf s)[i]? = some n → s.loop.nodeRecs[i]? = some r →
            t.loop.nodeRecs[i]? = some (
              let absent := if r.absent < 3 then r.absent + 1 else r.absent
              if mask.getLsbD n.addr = true then { r with absent := 0, lost := false }
              else if absent = 3 ∧ r.lost = false then { absent := 3, lost := true, status := none }
              else { r with absent := absent })) ∧
          ((∃ r ∈ s.loop.nodeRecs, r.lost = true) → (∀ r ∈ t.loop.nodeRecs, r.lost = false) → up .nodeLost t = false) ∧
          t.loop.returned = true ∧ t.loop.lastMask = mask ∧ t.loop.misses = 0 ∧ t.loop.ringBreakUp = false ∧
          t.loop.rollSerial = s.loop.rollSerial ∧ t.tables = s.tables ∧ t.acct.queue = s.acct.queue ∧
          (s.line.phase = .wait → s.line.state = .recovery → recoveryCondition s = true → t.line.state = .recovery →
            (recoveryCondition t = false → t.line.phase = .hold ∧ t.line.holdLeft = fullHold s) ∧
            (recoveryCondition t = true → t.line.phase = .wait))) ∧
      (serial.toNat = s.loop.rollSerial → nodesOf s = [] → s.loop.ringBreakUp = false →
        exec (.rollReturn serial mask) s = .next { s with
          loop := { s.loop with returned := true, lastMask := mask, misses := 0 } })) ∧
  (∀ (i : Nat) (n : NodeEntry) (r : NodeRec) (s : State), s.loop.nodeRecs[i]? = some r →
      let put := fun q : NodeRec => { s with loop := { s.loop with nodeRecs := s.loop.nodeRecs.set i q } }
      let station := match n.role with
        | some .sheetStation | some .envReader | some .envStation | some .caliper | some .divertGate | some .closer | some .sorter => true
        | _ => false
      (∀ seen j, j ≠ i → (judgeNode i n seen s).loop.nodeRecs[j]? = s.loop.nodeRecs[j]?) ∧
      (r.lost = false → judgeNode i n true s = put { r with absent := 0 }) ∧
      (r.lost = true →
        let back := put { r with absent := 0, lost := false }
        let left := { back with line := { back.line with stationLoss := back.line.stationLoss.filter (· != n.addr) } }
        let told := if n.role = some .insertFeeder ∧ (feederRec n.feeder s).state = .lost then feederBecomes n.feeder .faulted left
          else left
        ((∀ q ∈ back.loop.nodeRecs, q.lost = false) → judgeNode i n true s = lower .nodeLost told) ∧
        ((∃ q ∈ back.loop.nodeRecs, q.lost = true) → judgeNode i n true s = told)) ∧
      (r.absent < 2 → judgeNode i n false s = put { r with absent := r.absent + 1 }) ∧
      (r.absent = 3 → r.lost = true → judgeNode i n false s = s) ∧
      (r.absent = 2 ∨ r.absent = 3 → r.lost = false →
        let gone := put { absent := 3, lost := true, status := none }
        let joined := if station = true then { gone with line := { gone.line with stationLoss := gone.line.stationLoss ++ [n.addr] } }
          else gone
        let raised := raiseFor n.role .nodeLost 1 n.addr joined
        (n.role = some .insertFeeder ∧ (feederRec n.feeder s).state ≠ .none →
          judgeNode i n false s = feederBecomes n.feeder .lost raised) ∧
        (n.role ≠ some .insertFeeder ∨ (feederRec n.feeder s).state = .none → judgeNode i n false s = raised) ∧
        (judgeNode i n false s).loop.nodeRecs[i]? = some { absent := 3, lost := true, status := none } ∧
        latch .nodeLost (judgeNode i n false s) = (latch .nodeLost s).raised 1 n.addr))

/-- A notice cell that finds room joins the notice queue with the dropped count as it stands, which returns to 0; one that finds
16 cells is not queued, and the dropped count increases by 1, saturating at 255, as does loop counter 9 (R31, R34). On an idle
LOOP_OUT the arbiter takes its next cell in the same event (the model's choice, log 11). The answer of one REPLY: a cell to the
request's source with its tag, the result code with the last-item flag, and the data (R27). It joins the reply queue while that
holds fewer than 8 cells, and waits at the dispatcher otherwise; REPLY_PLACE then places it once there is room (R25). With no
room, or nothing waiting, REPLY_PLACE changes nothing (log 2, log 10). A cell that finds LOOP_OUT sending idle fill is taken at
once (the model's choice, log 11). CELL_SENT: the arbiter takes the next cell (R20): with both sides waiting, from the side the
last cell was not from; among the part's own the ROLL first, then orders, replies and notices, each oldest first; with none
waiting LOOP_OUT idles. On an idle LOOP_OUT nothing has been sent (log 2); the cell on LOOP_OUT and its side are kept as log 11
says. The REPLY that accepted a DEVICE RESET, once sent, lets the reset take effect (R33). -/
def Obligations.CellsJoinTheirQueuesAndLeaveInTurn : Prop :=
  (∀ (cls : Nat) (data : List Byte) (dest : Nat) (l : LoopIf),
      (l.notices.length < 16 →
        LoopIf.placeNotice cls data l dest = LoopIf.start { l with
          notices := l.notices ++ [{
            dest := BitVec.ofNat 8 dest, src := 0, kind := 0x51, tag := 0
            payload := padTo 14 (beBytes 1 cls ++ beBytes 1 l.dropped ++ data) }], dropped := 0 }) ∧
      (16 ≤ l.notices.length → ∃ counters, LoopIf.placeNotice cls data l dest = { l with
          counters := counters, dropped := if l.dropped < 255 then l.dropped + 1 else l.dropped } ∧
        (∀ i, i < 8 → vget counters i = vget l.counters i) ∧
        vget counters 8 = if vget l.counters 8 < 4294967295 then vget l.counters 8 + 1 else vget l.counters 8)) ∧
  (∀ s : State, s.pins.resetN = true →
      (∀ (c : Cell) (code : ResultCode) (data : List Byte), s.loop.dispatcher.waiting = [] →
        let reply : Cell := {
          dest := c.src, src := 0, kind := 0x50, tag := c.tag
          payload := BitVec.ofNat 8 (resultNumber code + 128) :: padTo 13 data }
        (s.loop.replies.length < 8 → replied c code data s = { s with
          loop := LoopIf.start { s.loop with replies := s.loop.replies ++ [reply] } }) ∧
        (8 ≤ s.loop.replies.length → replied c code data s = { s with
          loop := { s.loop with dispatcher := { s.loop.dispatcher with waiting := [reply] } } })) ∧
      (∀ c rest, s.loop.dispatcher.waiting = c :: rest → s.loop.replies.length < 8 →
        exec .replyPlace s = .next { s with
          loop := LoopIf.start { s.loop with
            replies := s.loop.replies ++ [c], dispatcher := { s.loop.dispatcher with waiting := rest } } }) ∧
      (8 ≤ s.loop.replies.length ∨ s.loop.dispatcher.waiting = [] ∧ s.loop.dispatcher.fetch = none →
        exec .replyPlace s = .next s)) ∧
  (∀ s : State, s.pins.resetN = true →
      (s.loop.wire = none → exec .cellSent s = .next s) ∧
      (∀ x side, s.loop.wire = some (x, side) → s.loop.dispatcher.reset ≠ .accepted →
        let l := { s.loop with lastSide := some side }
        let ownWaits := s.loop.rollSlot.isSome ∨ s.loop.orders ≠ [] ∨ s.loop.replies ≠ [] ∨ s.loop.notices ≠ []
        (¬ownWaits → s.loop.forward = [] → exec .cellSent s = .next { s with loop := { l with wire := none } }) ∧
        (∀ f fs, s.loop.forward = f :: fs → ¬ownWaits ∨ side = .own →
          exec .cellSent s = .next { s with loop := { l with forward := fs, wire := some (f, .forwarded) } }) ∧
        (s.loop.forward = [] ∨ side = .forwarded →
          (∀ o, s.loop.rollSlot = some o →
            exec .cellSent s = .next { s with loop := { l with rollSlot := none, wire := some (o, .own) } }) ∧
          (∀ o os, s.loop.rollSlot = none → s.loop.orders = o :: os →
            exec .cellSent s = .next { s with loop := { l with orders := os, wire := some (o, .own) } }) ∧
          (∀ o os, s.loop.rollSlot = none → s.loop.orders = [] → s.loop.replies = o :: os →
            exec .cellSent s = .next { s with loop := { l with replies := os, wire := some (o, .own) } }) ∧
          (∀ o os, s.loop.rollSlot = none → s.loop.orders = [] → s.loop.replies = [] → s.loop.notices = o :: os →
            exec .cellSent s = .next { s with loop := { l with notices := os, wire := some (o, .own) } }))) ∧
      (∀ x, s.loop.wire = some (x, .own) → kindCode x.kind = 0x50 → s.loop.dispatcher.reset = .accepted → s.loop.replies = [] →
        s.loop.dispatcher.waiting = [] → ∃ t, exec .cellSent s = .next t ∧ t.loop.dispatcher.reset = .sent))

/-! ### Station reports -/

/-- A station report whose source is 0 is an own cell that nobody took, counted as undelivered; one that the VALID node table does
not accept (no such table, no entry, or a role that may not send the kind) is counted as refused; neither changes anything else
(R19). A DONE that matches nothing awaited, or comes while the Track Unit has no positions (R92), is stale: it is counted at its
station's run counter and changes nothing else (R95, R168). The sheet station's DONE for RELEASE confirms the release awaited, and
any other is stale (R88). -/
def Obligations.ReportsThatAnswerNothing : Prop :=
  (∀ (src : Byte) (s : State), s.pins.resetN = true →
      let counted := fun (kind : Nat) (i : Instr) =>
        (src = 0 → exec i s = .next (bumpLoop 4 s)) ∧
        (src ≠ 0 → acceptReport kind src s = none → exec i s = .next (bumpLoop 6 s))
      (∀ seq page total word quality double, counted 0x10 (.sheet src seq page total word quality double)) ∧
      (∀ pocket subtype result thickness bin, counted 0x11 (.done src pocket subtype result thickness bin)) ∧
      (∀ pocket key noRead, counted 0x12 (.envread src pocket key noRead)) ∧
      (∀ st detail, counted 0x13 (.status src st detail)) ∧
      (∀ bin, counted 0x14 (.binEmptied src bin) ∧ counted 0x14 (.binOffline src bin) ∧ counted 0x14 (.binOnline src bin) ∧
        ∀ code, ¬(1 ≤ code.toNat ∧ code.toNat ≤ 3) → counted 0x14 (.unknownBinReport src code bin)) ∧
      (s.tables.node.state ≠ .valid → ∀ kind, acceptReport kind src s = none)) ∧
  (∀ (src pocket subtype result bin : Byte) (thickness : Word16) (n : NodeEntry) (r : Role) (s : State),
      Reports 0x11 src n r s →
      (¬(r = .sheetStation ∧ subtype.toNat = 2) → (s.track.positions = false ∨
        ∀ p, s.track.recs[n.position]? = some p → p.awaited = none ∨ p.pocket ≠ some pocket.toNat) →
        exec (.done src pocket subtype result thickness bin) s = .next (bumpRun (staleCounter r n.feeder) s)) ∧
      (r = .sheetStation → subtype.toNat = 2 → s.stage.releaseAwaited = some pocket.toNat →
        exec (.done src pocket subtype result thickness bin) s = .next { s with
          stage := { s.stage with releaseAwaited := none, releaseMiss := 0 } }) ∧
      (r = .sheetStation → subtype.toNat = 2 → s.stage.releaseAwaited ≠ some pocket.toNat →
        exec (.done src pocket subtype result thickness bin) s = .next (bumpRun 14 s)))

/-- The first sheet of an ORDERED set, a good read of the set's own account in order, makes the set ASSEMBLING with its rebind
spent, and joins it: its entry, the first total, its word in the balance (R75, R78). Any later sheet of an unfinished set joins
it, good read or no-read (R73): the marks SEQ BREAK, PAGE ORDER (the page not the sheet's place, or the total not the first
total), NO READ and DOUBLE SHEET are added in that order, each once; the first total is the first good read's; a stray set with no
seq read takes that of its first good read (R77, R78). Page equal to total finishes the set COMPLETE; else the maximum sheet count
finishes it MAXIMUM with OVERLENGTH (R79). Finishing spends the rebind and makes the checks of R81: PAGE COUNT against the bound
account, UNBALANCED where every sheet is a good read, RECALLED and then PULLED at the head. A finished set moves up to an empty
release slot and becomes READY, and else waits (R82); it is released as soon as R87 allows (ReleaseEntersTheTrack). Nothing else
changes. -/
def Obligations.SheetsJoinTheirSet : Prop :=
  (∀ (src : Byte) (seq : BitVec 24) (total : Byte) (word : Word16) (n : NodeEntry) (r : Role) (x : SetRec) (s : State),
    Reports 0x10 src n r s → releasePocket s = none → s.stage.assembly = some x → x.binding = .account seq.toNat →
    x.finish = none → 1 ≤ seq.toNat → total.toNat ≤ 24 →
    (x.state = .ordered → x.sheets = [] → x.firstTotal = none → 2 ≤ total.toNat → 2 ≤ x.maxSheets →
      exec (.sheet src seq 1 total word 0 false) s = .next { s with
        stage := { s.stage with assembly := some { x with
          state := .assembling, rebindSpent := true, sheets := [Sheet.mk (some (1, total.toNat, word)) false]
          firstTotal := some total.toNat, balance := x.balance ^^^ word } } }) ∧
    (x.state = .assembling → x.sheets.length + 1 = total.toNat → x.firstTotal = some total.toNat →
      s.stage.ready.isSome = true →
      let y := { x with
        sheets := x.sheets ++ [Sheet.mk (some (total.toNat, total.toNat, word)) false], balance := x.balance ^^^ word }
      exec (.sheet src seq total total word 0 false) s = .next { s with
        stage := { s.stage with assembly := some { y with
          finish := some .complete, rebindSpent := true, marks := finishMarks y } } })) ∧
  (∀ (src : Byte) (seq : BitVec 24) (page total : Byte) (word : Word16) (quality : Byte) (double : Bool) (n : NodeEntry) (r : Role)
      (x : SetRec) (s : State),
    Reports 0x10 src n r s → s.stage.assembly = some x → x.finish = none →
    x.state = .assembling ∨ (∃ o, x.binding = .stray o) →
    let add := fun (l : List Reason) (why : Reason) => if why ∈ l then l else l ++ [why]
    let head := fun (l : List Reason) (why : Reason) => if why ∈ l then l else why :: l
    let good := quality.toNat = 0 ∧ 1 ≤ seq.toNat ∧ 1 ≤ page.toNat ∧ page.toNat ≤ 24 ∧ 1 ≤ total.toNat ∧ total.toNat ≤ 24
    let bound : Option Nat := match x.binding with
      | .account q => some q
      | .stray o => o
    let added : List Reason :=
      (if good then
        (if ∃ q, bound = some q ∧ q ≠ seq.toNat then [Reason.seqBreak] else []) ++
        (if page.toNat ≠ x.sheets.length + 1 then [Reason.pageOrder] else []) ++
        (if ∃ t, x.firstTotal = some t ∧ t ≠ total.toNat then [Reason.pageOrder] else [])
      else [Reason.noRead]) ++ (if double = true then [Reason.doubleSheet] else [])
    let y : SetRec := { x with
      binding := match x.binding with
        | .stray none => .stray (if good then some seq.toNat else none)
        | b => b
      marks := added.foldl add x.marks
      firstTotal := match x.firstTotal with
        | some t => some t
        | none => if good then some total.toNat else none
      sheets := x.sheets ++ [Sheet.mk (if good then some (page.toNat, total.toNat, word) else none) double]
      balance := if good then x.balance ^^^ word else x.balance }
    let finished := fun (why : Finish) (z : SetRec) =>
      let counted := match z.binding, z.acct with
        | .account _, some f => if z.sheets.length + z.extraSheets = f.pages then z.marks else add z.marks .pageCount
        | _, _ => z.marks
      let balanced := if z.sheets ≠ [] ∧ (∀ e ∈ z.sheets, e.good ≠ none) ∧ z.balance ≠ 0 then add counted .unbalanced else counted
      let named := match z.binding, z.acct with
        | .account _, some f =>
          let recalled := if f.recalled = true then head balanced .recalled else balanced
          if f.pulled = true then head recalled .pulled else recalled
        | _, _ => balanced
      { z with finish := some why, rebindSpent := true, state := .assembling, marks := named }
    let z := if good ∧ page = total then finished .complete y
      else if y.sheets.length = y.maxSheets then finished .maximum { y with marks := add y.marks .overlength } else y
    exec (.sheet src seq page total word quality double) s = .next (settle { s with
      stage := if z.finish ≠ none ∧ s.stage.ready = none then
          { s.stage with assembly := none, ready := some { z with state := .ready } }
        else { s.stage with assembly := some z } }))

/-- A sheet with no set to join: in HALTED it is stale (R74); with the stage empty and room it makes a stray set (R84), shown here
for a good read that does not finish it, with the drive on; without room it is a collation overrun, raised with the sheet station
as source (R85), which takes a RUNNING line to RECOVERY (R155). -/
def Obligations.SheetsWithNoSet : Prop :=
  ∀ (src : Byte) (seq : BitVec 24) (page total : Byte) (word : Word16) (n : NodeEntry) (r : Role) (s : State),
    Reports 0x10 src n r s → s.stage.assembly = none → s.stage.ready = none →
    (s.line.state = .halted → ∀ quality double,
      exec (.sheet src seq page total word quality double) s = .next (bumpRun 14 s)) ∧
    (∀ w, s.line.state = .running → s.pitch.driveEn = true → claims s + 2 ≤ free s → s.tables.work = some w → 2 ≤ w.maxSheets →
      1 ≤ seq.toNat → 2 ≤ total.toNat → total.toNat ≤ 24 →
      exec (.sheet src seq 1 total word 0 false) s = .next (bumpRun 8 { s with
        stage := { s.stage with assembly := some {
          binding := .stray (some seq.toNat), acct := none, state := .assembling, finish := none, rebindSpent := true
          sheets := [Sheet.mk (some (1, total.toNat, word)) false], extraSheets := 0
          firstTotal := some total.toNat, balance := word, pitches := 0, maxSheets := w.maxSheets
          captured := some {
            tolerance := w.tolerance, sheetCaliper := w.sheetCaliper, envCaliper := w.envCaliper, fold := w.fold
            envClass := w.envClass }
          marks := [.stray], suspect := false, unsettled := false } } })) ∧
    (s.line.state = .running → free s < claims s + 2 → ∀ quality double,
      ∃ t, exec (.sheet src seq page total word quality double) s = .next t ∧ t.line.state = .recovery ∧ t.line.lastCause = 8 ∧
        latch .collationOverrun t = (latch .collationOverrun s).raised 1 src.toNat ∧ t.stage.assembly = none ∧
        t.stage.ready = none ∧ t.pitch.driveEn = false ∧ t.tables = s.tables ∧ t.acct.queue = s.acct.queue ∧
        t.outcomes = s.outcomes)

/-- The first sheet of an ORDERED set that names another account. A good read of a later seq in the queue rebinds the set:
MISSING, rebound past, is written for the old seq, earlier records are marked skipped, the record leaves the queue and gives the
set its account fields, with the pull list searched and its presort group looked up, and taken is counted (R58, R62, R68, R76). A
good read of an earlier seq, or of one the queue does not hold, or a no-read makes the set stray: MISSING, set strayed, its
account fields absent, STRAY at the head of its marks (R77). In each case the set is ASSEMBLING with its rebind spent and the
sheet joins as sheet 1 (R78). A late sheet joins a finished set still in the stage: an entry, or an extra sheet beyond 24, its
word in the balance, and of the marks only NO READ and DOUBLE SHEET (R83). Shown with no release allowed and, for a first sheet,
one that does not finish the set. -/
def Obligations.FirstAndLateSheetsSettleTheSet : Prop :=
  ∀ (src : Byte) (seq : BitVec 24) (page total : Byte) (word : Word16) (quality : Byte) (double : Bool) (n : NodeEntry) (r : Role)
    (s : State), Reports 0x10 src n r s → releasePocket s = none →
    let assembling := fun x : SetRec => { s with stage := { s.stage with assembly := some x } }
    (∀ x own, s.stage.assembly = some x → x.binding = .account own → x.state = .ordered → x.finish = none → x.sheets = [] →
      x.firstTotal = none → 2 ≤ x.maxSheets →
      let head := if .stray ∈ x.marks then x.marks else .stray :: x.marks
      let first := { x with state := .assembling, rebindSpent := true }
      let one := { first with
        sheets := [Sheet.mk (some (1, total.toNat, word)) false], firstTotal := some total.toNat, balance := x.balance ^^^ word }
      (1 ≤ seq.toNat → 2 ≤ total.toNat → total.toNat ≤ 24 →
        (∀ a, own < seq.toNat → (s.acct.queue.find? fun y => y.seq == seq.toNat) = some a →
          let hit := s.tables.pull.any fun e => e.key == a.key
          let found := s.tables.pull.find? fun e => e.key == a.key
          let pull := match found.map (·.kind) with
            | some .once => s.tables.pull.filter fun e => e.key != a.key
            | some .standing => s.tables.pull.map fun e =>
                if e.key = a.key then { e with hits := if e.hits < 255 then e.hits + 1 else e.hits } else e
            | none => s.tables.pull
          let bound := { one with
            binding := .account seq.toNat
            acct := some {
              key := a.key, pages := a.pages, inserts := a.inserts, matchReq := a.matchReq, envKey := a.envKey
              group := presortLookup a.postal s, pulled := hit || a.prePull, recalled := a.recalled } }
          exec (.sheet src seq 1 total word 0 false) s = .next (writeRecord (.missing own .reboundPast) (bumpRun 1 { assembling bound with
            acct := { s.acct with queue := (s.acct.queue.filter fun y => y.seq != seq.toNat).map fun y =>
              if y.seq < seq.toNat then { y with skipped := true } else y }
            tables := { s.tables with pull := pull } }))) ∧
        (seq.toNat < own ∨ own < seq.toNat ∧ (∀ y ∈ s.acct.queue, y.seq ≠ seq.toNat) →
          exec (.sheet src seq 1 total word 0 false) s = .next (writeRecord (.missing own .setStrayed)
            (assembling { one with binding := .stray (some seq.toNat), acct := none, marks := head })))) ∧
      (quality ≠ 0 → exec (.sheet src seq page total word quality false) s = .next (writeRecord (.missing own .setStrayed)
        (assembling { first with
          binding := .stray none, acct := none, marks := if .noRead ∈ head then head else head ++ [.noRead]
          sheets := [Sheet.mk none false] })))) ∧
    (∀ y own, y.binding = .account own → y.finish.isSome = true →
      let late := fun (entry : Sheet) (more : Word16) (marks : List Reason) => { y with
        sheets := if y.sheets.length < 24 then y.sheets ++ [entry] else y.sheets
        extraSheets := if y.sheets.length < 24 then y.extraSheets else if y.extraSheets < 255 then y.extraSheets + 1 else y.extraSheets
        balance := y.balance ^^^ more, marks := if double then addMark .doubleSheet marks else marks }
      let good := late (Sheet.mk (some (page.toNat, total.toNat, word)) double) word y.marks
      let unread := late (Sheet.mk none double) 0 (addMark .noRead y.marks)
      let read := 1 ≤ page.toNat ∧ page.toNat ≤ 24 ∧ 1 ≤ total.toNat ∧ total.toNat ≤ 24 ∧ 1 ≤ seq.toNat ∧ seq.toNat = own
      (s.stage.assembly = some y →
        (read → exec (.sheet src seq page total word 0 double) s = .next (assembling good)) ∧
        (quality ≠ 0 → exec (.sheet src seq page total word quality double) s = .next (assembling unread))) ∧
      (s.stage.assembly = none → s.stage.ready = some y →
        let ready := fun x : SetRec => { s with stage := { s.stage with ready := some x } }
        (read → exec (.sheet src seq page total word 0 double) s = .next (ready good)) ∧
        (quality ≠ 0 → exec (.sheet src seq page total word quality double) s = .next (ready unread))))

/-- A DONE that answers what its station's record awaits (R95, R96). The awaited field becomes none and the result is handed on:
the divert gate's and the sorter's confirm, the envelope station's makes the set inserted or held, the caliper's thickness is
judged against the expected thickness and the captured tolerance (R126), a feeder's FED, MISS or DOUBLE joins the plan, with its
mark, and counts its misses (R118). Inside the window the station's count returns to 0; outside it STATION TIMING marks a set
below D (R103) and the count increases, the third raising STATION TIMING with the station's address and returning it to 0 (R99),
or, at a feeder, making it FAULTED if READY or EMPTY (R119), as its misses do at the working limit. The order of the two marks of
one report is the model's (log 16). -/
def Obligations.MatchedDoneReportsAreTaken : Prop :=
  ∀ (src pocket subtype result bin : Byte) (thickness : Word16) (n : NodeEntry) (r : Role) (rec_ : PocketRec) (a : Awaited)
    (o c : Nat) (s : State),
    Reports 0x11 src n r s → s.track.positions = true → s.track.recs[n.position]? = some rec_ → rec_.awaited = some a →
    a.role = r → a.feeder = n.feeder → a.subtype = subtype.toNat → rec_.pocket = some pocket.toNat → a.window = some (o, c) →
    (subtype.toNat = 10 → rec_.exitDecision.map decisionBin = some bin.toNat) →
    let did := exec (.done src pocket subtype result thickness bin) s
    let inside := decide (o ≤ phaseNow s ∧ phaseNow s ≤ c)
    let mark := fun (asked : Bool) (why : Reason) (q : PocketRec) =>
      if asked && belowGate n.position s then { q with content := q.content.map fun x => { x with marks := addMark why x.marks } }
      else q
    let put := fun q : PocketRec =>
      { s with track := { s.track with recs := s.track.recs.set n.position (mark (!inside) .stationTiming q) } }
    let seen := { rec_ with awaited := none }
    let station := fun q : PocketRec =>
      (inside = true → did = .next (putCount r 0 (put q))) ∧
      (inside = false → stationCount r s.track < 2 → did = .next (putCount r (stationCount r s.track + 1) (put q))) ∧
      (inside = false → stationCount r s.track = 2 → DriveFollowsLine s → ∃ t, did = .next t ∧ stationCount r t.track = 0 ∧
        t.track.recs = (if driveState s.line.state then (suspectTrack (put q)).track.recs else (put q).track.recs) ∧
        latch .stationTiming t = { (latch .stationTiming s).raised 1 (addrOf r s) with state := .latched } ∧
        t.line.state = (if driveState s.line.state then .recovery else s.line.state))
    (r = .envStation → station { seen with stationPart := if subtype.toNat = 5 then .inserted else .held }) ∧
    (r = .divertGate → station { seen with gateConfirmed := true }) ∧
    (r = .sorter → station { seen with binConfirmed := true }) ∧
    (r = .caliper → ∀ x e cap, rec_.content = some x → rec_.expected = some e → x.captured = some cap →
      let good := decide (e - cap.tolerance ≤ thickness.toNat ∧ thickness.toNat ≤ e + cap.tolerance)
      station (mark (!good) .thickness { seen with caliper := some thickness.toNat })) ∧
    (r = .insertFeeder → 1 ≤ n.feeder → n.feeder ≤ 12 → ∀ w, s.tables.work = some w →
      let f := feederRec n.feeder s
      let fed := decide (result.toNat = 1)
      let double := decide (result.toNat = 3)
      let res : PlanResult := if fed then .fed else if double then .double else .miss
      let q := mark (!fed) (if double then .insertDouble else .insertMiss)
        { seen with plan := rec_.plan.map fun e => if e.feeder = n.feeder then { e with result := res } else e }
      let misses := if fed then 0 else if f.misses < 7 then f.misses + 1 else f.misses
      let timing := if inside then 0 else if f.timing < 3 then f.timing + 1 else f.timing
      let trips := (f.state = .ready ∨ f.state = .empty) ∧
        (fed = false ∧ w.missLimit ≤ misses ∨ inside = false ∧ timing = 3)
      let counted := { f with misses := misses, timing := timing }
      (¬trips → did = .next { put q with
        feeders := { s.feeders with recs := vset s.feeders.recs (n.feeder - 1) counted } }) ∧
      (trips → ∃ t, did = .next t ∧ t.track = (put q).track ∧ feederRec n.feeder t = { counted with state := .faulted } ∧
        (∀ k, 1 ≤ k → k ≠ n.feeder → feederRec k t = feederRec k s) ∧
        latch .feederFault t = (latch .feederFault s).raised 2 n.feeder ∧ t.stage = s.stage ∧ t.presort = s.presort ∧
        t.tables = s.tables ∧ t.outcomes = s.outcomes))

/-- An ENVREAD for the set pocket at E-1 that awaits the reader hands its key to the envelope check (R97, R123): of a set that
needs no match the read part is NOT REQUIRED; of one that does, the set's envelope key gives MATCHED, another key MISMATCH with
ENV MISMATCH, a no-read NOREAD with ENV NO READ. One for the EMPTY pocket at E-1 is discarded without counting, after a run clear
too (the model's choice, log 43); any other that does not match, and every one while the Track Unit has no positions (R92), is
stale (R97). -/
def Obligations.EnvreadsAreMatchedAtTheReader : Prop :=
  ∀ (src pocket noRead : Byte) (key : BitVec 32) (n : NodeEntry) (r : Role) (rec_ : PocketRec) (s : State),
    Reports 0x12 src n r s → s.track.recs[n.position]? = some rec_ →
    (s.track.positions = false → exec (.envread src pocket key noRead) s = .next (bumpRun 27 s)) ∧
    (s.track.positions = true →
      (∀ (x : SetRec) (a : Awaited), rec_.content = some x → rec_.awaited = some a → a.role = .envReader →
        rec_.pocket = some pocket.toNat →
        let put := fun (part : ReadPart) (marks : List Reason) =>
          (.next { s with track := { s.track with recs := s.track.recs.set n.position { rec_ with
            awaited := none, readPart := part, content := some { x with marks := marks } } } } : Host.Outcome State Fault Refusal)
        ((∀ f, x.acct = some f → f.matchReq = false) → exec (.envread src pocket key noRead) s = put .notRequired x.marks) ∧
        (∀ f, x.acct = some f → f.matchReq = true →
          (noRead = 0 → f.envKey = some key.toNat → exec (.envread src pocket key noRead) s = put .matched x.marks) ∧
          (noRead = 0 → f.envKey ≠ some key.toNat → belowGate n.position s = true →
            exec (.envread src pocket key noRead) s = put .mismatch (addMark .envMismatch x.marks)) ∧
          (noRead ≠ 0 → belowGate n.position s = true →
            exec (.envread src pocket key noRead) s = put .noread (addMark .envNoRead x.marks)))) ∧
      (rec_.pocket = some pocket.toNat → rec_.content = none → exec (.envread src pocket key noRead) s = .next s) ∧
      (rec_.pocket ≠ some pocket.toNat ∨ rec_.content.isSome = true ∧ (∀ a, rec_.awaited = some a → a.role ≠ .envReader) →
        exec (.envread src pocket key noRead) s = .next (bumpRun 27 s)))

/-- An accepted STATUS is recorded as its node's last status (R23). A JAM, or a FAULT from a node that is no feeder, from a node
not in the jammed set adds it and raises JAM with its address as source, which takes a line in a drive state to RECOVERY (R155,
R156); from one in the set it does no more. A READY removes its node from the set, and JAM is lowered when the set becomes empty;
a READY of the sheet station lowers COLLATION OVERRUN (R156). In WAIT, the READY after which no recovery condition is up starts
the full hold afresh (R158). At the sorter a JAM with detail bit 0 makes the overflow bin reported full, and a READY then empties
it, jammed or not (R141); all of a READY's effects stand together in one clause, for every role but a feeder's, jammed or not, in
WAIT or not. What a feeder's STATUS does to its feeder: FeedersFollowTheirReports. -/
def Obligations.StatusReportsAreRecorded : Prop :=
  ∀ (src detail : Byte) (st : StationState) (n : NodeEntry) (r : Role) (i : Nat) (s : State),
    Reports 0x13 src n r s → ((nodesOf s).findIdx? fun e => e.addr == src.toNat) = some i →
    let noted := { s with loop := { s.loop with nodeRecs := s.loop.nodeRecs.modify i fun e => { e with status := some (st, detail) } } }
    let full := { s.presort with reportedFull := true }
    let asked := st = .jam ∨ st = .fault ∧ r ≠ .insertFeeder
    let left := s.line.jammed.filter (· != src.toNat)
    let fewer := { noted with line := { s.line with jammed := left } }
    (st = .empty → r ≠ .insertFeeder → exec (.status src st detail) s = .next noted) ∧
    (asked → src.toNat ∈ s.line.jammed → exec (.status src st detail) s = .next
      (if r = .sorter ∧ st = .jam ∧ detail.getLsbD 0 = true then { noted with presort := full } else noted)) ∧
    (asked → src.toNat ∉ s.line.jammed → ∃ t, exec (.status src st detail) s = .next t ∧
      t.loop.nodeRecs = noted.loop.nodeRecs ∧ t.line.jammed = s.line.jammed ++ [src.toNat] ∧
      latch .jam t = (latch .jam s).raised 1 src.toNat ∧
      t.line.state = (if driveState s.line.state then .recovery else s.line.state) ∧
      t.presort = (if r = .sorter ∧ st = .jam ∧ detail.getLsbD 0 = true then full else s.presort) ∧ t.tables = s.tables ∧
      t.acct.queue = s.acct.queue ∧ t.feeders = s.feeders ∧ t.outcomes = s.outcomes) ∧
    (st = .ready → r ≠ .insertFeeder →
      let removed := if src.toNat ∈ s.line.jammed then (if left = [] then lower .jam fewer else fewer) else noted
      let lowered := if r = .sheetStation then lower .collationOverrun removed else removed
      let emptied := if r = .sorter ∧ s.presort.reportedFull = true then
          { lowered with presort := { s.presort with reportedFull := false, overflow := 0 } } else lowered
      exec (.status src st detail) s = .next
        (if emptied.line.phase = .wait ∧ recoveryCondition s = true ∧ recoveryCondition emptied = false then
          { emptied with line := { emptied.line with phase := .hold, holdLeft := fullHold s } } else emptied)) ∧
    (st = .ready → r ≠ .insertFeeder →
      (src.toNat ∉ s.line.jammed → r ≠ .sheetStation → exec (.status src st detail) s = .next
        (if r = .sorter ∧ s.presort.reportedFull = true then
          { noted with presort := { s.presort with reportedFull := false, overflow := 0 } } else noted)) ∧
      (src.toNat ∉ s.line.jammed → r = .sheetStation → s.line.phase ≠ .wait →
        exec (.status src st detail) s = .next (lower .collationOverrun noted)) ∧
      (src.toNat ∈ s.line.jammed → r ≠ .sheetStation → r ≠ .sorter →
        (left ≠ [] → exec (.status src st detail) s = .next fewer) ∧
        (left = [] → s.line.phase ≠ .wait → exec (.status src st detail) s = .next (lower .jam fewer)) ∧
        (left = [] → s.line.phase = .wait → recoveryCondition s = true → recoveryCondition (lower .jam fewer) = true →
          exec (.status src st detail) s = .next (lower .jam fewer)) ∧
        (left = [] → s.line.phase = .wait → recoveryCondition s = true → recoveryCondition (lower .jam fewer) = false →
          exec (.status src st detail) s = .next { lower .jam fewer with
            line := { (lower .jam fewer).line with phase := .hold, holdLeft := fullHold s } })))

/-- A feeder's STATUS moves it by the table of R111; a node lost makes its feeder LOST with its counts kept, and one seen again
makes a LOST feeder FAULTED (R112). Becoming FAULTED raises FEEDER FAULT with the feeder as source (R115). In the same event the
standing of each essential pair is evaluated afresh: none without a member, COVERED with a READY one, ALL EMPTY, else LOST (R121).
A pair that becomes LOST raises ESSENTIAL LOST once, its source the lowest member of the lowest such pair that is neither READY
nor EMPTY, which sends PRIMING and RUNNING, and RECOVERY with drain-pending no, to LOCKOUT; with no pair LOST it is lowered
(R122). -/
def Obligations.FeedersFollowTheirReports : Prop :=
  let members := fun (n : Nat) (t : State) =>
    if t.tables.work.isSome then ((List.range 12).map (· + 1)).filter fun k => (feederJob k t).pair = n else []
  let standing := fun (n : Nat) (t : State) =>
    if members n t = [] then Standing.none
    else if ∃ k ∈ members n t, (feederRec k t).state = .ready then .covered
    else if ∀ k ∈ members n t, (feederRec k t).state = .empty then .allEmpty
    else .lost
  let judged := fun t : State => ∀ n, 1 ≤ n → n ≤ 6 → vget t.feeders.pairs (n - 1) = standing n t
  let others := fun (k : Nat) (s t : State) => (∀ j, 1 ≤ j → j ≠ k → feederRec j t = feederRec j s) ∧ t.tables = s.tables ∧
    t.stage = s.stage ∧ t.track = s.track ∧ t.presort = s.presort ∧ t.outcomes = s.outcomes
  (∀ (src detail : Byte) (st : StationState) (n : NodeEntry) (i : Nat) (s : State), Reports 0x13 src n .insertFeeder s →
    ((nodesOf s).findIdx? fun e => e.addr == src.toNat) = some i → 1 ≤ n.feeder → n.feeder ≤ 12 → st ≠ .jam →
    src.toNat ∉ s.line.jammed →
    let noted := { s with loop := { s.loop with nodeRecs := s.loop.nodeRecs.modify i fun e => { e with status := some (st, detail) } } }
    let f := feederRec n.feeder s
    let rows : List (StationState × FeederState × FeederState) := [(.ready, .empty, .ready), (.empty, .ready, .empty),
      (.fault, .ready, .faulted), (.fault, .empty, .faulted), (.fault, .disabled, .faulted), (.fault, .lost, .faulted)]
    (∀ new, (st, f.state, new) ∈ rows → ∃ t, exec (.status src st detail) s = .next t ∧ t.loop.nodeRecs = noted.loop.nodeRecs ∧
      feederRec n.feeder t = { f with state := new } ∧ judged t ∧ others n.feeder s t ∧
      (new = .faulted → latch .feederFault t = (latch .feederFault s).raised 2 n.feeder)) ∧
    ((∀ new, (st, f.state, new) ∉ rows) → exec (.status src st detail) s = .next noted)) ∧
  (∀ (k : Nat) (s : State), 1 ≤ k → k ≤ 12 →
    ((feederRec k s).state ≠ .none → let t := feederNodeLost k s
      feederRec k t = { feederRec k s with state := .lost } ∧ judged t ∧ others k s t) ∧
    ((feederRec k s).state = .lost → let t := feederNodeSeen k s
      feederRec k t = { feederRec k s with state := .faulted } ∧ judged t ∧ others k s t ∧
      latch .feederFault t = (latch .feederFault s).raised 2 k) ∧
    ((feederRec k s).state ≠ .lost → feederNodeSeen k s = s)) ∧
  (∀ s : State, let t := evalPairs s
    judged t ∧ t.feeders.recs = s.feeders.recs ∧ others 0 s t ∧
    (∀ n, 1 ≤ n → n ≤ 6 → standing n s = .lost → vget s.feeders.pairs (n - 1) ≠ .lost →
      (∀ j, 1 ≤ j → j < n → standing j s = .lost → vget s.feeders.pairs (j - 1) = .lost) →
      (∀ m, m ∈ members n s → (feederRec m s).state ≠ .ready → (feederRec m s).state ≠ .empty →
        (∀ j ∈ members n s, j < m → (feederRec j s).state = .ready ∨ (feederRec j s).state = .empty) →
        latch .essentialLost t = (latch .essentialLost s).raised 2 m) ∧
      t.line.state = (if s.line.state = .priming ∨ s.line.state = .running ∨
        s.line.state = .recovery ∧ s.line.drainPending = false then .lockout else s.line.state)) ∧
    ((∀ n, 1 ≤ n → n ≤ 6 → standing n s = .lost → vget s.feeders.pairs (n - 1) = .lost) →
      let evaluated := { s with feeders := { s.feeders with pairs := Vector.ofFn fun i => standing (i.val + 1) s } }
      t = if [1, 2, 3, 4, 5, 6].any fun n => decide (standing n s = .lost) then evaluated else lower .essentialLost evaluated))

/-- The sorter's bin reports, by the state of the bin (R137, R138), for a bin whose group is no EXHAUSTED LOOP group: a FULL or
OPEN bin that is emptied becomes READY, a bin taken offline OFFLINE, an OFFLINE bin put online READY, each with count 0, tray
number 0 and seqs 0; an OPEN bin's tray is first closed FORCED with a TRAY record; in every other state nothing changes. A report
whose bin is not 1 to 16, or whose code is not 1, 2 or 3, is only counted as stale (R139). A bin that becomes READY returns its
EXHAUSTED LOOP group to ACTIVE at the bin's own place (R140). -/
def Obligations.BinReportsMoveTheBin : Prop :=
  (∀ (src bin : Byte) (n : NodeEntry) (r : Role) (s : State), Reports 0x14 src n r s → 1 ≤ bin.toNat → bin.toNat ≤ 16 →
      (∀ g, ownerOf bin.toNat s = some g → ¬((groupRec g s).mode = .loop ∧ (groupRec g s).state = .exhausted)) →
      let b := binRec bin.toNat s
      let become := fun st : BinState => { s with presort := { s.presort with
        bins := vset s.presort.bins (bin.toNat - 1) { state := st, count := 0, tray := 0, firstSeq := 0, lastSeq := 0 } } }
      let tray := Record.tray ((ownerOf bin.toNat s).getD 0) .forced bin.toNat b.tray b.count b.firstSeq b.lastSeq
      (b.state = .ready → exec (.binEmptied src bin) s = .next s ∧ exec (.binOffline src bin) s = .next (become .offline) ∧
        exec (.binOnline src bin) s = .next s) ∧
      (b.state = .opened → exec (.binEmptied src bin) s = .next (writeRecord tray (become .ready)) ∧
        exec (.binOffline src bin) s = .next (writeRecord tray (become .offline)) ∧ exec (.binOnline src bin) s = .next s) ∧
      (b.state = .full → exec (.binEmptied src bin) s = .next (become .ready) ∧
        exec (.binOffline src bin) s = .next (become .offline) ∧ exec (.binOnline src bin) s = .next s) ∧
      (b.state = .offline → exec (.binEmptied src bin) s = .next s ∧ exec (.binOffline src bin) s = .next s ∧
        exec (.binOnline src bin) s = .next (become .ready))) ∧
  (∀ (src bin : Byte) (n : NodeEntry) (r : Role) (s : State), Reports 0x14 src n r s →
      (¬(1 ≤ bin.toNat ∧ bin.toNat ≤ 16) → exec (.binEmptied src bin) s = .next (bumpRun 31 s) ∧
        exec (.binOffline src bin) s = .next (bumpRun 31 s) ∧ exec (.binOnline src bin) s = .next (bumpRun 31 s)) ∧
      (∀ code : Byte, ¬(1 ≤ code.toNat ∧ code.toNat ≤ 3) → exec (.unknownBinReport src code bin) s = .next (bumpRun 31 s)) ∧
      (∀ g, 1 ≤ bin.toNat → bin.toNat ≤ 16 → ownerOf bin.toNat s = some g → (groupRec g s).mode = .loop →
        (groupRec g s).state = .exhausted → (binRec bin.toNat s).state = .full →
        ∃ t, exec (.binEmptied src bin) s = .next t ∧ binRec bin.toNat t = BinRec.emptyReady ∧
          groupRec g t = { groupRec g s with state := .active, index := (groupRec g s).rotation.idxOf bin.toNat } ∧
          (∀ h, h ≠ g → groupRec h t = groupRec h s) ∧ t.pitch = s.pitch ∧ t.tables = s.tables ∧ t.stage = s.stage ∧
          t.track = s.track ∧ t.outcomes = s.outcomes ∧ t.line.state = s.line.state))

/-! ### Management requests and the tables -/

/-- A management cell joins the input queue, or finds 8 cells there and is a management overrun (R25). The dispatcher, while idle,
takes the oldest cell as a request of its kind; with no such cell a request command changes nothing (the model's choice, log 9). A
request whose source is not admitted is answered NOT MANAGER and has no other effect; the sources admitted are those of R26. A
reply that finds LOOP_OUT sending idle fill is taken at once (the model's choice, log 11), and what finds no room waits at the
dispatcher (log 10). -/
def Obligations.RequestsQueueAndAreAdmitted : Prop :=
  ∀ s : State, s.pins.resetN = true →
    (∀ c : Cell, c.wf = true → c.dest = 0 → c.src ≠ 0 → isMgmtKind c.kind = true →
      (s.loop.mgmtIn.length < 8 → exec (.managementCellArrival c) s = .next { s with
        loop := { s.loop with mgmtIn := s.loop.mgmtIn ++ [c] } }) ∧
      (8 ≤ s.loop.mgmtIn.length → exec (.managementCellArrival c) s = .next (bumpLoop 8 s))) ∧
    (∀ kind i, (kind, i) ∈ requestRows →
      ((∀ c, s.loop.mgmtIn.head? = some c → kindCode c.kind ≠ kind ∨ s.loop.dispatcher ≠ Dispatcher.idle) →
        exec i s = .next s) ∧
      (∀ c, s.loop.mgmtIn.head? = some c → kindCode c.kind = kind → s.loop.dispatcher = Dispatcher.idle → admitted c s = false →
        exec i s = .next (replied c .notManager [] { s with loop := { s.loop with mgmtIn := s.loop.mgmtIn.tail } }))) ∧
    (∀ c : Cell,
      (s.tables.node.state ≠ .valid → admitted c s = true) ∧
      (s.tables.node.state = .valid → (admitted c s = true ↔ ∃ n, nodeAt c.src.toNat s = some n ∧
        (n.role = some .lineComputer ∨
          n.role = some .panel ∧ kindCode c.kind ∈ [0x32, 0x3B, 0x3C, 0x3D, 0x3E, 0x3F, 0x42]))))

/-- LOAD (R36): ARG for a table or an index that does not exist, PROTECTED outside the load window, else one entry is written,
read back as sent, and the load count rises. The first LOAD of a table in EMPTY, VALID or BAD first makes it LOADING with zero
entries; the other tables' contents stay; that its last failure code and failing index are kept while it is loaded again is the
model's choice (log 20); a job table that leaves use takes the working and the staged values with it. What else leaves use then:
with the line profile the pocket counter (0 and invalid, which is reported), the pending index, the search count and the track's
records (R1, R92); with the node table the node records, the jammed and station-loss sets, JAM and NODE LOST, the track's
positions and awaited reports, and every feeder, so that FEEDER FAULT is lowered and a pair with members stands LOST (R23, R92,
R110, R121, R156); with the group table every group, UNUSED with its tray counter kept, and GROUP EXHAUSTED (R129; the index, mode
and action it then shows are the model's, log 20); with the job table every pair (R121); with the bin table no bin changes, but no
capacity is read until the next commit (R130). The load windows are those of R45. -/
def Obligations.LoadWritesOneEntry : Prop :=
  (∀ (t : TableId) (s : State), inWindow t s = true ↔
    (t ∈ [TableId.lineProfile, .nodeTable, .defectList] ∧ s.line.state = .halted) ∨
    (t = .jobTable ∧ (s.line.state = .halted ∨ s.line.state = .paused)) ∨
    (t ∈ [TableId.scheme, .groupTable, .binTable] ∧ (s.line.state = .halted ∨ s.line.state = .paused) ∧
      ∀ b, 1 ≤ b → b ≤ 16 → (binRec b s).state ≠ .opened)) ∧
  (∀ (m : List (Nat × List Byte)) (i j : Nat) (e : List Byte), Memory.wf m →
    entRead (entWrite m i e) j = if j = i then e else entRead m j) ∧
  ∀ (c : Cell) (s : State), Takes 0x30 c s →
    let f := loadForm c
    (tableOfNumber f.table = none → exec .load s = .next (replied c .arg [] (handed c s))) ∧
    ∀ t, tableOfNumber f.table = some t →
      let x := s.tables.get t
      (tableSize t ≤ f.index → exec .load s = .next (replied c .arg [] (handed c s))) ∧
      (f.index < tableSize t → inWindow t s = false → exec .load s = .next (replied c .protected_ [] (handed c s))) ∧
      (f.index < tableSize t → inWindow t s = true → x.state = .loading → x.loadCount < 65535 →
        exec .load s = .next (replied c .accepted (beBytes 1 2 ++ beBytes 2 (x.loadCount + 1) ++ [0]) { handed c s with
          tables := s.tables.put t { x with
            entries := entWrite x.entries f.index f.entry, loadCount := x.loadCount + 1 } })) ∧
      (f.index < tableSize t → inWindow t s = true → x.state ≠ .loading →
        ∃ v, exec .load s = .next (replied c .accepted
            (beBytes 1 2 ++ beBytes 2 1 ++ beBytes 1 (if t = .jobTable then s.tables.staged.count else 0)) v) ∧
          v.tables.get t = { x with
            state := .loading, entries := entWrite [] f.index f.entry, loadCount := 1, count := 0, checksum := 0 } ∧
          (∀ u, u ≠ t → v.tables.get u = s.tables.get u) ∧
          (t = .jobTable → v.tables.work = none ∧ v.tables.staged = Staged.none ∧
            (∀ p, p < 6 → vget v.feeders.pairs p = .none) ∧ up .essentialLost v = false) ∧
          (t = .lineProfile →
            v.pitch = { s.pitch with counter := 0, counterValid := false, indexPending := false, searchCount := 0 } ∧
            v.line = { s.line with counterValid := false } ∧ v.track = { s.track with recs := [] }) ∧
          (t = .nodeTable → v.loop.nodeRecs = [] ∧ v.line.jammed = [] ∧ v.line.stationLoss = [] ∧ up .jam v = false ∧
            up .nodeLost v = false ∧ up .feederFault v = false ∧
            v.track = { s.track with positions := false, recs := s.track.recs.map fun r => { r with awaited := none } } ∧
            (∀ k, 1 ≤ k → k ≤ 12 → feederRec k v = { state := .none, misses := 0, timing := 0 }) ∧
            (∀ p, p < 6 → vget v.feeders.pairs p =
              if s.tables.work.isSome && ((List.range 12).map (· + 1)).any (fun k => (feederJob k s).pair == p + 1) then .lost else .none)) ∧
          (t = .groupTable → up .groupExhausted v = false ∧ v.presort.bins = s.presort.bins ∧
            v.presort.overflow = s.presort.overflow ∧ v.presort.reportedFull = s.presort.reportedFull ∧
            (∀ g, g < 64 → groupRec g v =
              { rotation := [], mode := .single, action := .overflow, index := 0, state := .unused, tray := (groupRec g s).tray })) ∧
          (t = .binTable → (∀ b, capacityOf b v = 0) ∧ warningLevel v = 0) ∧
          (t ∈ [TableId.defectList, .scheme, .binTable] → v.line = s.line) ∧
          (t ≠ .lineProfile → v.pitch = s.pitch) ∧ (t ≠ .groupTable → v.presort = s.presort) ∧
          (t ≠ .lineProfile → t ≠ .nodeTable → v.track = s.track) ∧
          (t ≠ .nodeTable → t ≠ .jobTable → v.feeders = s.feeders) ∧ (t ≠ .nodeTable → v.loop.nodeRecs = s.loop.nodeRecs) ∧
          (t ≠ .jobTable → v.tables.work = s.tables.work ∧ v.tables.staged = s.tables.staged) ∧
          v.tables.hold = s.tables.hold ∧ v.tables.settling = s.tables.settling ∧ v.tables.pull = s.tables.pull ∧
          v.acct.queue = s.acct.queue ∧ v.stage = s.stage ∧ v.outcomes = s.outcomes ∧ v.loop.mgmtIn = s.loop.mgmtIn.tail)

/-- COMMIT (R37 to R40): ARG, PROTECTED or STATE by the first check that fails; a checksum that differs leaves the table BAD with
code 1 and raises TABLE BAD with the table as source; a node table whose entries do not keep its sender as LINE COMPUTER stays
LOADING with code 10; a structural failure leaves it BAD with that code and index (StructuralChecksFindTheFirstFailure); otherwise
it is VALID with its count and checksum, and comes into use: a job table sets every working value, the last applied fold and, when
a fold or envelope class differs from an earlier one, the settling counter to 2 (R43, R47, R51); a line profile makes TRACK_LEN
empty records with no pocket number (R92); a node table its node records afresh, no last manager, and its feeders READY with no
counts (R23, R30, R110); a group table its groups, ACTIVE with their rotation, mode and action at index 0, or UNUSED with no bins,
their tray counters kept, and GROUP EXHAUSTED is lowered (R129); a bin table its capacities and warning level, no bin changing
(R130, R136). -/
def Obligations.CommitJudgesATable : Prop :=
  ∀ (c : Cell) (s : State), Takes 0x31 c s →
    let f := commitForm c
    (tableOfNumber f.table = none → exec .commit s = .next (replied c .arg [] (handed c s))) ∧
    ∀ t, tableOfNumber f.table = some t →
      let x := s.tables.get t
      let sum := checksumOf t x.entries f.count
      let es := (List.range f.count).map (entRead x.entries)
      let data := fun (st code index : Nat) => beBytes 1 st ++ beBytes 1 code ++ beBytes 2 sum ++ beBytes 2 index
      let judged := f.count ≤ tableSize t ∧ inWindow t s = true ∧ x.state = .loading
      let job := fun w : Working =>
        let e := es.headD zeroEntry
        w.tolerance = entNum e 0 2 ∧ w.sheetCaliper = entNum e 2 2 ∧ w.envCaliper = entNum e 4 2 ∧ w.fold = entByte e 6 / 16 ∧
        w.envClass = entByte e 6 % 16 ∧ w.missLimit = entByte e 7 ∧ w.maxSheets = entByte e 8 ∧ w.deadline = entNum e 9 2 ∧
        ∀ k, 1 ≤ k → k ≤ 12 → vget w.feeders (k - 1) = (match es[k]? with
          | some e => { caliper := entNum e 0 2, alternate := entByte e 2, pair := entByte e 3 }
          | none => { caliper := 0, alternate := 0, pair := 0 })
      let bad := fun (code index : Nat) => replied c .accepted (data 4 code index)
        (raise .tableBad 5 (tableNumber t) { handed c s with
          tables := s.tables.put t { x with state := .bad, failCode := code, failIndex := index } })
      (tableSize t < f.count → exec .commit s = .next (replied c .arg [] (handed c s))) ∧
      (f.count ≤ tableSize t → inWindow t s = false →
        exec .commit s = .next (replied c .protected_ (beBytes 1 (tableStateCode x.state)) (handed c s))) ∧
      (f.count ≤ tableSize t → inWindow t s = true → x.state ≠ .loading →
        exec .commit s = .next (replied c .state (beBytes 1 (tableStateCode x.state)) (handed c s))) ∧
      (judged → sum ≠ f.checksum → exec .commit s = .next (bad 1 65535)) ∧
      (judged → sum = f.checksum → t = .nodeTable →
        (∀ n ∈ es.map nodeOfEntry, ¬(n.addr = c.src.toNat ∧ n.role = some .lineComputer)) →
        exec .commit s = .next (replied c .protected_ (data 2 10 65535) { handed c s with
          tables := s.tables.put t { x with failCode := 10, failIndex := 65535 } })) ∧
      (judged → sum = f.checksum → (t = .nodeTable → ∃ n ∈ es.map nodeOfEntry, n.addr = c.src.toNat ∧ n.role = some .lineComputer) →
        (∀ code index, structural t es s = some (code, index) → exec .commit s = .next (bad code index)) ∧
        (structural t es s = none → ∃ v, exec .commit s = .next (replied c .accepted (data 3 0 65535) v) ∧
          v.tables.get t = { x with state := .valid, count := f.count, checksum := sum, failCode := 0, failIndex := 65535 } ∧
          (∀ u, u ≠ t → v.tables.get u = s.tables.get u) ∧
          (t ≠ .jobTable → v.tables.work = s.tables.work ∧ v.tables.lastFold = s.tables.lastFold ∧
            v.tables.settling = s.tables.settling) ∧
          (t = .jobTable → ∃ w, v.tables.work = some w ∧ job w ∧ v.tables.lastFold = some (w.fold, w.envClass) ∧
            v.tables.settling = (if s.tables.lastFold = none ∨ s.tables.lastFold = some (w.fold, w.envClass) then
              s.tables.settling else 2)) ∧
          (t = .lineProfile → v.track.recs.length = (profileOfEntry (es.headD zeroEntry)).trackLen ∧ ∀ r ∈ v.track.recs, r = {
            pocket := none, content := none, plan := [], readPart := .none, stationPart := .none, caliper := none, expected := none
            awaited := none, gateOrder := .none, gateConfirmed := false, exitDecision := none, binConfirmed := false }) ∧
          (t = .nodeTable → v.loop.nodeRecs = List.replicate f.count { absent := 0, lost := false, status := none } ∧
            v.loop.lastManager = none ∧ ∀ k, 1 ≤ k → k ≤ 12 → feederRec k v = {
              state := if (es.map nodeOfEntry).any fun n => n.role == some .insertFeeder && n.feeder == k then .ready else .none
              misses := 0, timing := 0 }) ∧
          (t = .groupTable → up .groupExhausted v = false ∧ v.presort.bins = s.presort.bins ∧
            v.presort.overflow = s.presort.overflow ∧ ∀ g, g < 64 → groupRec g v = (match es[g]? with
              | some e =>
                let p := groupOfEntry e
                { rotation := p.bins, mode := if p.mode = 2 then .loop else .single
                  action := if p.action = 2 then .stop else .overflow, index := 0
                  state := if p.bins = [] then .unused else .active, tray := (groupRec g s).tray }
              | none => { rotation := [], mode := .single, action := .overflow, index := 0, state := .unused
                          tray := (groupRec g s).tray })) ∧
          (t = .binTable → warningLevel v = entNum (entRead x.entries 0) 0 2 ∧
            ∀ b, 1 ≤ b → b ≤ 16 → capacityOf b v = entNum (entRead x.entries b) 0 2) ∧
          (t ≠ .groupTable → v.presort = s.presort) ∧ (t ≠ .lineProfile → v.track = s.track) ∧
          (t ≠ .nodeTable → t ≠ .jobTable → v.feeders = s.feeders) ∧ v.pitch = s.pitch ∧
          v.tables.staged = s.tables.staged ∧ v.tables.hold = s.tables.hold ∧ v.tables.pull = s.tables.pull ∧
          v.acct.queue = s.acct.queue ∧ v.stage = s.stage ∧ v.outcomes = s.outcomes ∧
          (allTables.all (fun u => (v.tables.get u).state != .bad) = true → up .tableBad v = false)))

/-- The structural checks of a commit (R39, R41 to R44): of all failures the one of the lowest code is reported, and within a code
that of the lowest index, 65,535 standing for the table as a whole; no failure at all makes the table good. The failures: of the
line profile, its count, its ranges, and disagreement with a VALID node table or defect list (R41); of the node table, its count,
ranges, an address or, among feeders, a number or position shared with an earlier entry, the role counts, the position order,
disagreement with a VALID line profile (R42); of the job table, its count, ranges, and alternates that name themselves or are
chained beyond a pair (R43); of the defect list, a pocket named before, or beyond POCKETS (R41); of the scheme, ranges, and
overlap with an earlier entry of one digit length; of the group table, ranges and a bin listed before; of the bin table, its count
and capacities (R44). The later of two entries is the one reported wherever a duplicate is found (R44; for the node table and the
defect list the model's reading, log 17). -/
def Obligations.StructuralChecksFindTheFirstFailure : Prop :=
  ∀ (t : TableId) (es : List (List Byte)) (s : State),
    let at' := fun (i : Nat) (p : List Byte → Prop) => ∃ e, es[i]? = some e ∧ p e
    let pair := fun (i : Nat) (p : List Byte → List Byte → Prop) => ∃ j a b, j < i ∧ es[j]? = some a ∧ es[i]? = some b ∧ p a b
    let within := fun (lo hi n : Nat) => lo ≤ n ∧ n ≤ hi
    let role := fun (n : NodeEntry) (l : List Role) => ∃ r ∈ l, n.role = some r
    let windows := [Role.insertFeeder, .envStation, .caliper, .divertGate, .sorter]
    let fits := fun (p : Profile) (n : NodeEntry) =>
      (n.role = some .sorter → n.position + 1 = p.trackLen) ∧ n.windowClose ≤ p.phases - 1
    let whole := fun i : Nat => i = 65535
    let count := fun r : Role => (es.map nodeOfEntry).countP fun n => n.role == some r
    let fails : Nat → Nat → Prop := fun code i => match t, code with
      | .lineProfile, 2 => whole i ∧ es.length ≠ 1
      | .lineProfile, 3 => at' i fun e => let p := profileOfEntry e
          ¬(within 20 120 p.pockets ∧ within 8 64 p.trackLen ∧ p.trackLen ≤ p.pockets ∧ within 64 1024 p.phases ∧
            within 1 65534 p.periodLo ∧ within (p.periodLo + 1) 65535 p.periodHi ∧ within 1 600 p.hold ∧ p.retryLimit ≤ 7)
      | .lineProfile, 7 => whole i ∧ let p := profileOfEntry (es.headD zeroEntry)
          ¬((∀ n ∈ nodesOf s, fits p n) ∧ ∀ d ∈ defectPockets s, d < p.pockets)
      | .nodeTable, 2 => whole i ∧ es = []
      | .nodeTable, 3 => at' i fun e => let n := nodeOfEntry e
          ¬(within 1 63 n.addr ∧ n.role ≠ none ∧
            (if n.role = some .insertFeeder then within 1 12 n.feeder else n.feeder = 0) ∧
            (role n windows → n.windowOpen < n.windowClose ∧ n.windowClose ≤ 1023) ∧
            (¬role n windows → n.windowOpen = 0 ∧ n.windowClose = 0) ∧
            (role n [.sheetStation, .closer, .lineComputer, .panel] → n.position = 0))
      | .nodeTable, 4 => pair i fun a b => let n := nodeOfEntry a; let m := nodeOfEntry b
          n.addr = m.addr ∨ n.role = some .insertFeeder ∧ m.role = some .insertFeeder ∧
            (n.feeder = m.feeder ∨ n.position = m.position)
      | .nodeTable, 5 => whole i ∧
          ¬((∀ r ∈ [Role.sheetStation, .envReader, .envStation, .caliper, .divertGate, .sorter], count r = 1) ∧
            count .closer ≤ 1 ∧ within 1 2 (count .lineComputer) ∧ count .panel ≤ 2)
      | .nodeTable, 6 => whole i ∧
          ¬(∀ b e c d x, b ∈ es.map nodeOfEntry → e ∈ es.map nodeOfEntry → c ∈ es.map nodeOfEntry → d ∈ es.map nodeOfEntry →
            x ∈ es.map nodeOfEntry → b.role = some .envReader → e.role = some .envStation → c.role = some .caliper →
            d.role = some .divertGate → x.role = some .sorter →
            b.position + 1 = e.position ∧ 1 ≤ b.position ∧ e.position < c.position ∧ c.position < d.position ∧
              d.position < x.position ∧
              ∀ f ∈ es.map nodeOfEntry, f.role = some .insertFeeder → 0 < f.position ∧ f.position + 1 < e.position)
      | .nodeTable, 7 => at' i fun e => ∃ p, profileOf s = some p ∧ ¬fits p (nodeOfEntry e)
      | .jobTable, 2 => whole i ∧ es = []
      | .jobTable, 3 => at' i fun e =>
          (i = 0 ∧ ¬(entNum e 0 2 ≤ 2000 ∧ within 1 100 (entNum e 2 2) ∧ within 1 1000 (entNum e 4 2) ∧ within 1 7 (entByte e 7) ∧
            within 1 24 (entByte e 8) ∧ within 4 1000 (entNum e 9 2))) ∨
          (i ≠ 0 ∧ ¬(entNum e 0 2 ≤ 1000 ∧ entByte e 2 ≤ 12 ∧ entByte e 3 ≤ 6))
      | .jobTable, 8 => i ≠ 0 ∧ at' i fun e => entByte e 2 ≠ 0 ∧
          (entByte e 2 = i ∨ ∃ a, es[entByte e 2]? = some a ∧ entByte a 2 ≠ 0 ∧ entByte a 2 ≠ i)
      | .defectList, 4 => pair i fun a b => entByte a 0 = entByte b 0
      | .defectList, 7 => at' i fun e => ∃ p, profileOf s = some p ∧ p.pockets ≤ entByte e 0
      | .scheme, 3 => at' i fun e => let x := schemeOfEntry e
          ¬(x.digits ∈ [3, 5, 9, 11] ∧ x.group ≤ 63 ∧ x.low ≤ x.high ∧ x.high < 10 ^ x.digits)
      | .scheme, 9 => pair i fun a b => let x := schemeOfEntry a; let y := schemeOfEntry b
          x.digits = y.digits ∧ x.low ≤ y.high ∧ y.low ≤ x.high
      | .groupTable, 3 => at' i fun e => let g := groupOfEntry e
          ¬(g.length ≤ 5 ∧ (∀ b ∈ g.bins, within 1 16 b) ∧ within 1 2 g.mode ∧ within 1 2 g.action)
      | .groupTable, 4 => (at' i fun e => ¬(groupOfEntry e).bins.Nodup) ∨
          pair i fun a b => ∃ k, k ∈ (groupOfEntry a).bins ∧ k ∈ (groupOfEntry b).bins
      | .binTable, 2 => whole i ∧ es.length ≠ 17
      | .binTable, 3 => i ≠ 0 ∧ at' i fun e => ¬within 1 999 (entNum e 0 2)
      | _, _ => False
    (structural t es s = none ↔ ∀ code i, ¬fails code i) ∧
    ∀ code i, structural t es s = some (code, i) → fails code i ∧ ∀ c j, fails c j → code < c ∨ code = c ∧ i ≤ j

/-- The checksum of a table's first entries (R38): the six words of each entry, byte 2w the high byte and byte 2w+1 the low byte,
each ANDed with the table's mask for it, summed modulo 65,536; 0 for an entry count of 0; a LOADING table within its load window
whose computed checksum differs from the expected one becomes BAD with failure code 1. -/
def Obligations.ChecksumSumsMaskedWords : Prop :=
  (∀ (t : TableId) (m : List (Nat × List Byte)) (n : Nat),
    let word := fun (e : List Byte) (w : Nat) => 256 * (e.getD (2 * w) 0).toNat + (e.getD (2 * w + 1) 0).toNat
    let mask : Nat → List Nat := fun i => match t with
      | .lineProfile => [0xFFFF, 0xFFFF, 0xFFFF, 0xFFFF, 0xFFFF, 0xFF00]
      | .nodeTable => [0xFFFF, 0xFFFF, 0xFFFF, 0xFFFF, 0x0000, 0x0000]
      | .jobTable => if i = 0 then [0xFFFF, 0xFFFF, 0xFFFF, 0xFFFF, 0xFFFF, 0xFF00] else [0xFFFF, 0xFFFF, 0, 0, 0, 0]
      | .defectList => [0xFF00, 0x0000, 0x0000, 0x0000, 0x0000, 0x0000]
      | .scheme => [0xFFFF, 0xFFFF, 0xFFFF, 0xFFFF, 0xFFFF, 0xFFFF]
      | .groupTable => [0xFFFF, 0xFFFF, 0xFFFF, 0xFFFF, 0x0000, 0x0000]
      | .binTable => [0xFFFF, 0x0000, 0x0000, 0x0000, 0x0000, 0x0000]
    checksumOf t m n =
      ((List.range n).map fun i => ((List.range 6).map fun w => word (entRead m i) w &&& (mask i).getD w 0).sum).sum % 65536) ∧
  (∀ t m, checksumOf t m 0 = 0) ∧
  (∀ (t : TableId) (src count expected : Nat) (s : State), checksumOf t (s.tables.get t).entries count ≠ expected →
    (((judgeCommit t src count expected s).1.tables.get t).state = .bad ∧
      ((judgeCommit t src count expected s).1.tables.get t).failCode = 1))

/-! ### READ, accounts, the pull list, RECALL -/

/-- READ changes nothing but the queue of replies: ARG for an item or an index that does not exist, else one REPLY for each piece
of at most 13 bytes (R27, R28). Index 65,535 answers with every entry of an item that has entries, in index order, the pieces of
one entry before those of the next, for the entries' indexes listed here (of a node's index, its node record); an item that has
none is refused with ARG, and one whose entries are none at present gives one REPLY of zeros. Items 12 and 15 are the run counters
and the loop counters: one by its number with four bytes of value, or all by index 65,535, 31 and 9 REPLYs (R34, R169). Item 5 is
a latch (R162). The data of every other item is its fields in the order of its table, each in the bytes its range needs, written
out here as (width, value) pairs, most significant byte first; a two-valued field is 1 or 0, a bit map has bit n-1 for n (R28):
pitch status (R16), roll state and node record (02, "Status items"), table state and staged set (R52), line status (R162), feeder
(R127), group and bin (R144), account queue status and pull list entry (R69), outcome queue status (R169). The model's choices in
it: the phase within its limit (log 19), the last span as recorded (log 37), the hold's rest rounded up to a step (log 22), and
the last applied fold as two bytes, 255 in both when absent (log 38). -/
def Obligations.ReadAnswersWithTheStateAsItStands : Prop :=
  (∀ (c : Cell) (s : State), Takes 0x32 c s →
    let item := payByte c 4
    let i := payNum c 5 2
    (readEntries item i s = none → exec .read s = .next (replied c .arg [] (handed c s))) ∧
    (item = 0 ∨ 16 ≤ item → exec .read s = .next (replied c .arg [] (handed c s))) ∧
    (∀ data, i ≠ 65535 → readEntry item i s = some data → data.length ≤ 13 →
      exec .read s = .next (replied c .accepted data (handed c s))) ∧
    (∀ data, i ≠ 65535 → readEntry item i s = some data → 13 < data.length →
      exec .read s = .next (answer c [(.accepted, data.take 13), (.accepted, data.drop 13)] (handed c s))) ∧
    (item = 12 →
      (1 ≤ i → i ≤ 31 → exec .read s = .next (replied c .accepted
        (beBytes 1 i ++ beBytes 4 (vget s.outcomes.counters (i - 1))) (handed c s))) ∧
      (i = 65535 → exec .read s = .next (answer c ((List.range 31).map fun k =>
        (.accepted, beBytes 1 (k + 1) ++ beBytes 4 (vget s.outcomes.counters k))) (handed c s))) ∧
      (¬(1 ≤ i ∧ i ≤ 31) → i ≠ 65535 → exec .read s = .next (replied c .arg [] (handed c s)))) ∧
    (item = 15 →
      (1 ≤ i → i ≤ 9 → exec .read s = .next (replied c .accepted
        (beBytes 1 i ++ beBytes 4 (vget s.loop.counters (i - 1))) (handed c s))) ∧
      (i = 65535 → exec .read s = .next (answer c ((List.range 9).map fun k =>
        (.accepted, beBytes 1 (k + 1) ++ beBytes 4 (vget s.loop.counters k))) (handed c s))) ∧
      (¬(1 ≤ i ∧ i ≤ 9) → i ≠ 65535 → exec .read s = .next (replied c .arg [] (handed c s)))) ∧
    (item = 5 → ∀ k, latchOfCode i = some k → exec .read s = .next (replied c .accepted
      ([BitVec.ofNat 8 (latchCode k), BitVec.ofNat 8 (latchStateCode (latch k s).state), BitVec.ofNat 8 (latch k s).occurrence,
        BitVec.ofNat 8 (latch k s).sort, BitVec.ofNat 8 (latch k s).number] ++ beBytes 2 (latch k s).raisings) (handed c s))) ∧
    (i = 65535 →
      let upTo := fun n : Nat => (List.range n).map (· + 1)
      let indexes : Option (List Nat) := match item with
        | 3 => some (List.range (nodesOf s).length)
        | 4 => some (upTo 7)
        | 5 => some (upTo 14)
        | 7 => some (upTo 12)
        | 8 => some (List.range 64)
        | 9 => some (List.range 17)
        | 11 => some (List.range s.tables.pull.length)
        | 12 => some (upTo 31)
        | 15 => some (upTo 9)
        | _ => none
      (indexes = none → exec .read s = .next (replied c .arg [] (handed c s))) ∧
      (∀ ks, indexes = some ks →
        let entries := ks.filterMap fun k => readEntry item k s
        (∀ k ∈ ks, (item = 3 → k < s.loop.nodeRecs.length) → (readEntry item k s).isSome = true) ∧
        (entries = [] → exec .read s = .next (replied c .accepted [] (handed c s))) ∧
        (entries ≠ [] → exec .read s = .next (answer c ((entries.flatMap fun data =>
          if data.length ≤ 13 then [data] else [data.take 13, data.drop 13]).map fun piece => (.accepted, piece)) (handed c s)))))) ∧
  ∀ s : State,
    let sent := fun l : List (Nat × Nat) => some (l.flatMap fun f => beBytes f.1 f.2)
    let yes := fun b : Bool => if b then 1 else 0
    let bits := fun l : List (Bool × Nat) => (l.map fun b => if b.1 then b.2 else 0).sum
    let p := s.pitch
    let w := s.line
    let o := s.outcomes
    let g := s.tables.staged
    let feeders := fun v : Vector (Option Nat) 12 => bits ((List.range 12).map fun k => ((vget v k).isSome, 2 ^ k))
    readEntry 1 0 s = sent [(1, p.counter), (1, bits [(p.counterValid, 1), (p.indexPending, 2), (p.meter.length = 8, 4),
      (p.estopAsserted, 8), (p.driveEn, 16), (p.driveCrawl, 32)]), (1, p.searchCount), (2, min p.phase (phaseLimit s)),
      (2, p.lastSpan), (1, p.meter.length), (2, if p.meter.length = 8 then p.meter.sum / 8 else 0)] ∧
    readEntry 2 0 s = sent [(1, s.loop.rollSerial), (1, bits [(s.loop.returned, 1), (s.loop.ringBreakUp, 2)]), (1, s.loop.misses),
      (8, s.loop.lastMask.toNat)] ∧
    (∀ i n r, (nodesOf s)[i]? = some n → s.loop.nodeRecs[i]? = some r → ∀ role, n.role = some role →
      readEntry 3 i s = sent [(1, n.addr), (1, roleCode role), (1, n.feeder), (1, r.absent), (1, yes r.lost),
        (1, (r.status.map fun x => stationCode x.1).getD 0), (1, (r.status.map fun x => x.2.toNat).getD 0)]) ∧
    (∀ i t, tableOfNumber i = some t → let x := s.tables.get t
      readEntry 4 i s = sent [(1, i), (1, tableStateCode x.state), (2, x.loadCount), (2, x.count), (2, x.checksum),
        (1, x.failCode), (2, x.failIndex)]) ∧
    readEntry 6 0 s = sent [(1, lineCode w.state), (1, lineCode w.prev), (1, w.lastCause), (1, yes w.drainPending), (1, w.retry),
      (1, ((profileOf s).map (·.retryLimit)).getD 0), (2, w.clean), (1, phaseCode w.phase),
      (2, if w.phase = .hold then (w.holdLeft + Config.holdStep - 1) / Config.holdStep else 0), (1, yes w.counterValid),
      (1, yes w.meterValid), (1, yes (s.stage.assembly.isSome || s.stage.ready.isSome)),
      (1, yes (s.track.recs.any fun q => q.content.isSome)), (1, yes (requiredTables.all fun t => (s.tables.get t).state = .valid)),
      (1, w.jammed.length), (1, w.stationLoss.length)] ∧
    (∀ k, 1 ≤ k → k ≤ 12 →
      let n := nodeOf .insertFeeder k s
      let j := feederJob k s
      readEntry 7 k s = sent [(1, k), (1, yes n.isSome), (1, (n.map (·.addr)).getD 0), (1, (n.map (·.position)).getD 0),
        (1, feederCode (feederRec k s).state), (1, j.alternate), (2, j.caliper), (1, j.pair),
        (1, if j.pair = 0 then 0 else standingCode (vget s.feeders.pairs (j.pair - 1))), (1, (feederRec k s).misses),
        (1, (feederRec k s).timing)]) ∧
    (∀ k, k ≤ 63 → let r := vget s.presort.groups k; r.rotation.length ≤ 5 →
      readEntry 8 k s = sent ([(1, k), (1, r.rotation.length)] ++ (List.range 5).map (fun b => (1, r.rotation.getD b 0)) ++
        [(1, match r.mode with | .single => 1 | .loop => 2), (1, match r.action with | .overflow => 1 | .stop => 2), (1, r.index),
          (1, groupStateCode r.state), (2, r.tray)])) ∧
    readEntry 9 0 s = sent [(1, 0), (2, s.presort.overflow), (2, warningLevel s), (1, yes s.presort.reportedFull)] ∧
    (∀ k, 1 ≤ k → k ≤ 16 → let r := binRec k s
      readEntry 9 k s = sent [(1, k), (1, binStateCode r.state), (2, r.count), (2, capacityOf k s), (1, (ownerOf k s).getD 255),
        (2, r.tray), (3, r.firstSeq), (3, r.lastSeq)]) ∧
    readEntry 10 0 s = sent [(2, s.acct.queue.length), (3, (s.acct.queue.head?.map (·.seq)).getD 0), (3, s.acct.tail.getD 0),
      (3, s.acct.base.getD 0), (3, (s.acct.halfA.map (·.seq)).getD 0), (2, s.acct.queue.countP (·.skipped)),
      (2, s.acct.queue.countP (·.recalled)), (2, s.tables.pull.length), (1, (s.acct.holdReason.map holdCode).getD 0)] ∧
    (∀ (i : Nat) (e : PullEntry), s.tables.pull[i]? = some e →
      readEntry 11 i s = sent [(6, e.key), (1, e.reason), (1, pullKindCode e.kind), (1, e.hits)]) ∧
    readEntry 13 0 s = sent [(2, o.recs.length), (2, free s), (1, stageClaims s), (1, trackClaims s), (1, presortClaims s),
      (1, claims s), (2, free s - claims s), (4, o.fetched)] ∧
    readEntry 14 0 s = sent [(1, yes s.tables.hold), (1, g.count), (1, s.tables.settling), (2, bits [(g.tolerance.isSome, 1),
      (g.sheetCaliper.isSome, 2), (g.envCaliper.isSome, 4), (g.missLimit.isSome, 16), (g.fold.isSome, 64),
      (g.envClass.isSome, 128), (g.deadline.isSome, 256)]), (2, feeders g.calipers), (2, feeders g.pairs),
      (1, (s.tables.lastFold.map (·.1)).getD 255), (1, (s.tables.lastFold.map (·.2)).getD 255)]

/-- The two halves of a record (R54 to R57). ACCT-A: fields out of range give ARG; a seq that is not the tail's successor gives
ORDER with the seq expected (after 16,777,215 the spec states none: a free value, log 35); otherwise the half waits, ACCEPTED, or
INCOMPLETE when it replaces one. ACCT-B: ARG, ORDER, FULL with the half A dropped at 256 records, or the record joins at the end.
-/
def Obligations.AccountHalvesFormARecord : Prop :=
  ∀ (c : Cell) (s : State),
    (Takes 0x33 c s →
      let h := (acctAForm c).1
      let ok := 1 ≤ h.seq ∧ h.seq ≤ 16777215 ∧ 1 ≤ h.pages ∧ h.pages ≤ 24 ∧ payNum c 14 2 < 4096
      let waiting := { handed c s with acct := { s.acct with halfA := some h } }
      (¬ok → exec .acctA s = .next (replied c .arg [] (handed c s))) ∧
      (ok → ∀ t, s.acct.tail = some t → h.seq ≠ t + 1 → t < 16777215 →
        exec .acctA s = .next (replied c .order (beBytes 3 (t + 1)) (handed c s))) ∧
      (ok → ∀ t, s.acct.tail = some t → h.seq ≠ t + 1 → 16777215 ≤ t →
        exec .acctA s = .next (replied c .order (beBytes 3 (Config.seqAfterLast s.draws).toNat)
          { handed c s with draws := s.draws + 1 })) ∧
      (ok → (∀ t, s.acct.tail = some t → h.seq = t + 1) → s.acct.halfA = none →
        exec .acctA s = .next (replied c .accepted (beBytes 3 0 ++ beBytes 2 s.acct.queue.length) waiting)) ∧
      (ok → (∀ t, s.acct.tail = some t → h.seq = t + 1) → ∀ old, s.acct.halfA = some old →
        exec .acctA s = .next (replied c .incomplete (beBytes 3 old.seq ++ beBytes 2 s.acct.queue.length) waiting))) ∧
    (Takes 0x34 c s →
      let b := acctBForm c
      let ok := 1 ≤ b.seq ∧ b.seq ≤ 16777215 ∧ (b.given = 3 ∨ b.given = 5 ∨ b.given = 9 ∨ b.given = 11)
      (¬ok → exec .acctB s = .next (replied c .arg [] (handed c s))) ∧
      (ok → s.acct.halfA = none → exec .acctB s = .next (replied c .order (beBytes 3 0) (handed c s))) ∧
      (ok → ∀ a, s.acct.halfA = some a → a.seq ≠ b.seq →
        exec .acctB s = .next (replied c .order (beBytes 3 a.seq) (handed c s))) ∧
      (ok → ∀ a, s.acct.halfA = some a → a.seq = b.seq → 256 ≤ s.acct.queue.length →
        exec .acctB s = .next (replied c .full [] { handed c s with acct := { s.acct with halfA := none } })) ∧
      (ok → ∀ a, s.acct.halfA = some a → a.seq = b.seq → s.acct.queue.length < 256 →
        exec .acctB s = .next (replied c .accepted (beBytes 2 (s.acct.queue.length + 1)) { handed c s with
          acct := { s.acct with
            queue := s.acct.queue ++ [{
              seq := a.seq, key := a.key, pages := a.pages, inserts := a.inserts, matchReq := a.matchReq
              prePull := a.prePull, postal := b.postal, envKey := if a.matchReq then some b.envKey else none
              recalled := false, skipped := false }]
            halfA := none, tail := some a.seq, base := some (s.acct.base.getD a.seq) } })))

/-- PULL ADD (R66): ARG by reason or kind, DUPLICATE with the entry's kind and hits, FULL at 320 entries, else a new entry with
hits 0 at its key's place. PULL REMOVE (R67): with no entry of that key ARG; otherwise that entry leaves, the others keep their
order, and the reply gives its hits and the number left. -/
def Obligations.PullListTakesAddsAndRemoves : Prop :=
  ∀ (c : Cell) (s : State),
    let key := payNum c 4 6
    (Takes 0x35 c s →
      let reason := payByte c 10
      let kind := payByte c 11
      let ok := 1 ≤ reason ∧ reason ≤ 15 ∧ (kind = 1 ∨ kind = 2)
      (¬ok → exec .pullAdd s = .next (replied c .arg [] (handed c s))) ∧
      (ok → ∀ e, s.tables.pull.find? (·.key == key) = some e →
        exec .pullAdd s = .next (replied c .duplicate
          [if e.kind = .once then 1 else 2, BitVec.ofNat 8 e.hits] (handed c s))) ∧
      (ok → (∀ e ∈ s.tables.pull, e.key ≠ key) → 320 ≤ s.tables.pull.length →
        exec .pullAdd s = .next (replied c .full [] (handed c s))) ∧
      (ok → (∀ e ∈ s.tables.pull, e.key ≠ key) → s.tables.pull.length < 320 →
        let new : PullEntry := { key := key, reason := reason, kind := if kind = 1 then .once else .standing, hits := 0 }
        exec .pullAdd s = .next (replied c .accepted (beBytes 2 (s.tables.pull.length + 1)) { handed c s with
          tables := { s.tables with
            pull := s.tables.pull.takeWhile (·.key < key) ++ new :: s.tables.pull.dropWhile (·.key < key) } }))) ∧
    (Takes 0x36 c s → PullListOrdered s →
      ((∀ e ∈ s.tables.pull, e.key ≠ key) → exec .pullRemove s = .next (replied c .arg [] (handed c s))) ∧
      (∀ before e after, s.tables.pull = before ++ e :: after → e.key = key →
        exec .pullRemove s = .next (replied c .accepted
          (beBytes 1 e.hits ++ beBytes 2 (before.length + after.length)) { handed c s with
            tables := { s.tables with pull := before ++ after } })))

/-- RECALL (R64): by the queue's contents, the run base and the tail as they stand, in every line state. -/
def Obligations.RecallMarksARecord : Prop :=
  ∀ (c : Cell) (s : State), Takes 0x37 c s → AccountsOrdered s →
    let seq := payNum c 4 3
    let marked := { handed c s with
      acct := { s.acct with queue := s.acct.queue.map fun r => if r.seq = seq then { r with recalled := true } else r } }
    (seq = 0 ∨ s.acct.tail = none ∨ (∃ b, s.acct.base = some b ∧ seq < b) ∨ (∃ t, s.acct.tail = some t ∧ t < seq) →
      exec .recallRequest s = .next (replied c .arg [] (handed c s))) ∧
    (∀ r ∈ s.acct.queue, 1 ≤ seq → r.seq = seq → r.skipped = false →
      exec .recallRequest s = .next (replied c .accepted [if r.recalled then 1 else 0] marked)) ∧
    (∀ r ∈ s.acct.queue, 1 ≤ seq → r.seq = seq → r.skipped = true →
      exec .recallRequest s = .next (replied c .accepted [2] marked)) ∧
    (∀ b t, s.acct.base = some b → s.acct.tail = some t → 1 ≤ seq → b ≤ seq → seq ≤ t → (∀ r ∈ s.acct.queue, r.seq ≠ seq) →
      exec .recallRequest s = .next (replied c .tooLate [] (handed c s))) ∧
    (∀ h t, s.acct.halfA = some h → s.acct.tail = some t → h.seq = seq →
      exec .recallRequest s = .next (replied c .arg [] (handed c s))) ∧
    (∀ r ∈ s.acct.queue, r.seq = seq → r.recalled = true → marked.acct = s.acct) ∧
    payNum c 4 3 ≤ 16777215

/-! ### Staging, and the line's requests -/

/-- STAGE (R48): ARG for a field, feeder or value out of range, STATE while the job table is not VALID, else the slot holds the
value and the reply tells whether it was replaced and how many are present; no other slot changes. The ranges are those of R43 for
each field, the feeder 1 to 12 for the insert caliper and the essential pair (R48). HOLD and HOLD RELEASE (R49) set the staging
hold flag on and off in every line state, whatever the job table's state; the reply gives its previous state and the number of
slots present. -/
def Obligations.StagingAndItsHold : Prop :=
  ∀ (c : Cell) (s : State),
    (Takes 0x38 c s →
      let f := stageForm c
      (stageOk f = false → exec .stage s = .next (replied c .arg [] (handed c s))) ∧
      (stageOk f = true → s.tables.job.state ≠ .valid → exec .stage s = .next (replied c .state [] (handed c s))) ∧
      (stageOk f = true → s.tables.job.state = .valid →
        let g := putSlot f s.tables.staged
        stagedSlot f g = some f.value ∧
        (∀ other : StageForm, other.field ≠ f.field ∨ other.field ∈ [4, 6] ∧ other.feeder ≠ f.feeder ∧ 1 ≤ other.feeder →
          stagedSlot other g = stagedSlot other s.tables.staged) ∧
        exec .stage s = .next (replied c .accepted
          [if (stagedSlot f s.tables.staged).isSome then 1 else 0, BitVec.ofNat 8 g.count]
          { handed c s with tables := { s.tables with staged := g } })) ∧
      (f.field = 1 → (stageOk f = true ↔ f.value ≤ 2000)) ∧ (f.field = 9 → (stageOk f = true ↔ 4 ≤ f.value ∧ f.value ≤ 1000)) ∧
      (f.field = 4 → (stageOk f = true ↔ 1 ≤ f.feeder ∧ f.feeder ≤ 12 ∧ f.value ≤ 1000)) ∧
      (f.field = 2 → (stageOk f = true ↔ 1 ≤ f.value ∧ f.value ≤ 100)) ∧
      (f.field = 3 → (stageOk f = true ↔ 1 ≤ f.value ∧ f.value ≤ 1000)) ∧
      (f.field = 5 → (stageOk f = true ↔ 1 ≤ f.value ∧ f.value ≤ 7)) ∧
      (f.field = 6 → (stageOk f = true ↔ 1 ≤ f.feeder ∧ f.feeder ≤ 12 ∧ f.value ≤ 6)) ∧
      (f.field = 7 ∨ f.field = 8 → (stageOk f = true ↔ f.value ≤ 15)) ∧
      (f.field = 0 ∨ 10 ≤ f.field → stageOk f = false)) ∧
    (Takes 0x39 c s → exec .hold s = .next (replied c .accepted
      [if s.tables.hold then 1 else 0, BitVec.ofNat 8 s.tables.staged.count]
      { handed c s with tables := { s.tables with hold := true } })) ∧
    (Takes 0x3A c s → exec .holdRelease s = .next (replied c .accepted
      [if s.tables.hold then 1 else 0, BitVec.ofNat 8 s.tables.staged.count]
      { handed c s with tables := { s.tables with hold := false } }))

/-- START by the line state (R147): from a stopped state the retries and clean pitches go to 0, drain-pending to no, and the line
enters PRIMING; from DRAINING it enters RUNNING; in PRIMING and RUNNING nothing changes; RECOVERY and LOCKOUT refuse it. The first
start condition that fails is named in the reply, after the line state (which state the reply names is the model's reading, log
36): 1 with the lowest-numbered required table not VALID, 2 while ESTOP_N is taken as asserted, 3 with the lowest-coded blocking
latch that is not IDLE. STOP and CUT by the line state (R148, R149). STOP drains a line in PRIMING or RUNNING and judges the drain
at once; CUT marks the line's sets suspect and sends it to its stopped state; both send RECOVERY to the stopped state, STOP also
LOCKOUT; elsewhere nothing changes. Each is ACCEPTED with the state before and after (after the drain is judged: log 24). Shown
for every state, a READY set then released where R87 allows it, and spelled out with no set ready to release. -/
def Obligations.RequestsOfTheLineState : Prop :=
  (∀ (c : Cell) (s : State), Takes 0x3B c s →
      let data := fun (st : LineState) (f : Nat × Nat) => [BitVec.ofNat 8 (lineCode st), BitVec.ofNat 8 f.1, BitVec.ofNat 8 f.2]
      let good := (∀ t ∈ [TableId.lineProfile, .nodeTable, .jobTable, .scheme, .groupTable, .binTable],
          (s.tables.get t).state = .valid) ∧ s.pitch.estopAsserted = false ∧
        ∀ k ∈ [LatchKind.estop, .essentialLost, .retriesExhausted, .groupExhausted], (latch k s).state = .idle
      (good ↔ startFailure s = none) ∧
      (good → s.line.state = .halted ∨ s.line.state = .paused →
        exec .start s = .next (replied c .accepted (data .priming (0, 0)) (setLine .priming 0 { handed c s with
          line := { s.line with retry := 0, clean := 0, drainPending := false } }))) ∧
      (good → s.line.state = .draining →
        exec .start s = .next (replied c .accepted (data .running (0, 0)) (settle (setLine .running 0 (handed c s))))) ∧
      (good → s.line.state = .draining → s.stage.ready = none ∨ s.stage.vacancy = none →
        exec .start s = .next (replied c .accepted (data .running (0, 0)) (setLine .running 0 (handed c s)))) ∧
      (∀ f, startFailure s = some f →
        (s.line.state = .halted ∨ s.line.state = .paused ∨ s.line.state = .draining →
          exec .start s = .next (replied c .state (data s.line.state f) (handed c s)))) ∧
      (s.line.state = .priming ∨ s.line.state = .running →
        exec .start s = .next (replied c .accepted (data s.line.state ((startFailure s).getD (0, 0))) (handed c s))) ∧
      (s.line.state = .recovery ∨ s.line.state = .lockout →
        exec .start s = .next (replied c .state (data s.line.state (0, 0)) (handed c s))) ∧
      (∀ (before after : List (TableId × Nat)) (i : TableId) (n : Nat),
        [(TableId.lineProfile, 1), (.nodeTable, 2), (.jobTable, 3), (.scheme, 5), (.groupTable, 6), (.binTable, 7)] =
          before ++ (i, n) :: after → (∀ p ∈ before, (s.tables.get p.1).state = .valid) → (s.tables.get i).state ≠ .valid →
        startFailure s = some (1, n)) ∧
      ((∀ i ∈ [TableId.lineProfile, .nodeTable, .jobTable, .scheme, .groupTable, .binTable], (s.tables.get i).state = .valid) →
        (s.pitch.estopAsserted = true → startFailure s = some (2, 0)) ∧
        (s.pitch.estopAsserted = false → ∀ (before after : List (LatchKind × Nat)) (k : LatchKind) (n : Nat),
          [(LatchKind.estop, 1), (.essentialLost, 10), (.retriesExhausted, 11), (.groupExhausted, 12)] =
            before ++ (k, n) :: after → (∀ p ∈ before, (latch p.1 s).state = .idle) → (latch k s).state ≠ .idle →
          startFailure s = some (3, n)))) ∧
  (∀ (c : Cell) (s : State),
      let data := fun (before after : LineState) => [BitVec.ofNat 8 (lineCode before), BitVec.ofNat 8 (lineCode after)]
      (Takes 0x3C c s →
        (∀ t, (s.line.state = .priming ∧ t = { handed c s with line := { s.line with drainPending := false } }) ∨
            (s.line.state = .running ∧ t = handed c s) →
          let u := settle (setLine .draining 0 t)
          exec .stop s = .next (replied c .accepted (data s.line.state u.line.state) u)) ∧
        (∀ t, (s.line.state = .priming ∧ t = { handed c s with line := { s.line with drainPending := false } }) ∨
            (s.line.state = .running ∧ t = handed c s) → s.stage.ready = none ∨ s.stage.vacancy = none →
          (held s = true → exec .stop s = .next (replied c .accepted (data s.line.state .draining) (setLine .draining 0 t))) ∧
          (held s = false → exec .stop s = .next (replied c .accepted (data s.line.state .halted)
            (setLine .halted 0 (setLine .draining 0 t))))) ∧
        (s.line.state = .recovery ∨ s.line.state = .lockout → exec .stop s = .next (replied c .accepted
          (data s.line.state (stoppedState s)) (setLine (stoppedState s) 0 (handed c s)))) ∧
        (s.line.state = .draining ∨ s.line.state = .halted ∨ s.line.state = .paused →
          exec .stop s = .next (replied c .accepted (data s.line.state s.line.state) (handed c s)))) ∧
      (Takes 0x3D c s →
        (s.line.state = .priming ∨ s.line.state = .running ∨ s.line.state = .draining → exec .cut s = .next (replied c .accepted
          (data s.line.state (stoppedState s)) (setLine (stoppedState s) 0 (suspectAll (handed c s))))) ∧
        (s.line.state = .recovery → exec .cut s = .next (replied c .accepted
          (data .recovery (stoppedState s)) (setLine (stoppedState s) 0 (handed c s)))) ∧
        (s.line.state = .halted ∨ s.line.state = .paused ∨ s.line.state = .lockout →
          exec .cut s = .next (replied c .accepted (data s.line.state s.line.state) (handed c s)))) ∧
      stoppedState s = (if held s then .paused else .halted))

/-- FEEDER ENABLE and FEEDER DISABLE (R113), in every line state: ARG for a feeder outside 1 to 12; the reply gives the feeder's
state before; an enable is judged by that state and by the node record's last status; a disable makes a present feeder DISABLED
with its counts kept. Only the named feeder's record changes. RESTART GROUP (R143), in every line state: ARG for a group above 63;
a group with bins goes to index 0 and ACTIVE with its tray counter kept, and GROUP EXHAUSTED is evaluated if it was a STOP group
in EXHAUSTED: it is lowered once no STOP group is (R135); a group without bins stays as it is. The reply gives its state before.
No bin changes. CLOSE GROUP (R142): ARG for a value that is neither a group nor 255; each OPEN bin of a named group is closed with
cause CLOSED, in ascending bin number: its TRAY record joins the outcome queue and the bin becomes FULL with count 0 (R131). The
reply gives the number closed. No group and no other bin changes. -/
def Obligations.RequestsOfFeedersAndGroups : Prop :=
  (∀ (c : Cell) (s : State),
      let k := payByte c 4
      let state := (feederRec k s).state
      let before : Byte := match state with
        | .none => 0 | .ready => 1 | .empty => 2 | .faulted => 3 | .disabled => 4 | .lost => 5
      let leaves := fun v : State => (∀ j, 1 ≤ j → j ≠ k → feederRec j v = feederRec j s) ∧ v.pins = s.pins ∧
        v.tables = s.tables ∧ v.acct.queue = s.acct.queue ∧ v.stage = s.stage ∧ v.track = s.track ∧ v.presort = s.presort ∧
        v.outcomes = s.outcomes
      (Takes 0x3E c s →
        (¬(1 ≤ k ∧ k ≤ 12) → exec .feederEnable s = .next (replied c .arg [] (handed c s))) ∧
        (1 ≤ k → k ≤ 12 → state = .ready → exec .feederEnable s = .next (replied c .accepted [before] (handed c s))) ∧
        (1 ≤ k → k ≤ 12 → state = .none ∨ state = .empty ∨ state = .lost →
          exec .feederEnable s = .next (replied c .state [before] (handed c s))) ∧
        (1 ≤ k → k ≤ 12 → state = .faulted ∨ state = .disabled → (∀ d, lastStatusOf .insertFeeder k s ≠ some (.ready, d)) →
          exec .feederEnable s = .next (replied c .state [before] (handed c s))) ∧
        (1 ≤ k → k ≤ 12 → state = .faulted ∨ state = .disabled → ∀ d, lastStatusOf .insertFeeder k s = some (.ready, d) →
          ∃ v, exec .feederEnable s = .next (replied c .accepted [before] v) ∧
            feederRec k v = { state := .ready, misses := 0, timing := 0 } ∧ leaves v)) ∧
      (Takes 0x3F c s →
        (¬(1 ≤ k ∧ k ≤ 12) → exec .feederDisable s = .next (replied c .arg [] (handed c s))) ∧
        (1 ≤ k → k ≤ 12 → state = .none → exec .feederDisable s = .next (replied c .state [before] (handed c s))) ∧
        (1 ≤ k → k ≤ 12 → state ≠ .none → ∃ v, exec .feederDisable s = .next (replied c .accepted [before] v) ∧
          feederRec k v = { feederRec k s with state := .disabled } ∧ leaves v))) ∧
  (∀ (c : Cell) (s : State), Takes 0x41 c s →
      let g := payByte c 4
      let r := groupRec g s
      let before : Byte := match r.state with
        | .active => 1 | .exhausted => 2 | .unused => 3
      let restarted := { handed c s with presort := { s.presort with
        groups := vset s.presort.groups g { r with index := 0, state := .active } } }
      let others := ∃ h, h < 64 ∧ h ≠ g ∧ (groupRec h s).action = .stop ∧ (groupRec h s).state = .exhausted
      (63 < g → exec .restartGroup s = .next (replied c .arg [] (handed c s))) ∧
      (g ≤ 63 → r.rotation = [] → exec .restartGroup s = .next (replied c .accepted [before] (handed c s))) ∧
      (g ≤ 63 → r.rotation ≠ [] → ¬(r.action = .stop ∧ r.state = .exhausted) →
        exec .restartGroup s = .next (replied c .accepted [before] restarted)) ∧
      (g ≤ 63 → r.rotation ≠ [] → r.action = .stop → r.state = .exhausted →
        (others → exec .restartGroup s = .next (replied c .accepted [before] restarted)) ∧
        (¬others → exec .restartGroup s = .next (replied c .accepted [before] (lower .groupExhausted restarted)))) ∧
      restarted.presort.bins = s.presort.bins ∧ (lower .groupExhausted restarted).presort = restarted.presort) ∧
  (∀ (c : Cell) (s : State), Takes 0x40 c s →
      let g := payByte c 4
      let closed := allBins.filter fun b =>
        (binRec b s).state == .opened && (if g = 255 then (ownerOf b s).isSome else ownerOf b s == some g)
      (63 < g → g ≠ 255 → exec .closeGroup s = .next (replied c .arg [] (handed c s))) ∧
      (g ≤ 63 ∨ g = 255 → ∃ v, exec .closeGroup s = .next (replied c .accepted [BitVec.ofNat 8 closed.length] v) ∧
        v.outcomes.recs = s.outcomes.recs ++ closed.map (fun b => Record.tray ((ownerOf b s).getD 0) .closed b
          (binRec b s).tray (binRec b s).count (binRec b s).firstSeq (binRec b s).lastSeq) ∧
        (∀ b, 1 ≤ b → b ≤ 16 →
          binRec b v = if b ∈ closed then { binRec b s with state := .full, count := 0 } else binRec b s) ∧
        v.presort.groups = s.presort.groups ∧ v.presort.overflow = s.presort.overflow ∧ v.pins = s.pins ∧
        v.pitch = s.pitch ∧ v.tables = s.tables ∧ v.acct = s.acct ∧ v.stage = s.stage ∧ v.track = s.track ∧
        v.feeders = s.feeders ∧ v.line = s.line))

/-- CLEAR FAULT (R154): admitted from a LINE COMPUTER and from a PANEL; ARG for a kind outside 1 to 14; STILL ACTIVE, STALE or
ACCEPTED by the latch as it stands, which becomes IDLE only when LATCHED with the occurrence named. The reply gives the latch
state after and the occurrence. Nothing but that latch's state changes: not its occurrence, its raisings, the line state or a
recovery. -/
def Obligations.ClearFaultIdlesALatch : Prop :=
  ∀ (c : Cell) (s : State),
    (kindCode c.kind = 0x42 → s.tables.node.state = .valid → ∀ n, nodeAt c.src.toNat s = some n →
      n.role = some .lineComputer ∨ n.role = some .panel → admitted c s = true) ∧
    (Takes 0x42 c s →
      let named := payByte c 5
      (payByte c 4 = 0 ∨ 15 ≤ payByte c 4 → exec .clearFault s = .next (replied c .arg [] (handed c s))) ∧
      (∀ k, payByte c 4 = latchCode k →
        let l := latch k s
        let occurrence : Byte := BitVec.ofNat 8 l.occurrence
        (l.state = .active → exec .clearFault s = .next (replied c .stillActive [2, occurrence] (handed c s))) ∧
        (l.state = .latched → l.occurrence = named → exec .clearFault s = .next (replied c .accepted [1, occurrence]
          { handed c s with line := { s.line with
              latches := vset s.line.latches (latchCode k - 1) { l with state := .idle } } })) ∧
        (l.state = .latched → l.occurrence ≠ named →
          exec .clearFault s = .next (replied c .stale [3, occurrence] (handed c s))) ∧
        (l.state = .idle → exec .clearFault s = .next (replied c .accepted [1, occurrence] (handed c s)))))

/-! ### Outcomes, resets, the notice mask -/

/-- A written record joins the queue after its newest record and reaches the run counters, which saturate (R163, R168); at an
occupancy of 384 a QUEUE LEVEL notice is asked for (R164). Nothing else changes. FETCH (R167) fixes its number of items, the
occupancy or 8; with none it is answered at once. REPLY_PLACE then sends the oldest record as the data of one REPLY: it leaves the
queue at that moment, the fetched total increases by 1, and the last item is flagged. The byte layout of each of the eight kinds
of record, with the codes of reasons, causes, places and departures, is that of 02 "Outcome and tray records". That REPLY_PLACE
places every item of a FETCH with records is the model's reading (log 10); that LOOP_OUT, sending idle fill, takes a reply at once
is the model's choice (log 11). -/
def Obligations.RecordsAreQueuedCountedAndFetched : Prop :=
  (∀ (r : Record) (s : State),
      let counted : List Nat := match r with
        | .mailed .. => [2] | .held .. => [3] | .diverted .. => [4] | .stray .. => [9] | .missing _ .setStrayed => [5, 8]
        | .missing .. => [5] | .purged .. => [6] | .lost (.account _) _ => [7] | .lost (.stray _) _ => [9] | .tray .. => [10]
      ∃ counters, (∀ n, 1 ≤ n → n ≤ 31 → vget counters (n - 1) =
          let old := vget s.outcomes.counters (n - 1)
          if n ∈ counted ∧ old < 4294967295 then old + 1 else old) ∧
        let t := { s with outcomes := { s.outcomes with recs := s.outcomes.recs ++ [r], counters := counters } }
        (s.outcomes.recs.length + 1 ≠ 384 → writeRecord r s = t) ∧
        (s.outcomes.recs.length + 1 = 384 → writeRecord r s = notice 4 [1, 128] t)) ∧
  ((∀ (c : Cell) (s : State), Takes 0x43 c s →
      (s.outcomes.recs = [] → exec .fetch s = .next (replied c .accepted [] (handed c s))) ∧
      (s.outcomes.recs ≠ [] → exec .fetch s = .next { handed c s with
        loop := { (handed c s).loop with dispatcher := { Dispatcher.idle with
          fetch := some { dest := c.src.toNat, tag := c.tag, left := min s.outcomes.recs.length 8 } } } })) ∧
    (∀ (s : State) (j : FetchJob) (r : Record) (rest : List Record), s.pins.resetN = true → s.loop.replies.length < 8 →
      s.loop.dispatcher.waiting = [] → s.loop.dispatcher.fetch = some j → s.outcomes.recs = r :: rest →
      exec .replyPlace s = .next { s with
        outcomes := { s.outcomes with recs := rest, fetched := (s.outcomes.fetched + 1) % 4294967296 }
        loop := LoopIf.start { s.loop with
          replies := s.loop.replies ++ [ownCell j.dest 0x50 j.tag ((if j.left ≤ 1 then 128 else 0) :: padTo 13 (recordBytes r))]
          dispatcher := { s.loop.dispatcher with fetch := if 1 < j.left then some { j with left := j.left - 1 } else none } } }) ∧
    (∀ seq g b t p k, recordBytes (.mailed seq g b t p k) =
      [1] ++ beBytes 3 seq ++ [BitVec.ofNat 8 g, BitVec.ofNat 8 b] ++ beBytes 2 t ++ beBytes 2 p ++ [if k then 1 else 0]) ∧
    (∀ seq g, recordBytes (.held seq g .exhausted) = [2] ++ beBytes 3 seq ++ [BitVec.ofNat 8 g, 1] ∧
      recordBytes (.held seq g .unusedGroup) = [2] ++ beBytes 3 seq ++ [BitVec.ofNat 8 g, 2]) ∧
    (∀ seq why n k, recordBytes (.diverted seq why n k) =
      [3] ++ beBytes 3 seq ++ [BitVec.ofNat 8 (reasonCode why), BitVec.ofNat 8 n, if k then 1 else 0]) ∧
    (∀ (seq : Option Nat) k why n, recordBytes (.stray seq k why n) = [4] ++ beBytes 3 (seq.getD 0) ++
      [(if seq.isSome = true then 1 else 0) + (if k = true then 2 else 0), BitVec.ofNat 8 (reasonCode why), BitVec.ofNat 8 n]) ∧
    (∀ seq, recordBytes (.missing seq .reboundPast) = [5] ++ beBytes 3 seq ++ [1] ∧
      recordBytes (.missing seq .setStrayed) = [5] ++ beBytes 3 seq ++ [2] ∧
      recordBytes (.missing seq .skippedRelease) = [5] ++ beBytes 3 seq ++ [3]) ∧
    (∀ second, let place : Byte := if second = true then 2 else 1
      (∀ seq, recordBytes (.purged (.account seq) second) = [6] ++ beBytes 3 seq ++ [2, place] ∧
        recordBytes (.purged (.stray (some seq)) second) = [6] ++ beBytes 3 seq ++ [3, place] ∧
        recordBytes (.lost (.account seq) second) = [7] ++ beBytes 3 seq ++ [2, place] ∧
        recordBytes (.lost (.stray (some seq)) second) = [7] ++ beBytes 3 seq ++ [3, place]) ∧
      recordBytes (.purged (.stray none) second) = [6] ++ beBytes 3 0 ++ [1, place] ∧
      recordBytes (.lost (.stray none) second) = [7] ++ beBytes 3 0 ++ [1, place]) ∧
    (∀ g b t n f l,
      let rest := [BitVec.ofNat 8 b] ++ beBytes 2 t ++ beBytes 2 n ++ beBytes 3 f ++ beBytes 3 l
      recordBytes (.tray g .filled b t n f l) = [8, BitVec.ofNat 8 g] ++ rest ∧
      recordBytes (.tray g .forced b t n f l) = [8, BitVec.ofNat 8 (g + 64)] ++ rest ∧
      recordBytes (.tray g .closed b t n f l) = [8, BitVec.ofNat 8 (g + 128)] ++ rest ∧
      recordBytes (.tray g .runClear b t n f l) = [8, BitVec.ofNat 8 (g + 192)] ++ rest) ∧
    [Reason.pulled, .recalled, .noRead, .doubleSheet, .pageOrder, .pageCount, .unbalanced, .seqBreak, .shortSet, .overlength,
      .unsettled, .insertUnavailable, .insertMiss, .insertDouble, .stationTiming, .envMismatch, .envNoRead, .thickness, .suspect,
      .stray].map reasonCode = (List.range 20).map (· + 1))

/-- CLEAR RUN (R170) is refused with STATE in a line state other than HALTED and PAUSED. Accepted, it writes PURGED for the stage
and for the track, then TRAY for each OPEN bin, in that order, after the records that stand; the stage, the account queue, the
staged values, the retries and the feeders' counts take their run-clear values; the run counters are 0 but for the PURGED and TRAY
records so written; GROUP EXHAUSTED is lowered (R144); no set is held and the line is HALTED, from PAUSED by a change with cause 0
(R146, R162). The reply counts the PURGED records, the trays closed and the account records discarded. -/
def Obligations.ClearRunEmptiesTheLine : Prop :=
  ∀ (c : Cell) (s : State), Takes 0x44 c s →
    let stage := (s.stage.ready.toList ++ s.stage.assembly.toList).map fun x => Record.purged x.binding false
    let track := (s.track.recs.reverse.filterMap (·.content)).map fun x => Record.purged x.binding true
    let closed := allBins.filter fun b => (binRec b s).state == .opened
    let trays := closed.map fun b => Record.tray ((ownerOf b s).getD 0) .runClear b
        (binRec b s).tray (binRec b s).count (binRec b s).firstSeq (binRec b s).lastSeq
    (s.line.state ≠ .halted → s.line.state ≠ .paused →
      exec .clearRun s = .next (replied c .state [BitVec.ofNat 8 (lineCode s.line.state)] (handed c s))) ∧
    (s.line.state = .halted ∨ s.line.state = .paused → ∃ v, exec .clearRun s = .next (replied c .accepted
        (beBytes 2 (stage.length + track.length) ++ beBytes 1 closed.length ++ beBytes 2 s.acct.queue.length) v) ∧
      v.outcomes.recs = s.outcomes.recs ++ stage ++ track ++ trays ∧ v.outcomes.fetched = s.outcomes.fetched ∧
      (∀ k, 1 ≤ k → k ≤ 31 → vget v.outcomes.counters (k - 1) =
        if k = 6 then min 4294967295 (stage.length + track.length) else if k = 10 then closed.length else 0) ∧
      v.stage = Stage.cold ∧ v.acct = AccountQueue.cold ∧ v.track.recs = s.track.recs.map (fun r => newPocket r.pocket) ∧
      v.track.envCount = 0 ∧ v.track.calCount = 0 ∧ v.track.gateCount = 0 ∧ v.track.sortCount = 0 ∧
      v.tables = { s.tables with staged := Staged.none } ∧ v.line.state = .halted ∧ v.line.retry = 0 ∧ v.line.clean = 0 ∧
      v.line.drainPending = false ∧ v.line.prev = (if s.line.state = .paused then .paused else s.line.prev) ∧
      v.line.lastCause = (if s.line.state = .paused then 0 else s.line.lastCause) ∧
      latch .groupExhausted v = { latch .groupExhausted s with
        state := if up .groupExhausted s then .latched else (latch .groupExhausted s).state } ∧
      (∀ b, 1 ≤ b → b ≤ 16 →
        binRec b v = if (binRec b s).state = .opened then { binRec b s with state := .full, count := 0 } else binRec b s) ∧
      (∀ g, g < 64 → groupRec g v = { groupRec g s with
        index := 0, tray := 1, state := if (groupRec g s).rotation = [] then .unused else .active }) ∧
      (∀ k, 1 ≤ k → k ≤ 12 → feederRec k v = { feederRec k s with misses := 0, timing := 0 }) ∧
      v.pins = s.pins ∧ v.loop.noticeMask = s.loop.noticeMask)

/-- DEVICE RESET (R33): STATE with the drive on; accepted otherwise, from when the dispatcher takes no request. Once its REPLY has
been sent every block takes its device-reset values: the cold values, but for the kept line profile and node table and what
follows from them (R16, R34, R53, R70, R90, R109, R127, R144, R162, R171); ESTOP_N is read as it stands (R15) and the roll timer
starts (R21). Until then its effect's command changes nothing (log 2). The model's choices in it: the dispatcher is idle
afterwards (log 10), the cell then on LOOP_OUT and the side last sent from are dropped (log 12), and the values for which the spec
states none (log 20). -/
def Obligations.DeviceResetKeepsProfileAndNodes : Prop :=
  (∀ (c : Cell) (s : State), Takes 0x45 c s →
    (s.pitch.driveEn = true → exec .deviceReset s = .next (replied c .state [] (handed c s))) ∧
    (s.pitch.driveEn = false → exec .deviceReset s = .next (replied c .accepted [] { handed c s with
      loop := { (handed c s).loop with dispatcher := { Dispatcher.idle with reset := .accepted } } }))) ∧
  (∀ s : State, s.pins.resetN = true →
    (s.loop.dispatcher.reset ≠ .sent → exec .deviceResetEffect s = .next s) ∧
    (s.loop.dispatcher.reset = .sent →
      let loop := { LoopIf.cold with rollTimer := some 0, nodeRecs := List.replicate (nodesOf s).length NodeRec.fresh }
      let tables := { TableStore.cold with profile := s.tables.profile, node := s.tables.node }
      let recs := match profileOf s with
        | some p => List.replicate p.trackLen (newPocket none)
        | none => []
      ∃ t, exec .deviceResetEffect s = .next t ∧ t.pins = s.pins ∧ t.pending = s.pending ∧ t.draws = s.draws ∧
        t.pitch = { PitchUnit.cold with estopAsserted := !s.pins.estopN } ∧ t.tables = tables ∧ t.acct = AccountQueue.cold ∧
        t.stage = Stage.cold ∧ t.track = { TrackUnit.cold with recs := recs, positions := s.tables.node.state == .valid } ∧ t.presort = Presort.cold ∧
        t.outcomes = Outcomes.cold ∧ t.feeders.pairs = FeederMgr.cold.pairs ∧
        (∀ k, 1 ≤ k → k ≤ 12 → feederRec k t = {
          state := if (nodeOf .insertFeeder k s).isSome then .ready else .none, misses := 0, timing := 0 }) ∧
        (s.pins.estopN = true → t.loop = loop ∧ t.line = LineCtl.cold) ∧
        (s.pins.estopN = false → t.line.state = .halted ∧ t.loop.nodeRecs = loop.nodeRecs ∧ t.loop.rollTimer = some 0 ∧
          latch .estop t = { state := .active, occurrence := 1, sort := 0, number := 0, raisings := 1 })))

/-- NOTICE MASK (R32), in every line state: the five classes take the values of byte 4, the reply gives the mask before, in data
byte 0 with bit n-1 for class n (R32 gives no bytes for it: the model's choice, log 45); a notice asked for is judged against the
mask as it then stands. Every class is on after a cold reset and after a device reset; a run clear leaves the mask. -/
def Obligations.NoticeMaskReplacesTheMask : Prop :=
  (∀ (c : Cell) (s : State), Takes 0x46 c s →
    let m := s.loop.noticeMask
    let bit := fun i => if vget m i then 1 else 0
    exec .noticeMask s = .next (replied c .accepted [BitVec.ofNat 8 (bit 0 + 2 * bit 1 + 4 * bit 2 + 8 * bit 3 + 16 * bit 4)]
      { handed c s with loop := { (handed c s).loop with noticeMask := Vector.ofFn fun i => (payByte c 4).testBit i.val } })) ∧
  (∀ (cls : Nat) (data : List Byte) (s : State), 1 ≤ cls → cls ≤ 5 →
    (vget s.loop.noticeMask (cls - 1) = false → notice cls data s = s) ∧
    (vget s.loop.noticeMask (cls - 1) = true → notice cls data s = { s with
      loop := (noticeDests s).foldl (LoopIf.placeNotice cls data) s.loop })) ∧
  (∀ s : State, ∃ t, exec .coldReset s = .next t ∧ t.loop.noticeMask = Vector.replicate 5 true) ∧
  (∀ s : State, s.pins.resetN = true → s.loop.dispatcher.reset = .sent →
    ∃ t, exec .deviceResetEffect s = .next t ∧ t.loop.noticeMask = Vector.replicate 5 true) ∧
  (∀ (c : Cell) (s : State), Takes 0x44 c s → ∃ t, exec .clearRun s = .next t ∧ t.loop.noticeMask = s.loop.noticeMask)

/-! ### The take, the track and the trays -/

/-- A take (R59, R61) at the Account Queue's turn of a pitch notice in RUNNING, every condition of R59 met: an ongoing feed hold
ends with its notice (R63); with the staging hold off and a slot present every slot's value replaces its working value and the
slots empty, a changed fold or envelope class setting the settling counter to 2 and a pair slot followed by the evaluation of the
pairs (R50, R51); the settling counter answers whether the set is unsettled and decreases (R51); the pull list is searched, a ONCE
entry leaving and a STANDING one counting its hit (R68); the head record leaves the queue and taken is counted; the assembly slot
holds its set, ORDERED with its rebind unspent, the working values captured and the presort group looked up (R47, R62, R72); FEED
SET is issued to the sheet station. -/
def Obligations.TakesBindTheHeadRecord : Prop :=
  ∀ (n : Notice) (r : Account) (rest : List Account) (w : Working) (s : State),
    s.line.state = .running → n.driveOn = true → n.counterValid = true → s.acct.queue = r :: rest → r.skipped = false →
    s.stage.assembly = none → (∀ d, lastStatusOf .sheetStation 0 s ≠ some (.empty, d)) →
    (∀ d, lastStatusOf .envStation 0 s ≠ some (.empty, d)) →
    (∀ i, i < 6 → vget s.feeders.pairs i = .none ∨ vget s.feeders.pairs i = .covered) → claims s + 3 ≤ free s →
    s.tables.work = some w →
    let ended := match s.acct.holdReason with
      | some h => notice 3 [2, BitVec.ofNat 8 (holdCode h)] { s with acct := { s.acct with holdReason := none } }
      | none => s
    let g := s.tables.staged
    let applies := decide (s.tables.hold = false ∧ g.count ≠ 0)
    let w' : Working := if applies then { w with
      tolerance := g.tolerance.getD w.tolerance, sheetCaliper := g.sheetCaliper.getD w.sheetCaliper
      envCaliper := g.envCaliper.getD w.envCaliper, fold := g.fold.getD w.fold, envClass := g.envClass.getD w.envClass
      missLimit := g.missLimit.getD w.missLimit, deadline := g.deadline.getD w.deadline
      feeders := Vector.ofFn fun i => { w.feeders[i] with
        caliper := g.calipers[i].getD w.feeders[i].caliper, pair := g.pairs[i].getD w.feeders[i].pair } } else w
    let settling := if w'.fold ≠ w.fold ∨ w'.envClass ≠ w.envClass then 2 else s.tables.settling
    let applied := if applies then { ended with tables := { s.tables with
        work := some w', staged := Staged.none, lastFold := some (w'.fold, w'.envClass), settling := settling } } else ended
    let judged := if applies && g.pairs.toList.any (·.isSome) then evalPairs applied else applied
    let found := s.tables.pull.find? fun e => e.key == r.key
    let pull := match found.map (·.kind) with
      | some .once => s.tables.pull.filter fun e => e.key != r.key
      | some .standing => s.tables.pull.map fun e =>
          if e.key = r.key then { e with hits := if e.hits < 255 then e.hits + 1 else e.hits } else e
      | none => s.tables.pull
    let set : SetRec := {
      binding := .account r.seq
      acct := some {
        key := r.key, pages := r.pages, inserts := r.inserts, matchReq := r.matchReq, envKey := r.envKey
        group := presortLookup r.postal s, pulled := found.isSome || r.prePull, recalled := r.recalled }
      state := .ordered, finish := none, rebindSpent := false, sheets := [], extraSheets := 0, firstTotal := none, balance := 0
      pitches := 0, maxSheets := w.maxSheets
      captured := some {
        tolerance := w'.tolerance, sheetCaliper := w'.sheetCaliper, envCaliper := w'.envCaliper, fold := w'.fold
        envClass := w'.envClass }
      marks := if settling = 0 then [] else [.unsettled], suspect := false, unsettled := settling != 0 }
    accountNotice n s = issueOrder (nodeOf .sheetStation 0 s)
      ([1, 255] ++ beBytes 3 r.seq ++ [BitVec.ofNat 8 w.maxSheets, BitVec.ofNat 8 w'.fold]) (bumpRun 1 { judged with
        acct := { judged.acct with queue := rest }
        tables := { judged.tables with settling := settling - 1, pull := pull }
        stage := { judged.stage with assembly := some set, freshTake := true } })

/-- What a pitch notice does at the account queue beside a take, and at the entry. In RUNNING with the drive ON and the counter
VALID, and in DRAINING with the drive ON (whatever the counter state: the model's choice, log 39), a skipped record leaves the
head with MISSING, skipped release, while free is at least claims plus 1, again and again (R60). In RUNNING the first condition of
R59 that then fails is the hold reason: none before begins a feed hold, another ends the old one and begins the new, the same
changes nothing (R63). A notice in any other state, with drive OFF, or in RUNNING with the counter INVALID does nothing (R59). At
the entry a vacancy made in RUNNING and still vacant counts as a gap pocket, and the new record stands in RUNNING or DRAINING
only, usable unless its pocket is a defect (R86); a release not confirmed by the notice marks its set STATION TIMING and is one
more miss, the third in a row raising STATION TIMING with the sheet station's address and returning the misses to 0 (R88; judged
before the deadline and before a release into the new entry pocket: the model's choice, log 40). -/
def Obligations.SkippedRecordsHoldsAndGapPockets : Prop :=
  ∀ (n : Notice) (s : State),
    let takes := s.line.state = .running ∧ n.driveOn = true ∧ n.counterValid = true
    let releases := takes ∨ s.line.state = .draining ∧ n.driveOn = true
    let hold := fun (r : HoldReason) (t : State) => { t with acct := { t.acct with holdReason := some r } }
    let reason : Option HoldReason :=
      if s.stage.assembly.isSome then some .stageBusy
      else if s.acct.queue.head?.any (·.skipped) then some .releaseWaiting
      else if s.acct.queue = [] then some .queueEmpty
      else if (lastStatusOf .sheetStation 0 s).any (fun p => p.1 == .empty) then some .sheetEmpty
      else if (lastStatusOf .envStation 0 s).any (fun p => p.1 == .empty) then some .envelopeEmpty
      else if (s.feeders.pairs.toList.any fun p => p == .allEmpty || p == .lost) then some .essentialEmpty
      else if free s < claims s + 3 then some .room
      else none
    (∀ r rest, s.acct.queue = r :: rest → r.skipped = true → claims s + 1 ≤ free s → releases →
      accountNotice n s = accountNotice n (bumpRun 1 (writeRecord (.missing r.seq .skippedRelease)
        { s with acct := { s.acct with queue := rest } }))) ∧
    ((s.acct.queue.head?.any (·.skipped)) = false ∨ free s ≤ claims s →
      (s.line.state = .draining → accountNotice n s = s) ∧
      (takes → ∀ h, reason = some h →
        (s.acct.holdReason = some h → accountNotice n s = s) ∧
        (s.acct.holdReason = none → accountNotice n s = notice 3 [1, BitVec.ofNat 8 (holdCode h)] (hold h s)) ∧
        (∀ old, s.acct.holdReason = some old → old ≠ h →
          accountNotice n s = notice 3 [1, BitVec.ofNat 8 (holdCode h)] (hold h
            (notice 3 [2, BitVec.ofNat 8 (holdCode old)] { s with acct := { s.acct with holdReason := none } }))))) ∧
    (¬releases → accountNotice n s = s) ∧
    (n.driveOn = false ∨ s.stage.assembly = none ∨ s.stage.freshTake = true →
      let counted := if ∃ v, s.stage.vacancy = some v ∧ v.inRunning = true ∧ v.vacant = true then bumpRun 11 s else s
      let entry := if n.driveOn = true ∧ n.counterValid = true ∧ (s.line.state = .running ∨ s.line.state = .draining) then
          n.entry.map fun p =>
            { pocket := p, usable := decide (p ∉ defectPockets s), vacant := true, inRunning := s.line.state == .running : Vacancy }
        else none
      (s.stage.releaseAwaited = none → collationNotice n s = { counted with stage := { s.stage with vacancy := entry } }) ∧
      (∀ p, s.stage.releaseAwaited = some p → s.stage.releaseMiss < 2 → collationNotice n s = markRelease p { counted with
        stage := { s.stage with vacancy := entry, releaseAwaited := none, releaseMiss := s.stage.releaseMiss + 1 } }) ∧
      (∀ p, s.stage.releaseAwaited = some p → s.stage.releaseMiss = 2 →
        let missed := markRelease p { counted with stage := { s.stage with vacancy := entry, releaseAwaited := none } }
        let t := collationNotice n s
        t = raise .stationTiming 1 (addrOf .sheetStation s) { missed with stage := { missed.stage with releaseMiss := 0 } } ∧
        t.stage.releaseMiss = 0 ∧ t.line.state = (if driveState s.line.state = true then .recovery else s.line.state) ∧
        (DriveFollowsLine s →
          latch .stationTiming t = { (latch .stationTiming s).raised 1 (addrOf .sheetStation s) with state := .latched })) ∧
      (∀ p, s.track.recs[1]?.map (·.pocket) = some (some p) → ∀ t, t.track = s.track →
        markRelease p t = markPocket 1 .stationTiming t) ∧
      (∀ p, s.track.recs[0]?.map (·.pocket) = some (some p) → s.track.recs[1]?.map (·.pocket) ≠ some (some p) → ∀ t,
        t.track = s.track → markRelease p t = markPocket 0 .stationTiming t))

/-- The presort lookup (R128): group 0 for a code with a non-digit, while the scheme is not VALID, and when no entry covers the
code's leading digits; otherwise the group of the entry of the greatest digit length, not above the digits given, whose range
holds the number the leading digits make (of which a committed scheme has one: R44). The insert plan of a set that enters the
track (R116): empty for a marked or suspect set; for a clean one its account's selected feeders are considered, present ones first
by position, then the others by number. An available feeder is planned; for another its alternate, if available, not selected and
not planned already; with neither, INSERT UNAVAILABLE marks the set and its plan is empty. The entries are PENDING, by position.
-/
def Obligations.LookupAndInsertPlan : Prop :=
  (∀ (postal : List Nat) (s : State),
    let number := fun l : List Nat => Nat.ofDigits 10 l.reverse
    let covers := fun (len : Nat) (e : SchemeEntry) => e ∈ schemeOf s ∧ e.digits = len ∧ len ≤ postal.length ∧
      e.low ≤ number (postal.take len) ∧ number (postal.take len) ≤ e.high
    let lengths := [11, 9, 5, 3]
    ((∃ d ∈ postal, 10 ≤ d) → presortLookup postal s = 0) ∧
    (s.tables.scheme.state ≠ .valid → presortLookup postal s = 0) ∧
    ((∀ len ∈ lengths, ∀ e, ¬covers len e) → presortLookup postal s = 0) ∧
    ((∀ d ∈ postal, d < 10) → ∀ len ∈ lengths, ∀ e, covers len e → (∀ e', covers len e' → e' = e) →
      (∀ m ∈ lengths, len < m → ∀ e', ¬covers m e') → presortLookup postal s = e.group)) ∧
  (∀ (x : SetRec) (s : State),
    let ready := fun k : Nat => (feederRec k s).state = .ready
    let place := fun k : Nat => (nodeOf .insertFeeder k s).map (·.position)
    (clean x = false → insertPlan x s = (x, [])) ∧
    (∀ f, clean x = true → x.acct = some f → f.inserts.Pairwise (· < ·) → ∃ order : List Nat, order.Perm f.inserts ∧
      order.Pairwise (fun a b => match place a, place b with
        | some p, some q => p ≤ q
        | some _, none => True
        | none, some _ => False
        | none, none => a < b) ∧
      let add := fun (l : List Nat) (k : Nat) =>
        let a := (feederJob k s).alternate
        if ready k then some (l ++ [k])
        else if ready a ∧ a ≠ 0 ∧ a ∉ f.inserts ∧ a ∉ l then some (l ++ [a])
        else none
      match order.foldlM add [] with
      | some planned => ∃ plan, insertPlan x s = (x, plan) ∧ plan.Pairwise (fun a b => a.position ≤ b.position) ∧
          plan.Perm (planned.map fun k => { feeder := k, position := (place k).getD 0, result := .pending })
      | none => insertPlan x s = ({ x with marks := [.insertUnavailable] }, [])))

/-- An arrival with the drive on (R93): a set pocket at a feeder receives FEED, awaited with the feeder's window, when it is
clean, its plan names the feeder and the feeder is READY, SKIP otherwise (R117); at E-1 it awaits the reader with no window; at
the envelope station it receives INSERT when clean and HOLD otherwise (R124); at the caliper MEASURE with the expected thickness
when INSERTED, SKIP otherwise (R125). At the divert gate a clean set and an EMPTY pocket receive PASS, a marked or suspect set
DIVERT, a record with no pocket number nothing (R94). At the sorter a set's exit decision is made for its group
(ExitDecisionsPlaceAPiece) and stored, and BIN is issued with its bin, 0 when held, and its seq (R106). Elsewhere an EMPTY record
receives nothing. No order changes another record. The arrivals of a notice (R93, R101) are one for each node with a position on
the track of the VALID node table whose positions the Track Unit has, in ascending position: with the drive ON as told here, with
it OFF as DeparturesWriteTheOutcomes tells. -/
def Obligations.ArrivalsOrderTheStations : Prop :=
  (∀ (on : Bool) (s : State), ∃ stations : List NodeEntry,
    stations.Perm (if s.track.positions = true then
      (nodesOf s).filter fun n => decide (n.role ∈
        [some Role.insertFeeder, some .envReader, some .envStation, some .caliper, some .divertGate, some .sorter]) else []) ∧
    stations.Pairwise (fun a b => a.position ≤ b.position) ∧
    trackArrive on s = stations.foldl (fun t n => if on = true then arriveAt t n else arriveOff t n) s) ∧
  ∀ (n : NodeEntry) (r : PocketRec) (s : State), s.track.recs[n.position]? = some r →
    let put := fun r' : PocketRec => { s with track := { s.track with recs := s.track.recs.set n.position r' } }
    let pocket : Byte := BitVec.ofNat 8 (r.pocket.getD 0)
    let awaiting := fun (role : Role) (subtype : Nat) =>
      some (Awaited.mk role n.feeder subtype (some (n.windowOpen, n.windowClose)))
    (∀ x, r.content = some x →
      let named := r.plan.any fun e => e.feeder == n.feeder
      let unavailable := r.plan.map fun e => if e.feeder = n.feeder then { e with result := .unavailable } else e
      (n.role = some .insertFeeder →
        (clean x = true → named = true → (feederRec n.feeder s).state = .ready →
          arriveAt s n = issueOrder n [3, pocket] (put { r with awaited := awaiting .insertFeeder 3 })) ∧
        (clean x = true → named = true → (feederRec n.feeder s).state ≠ .ready →
          arriveAt s n = issueOrder n [4, pocket] (put { r with
            plan := unavailable, content := some { x with marks := addMark .insertUnavailable x.marks } })) ∧
        (clean x = true → named = false → arriveAt s n = issueOrder n [4, pocket] s) ∧
        (clean x = false → arriveAt s n = issueOrder n [4, pocket] (put { r with plan := unavailable }))) ∧
      (n.role = some .envReader →
        arriveAt s n = put { r with awaited := some (Awaited.mk .envReader n.feeder 0 none) }) ∧
      (n.role = some .envStation →
        (clean x = true → arriveAt s n = issueOrder n [5, pocket] (put { r with awaited := awaiting .envStation 5 })) ∧
        (clean x = false → arriveAt s n = issueOrder n [6, pocket] (put { r with awaited := awaiting .envStation 6 }))) ∧
      (n.role = some .caliper →
        (∀ cap, r.stationPart = .inserted → x.captured = some cap →
          let fed := ((r.plan.filter fun e => e.result == .fed).map fun e => (feederJob e.feeder s).caliper).sum
          let sheets := x.sheets.length + x.extraSheets
          arriveAt s n = issueOrder n [7, pocket] (put { r with
            expected := some (min 65535 (cap.envCaliper + sheets * cap.sheetCaliper + fed))
            awaited := awaiting .caliper 7 })) ∧
        (r.stationPart ≠ .inserted → arriveAt s n = issueOrder n [4, pocket] s)) ∧
      (n.role = some .sorter →
        let seq := match x.binding with
          | .account q => q
          | .stray o => o.getD 0
        let made := exitDecision ((x.acct.map (·.group)).getD 0) seq s
        let bin := match made.2 with
          | .binned b _ _ _ => b
          | .held _ _ => 0
        arriveAt s n = issueOrder n ([10, pocket, BitVec.ofNat 8 bin] ++ beBytes 3 seq) { made.1 with
          track := { s.track with
            recs := s.track.recs.set n.position { r with exitDecision := some made.2, awaited := awaiting .sorter 10 } } })) ∧
    (n.role = some .divertGate →
      ((∃ x, r.content = some x ∧ clean x = true) ∨ (r.content = none ∧ r.pocket.isSome = true) →
        arriveAt s n = issueOrder n [9, pocket] (put { r with gateOrder := .pass, awaited := awaiting .divertGate 9 })) ∧
      (∀ x, r.content = some x → clean x = false →
        arriveAt s n = issueOrder n [8, pocket] (put { r with gateOrder := .divert, awaited := awaiting .divertGate 8 })) ∧
      (r.content = none → r.pocket = none → arriveAt s n = put { r with gateOrder := .none })) ∧
    (n.role ≠ some .divertGate → r.content = none → arriveAt s n = s)

/-- The close of a pitch: every record's awaited field becomes none, and a report still awaited is judged at the record's position
(R98), position by position from the entry (the model's order, log 27). The reader's counts as a no-read (R97, R123), with no
timing error. Any other is missing: STATION TIMING marks a set below D, and at the envelope station and the caliper the count
increases, the third raising STATION TIMING with the station's address and returning it to 0 (R99); the set is marked STATION
TIMING before the raising's RECOVERY entry marks it SUSPECT (the model's choice, log 46). The divert gate's or the sorter's raises
it at once and returns the count to 0 (R100), once also with the count at 2 (the model's choice, log 41). A feeder's makes its
plan entry MISS and its timing errors one more, its misses as they stand; at 3 a READY or EMPTY feeder becomes FAULTED (R119,
R120). -/
def Obligations.MissingReportsAreJudgedAtTheClose : Prop :=
  (∀ s : State, trackClose s = (List.range s.track.recs.length).foldl closeAt s) ∧
  ∀ (p : Nat) (r : PocketRec) (s : State), s.track.recs[p]? = some r →
    (r.awaited = none → closeAt s p = s) ∧
    ∀ a, r.awaited = some a →
      let mark := fun (why : Reason) (q : PocketRec) =>
        if belowGate p s then { q with content := q.content.map fun x => { x with marks := addMark why x.marks } } else q
      let put := fun q : PocketRec => { s with track := { s.track with recs := s.track.recs.set p q } }
      let missing := put (mark .stationTiming { r with awaited := none })
      let raised := ∃ t, closeAt s p = t ∧ stationCount a.role t.track = 0 ∧
        t.track.recs = (if driveState s.line.state then (suspectTrack missing).track.recs else missing.track.recs) ∧
        latch .stationTiming t = { (latch .stationTiming s).raised 1 (addrOf a.role s) with state := .latched } ∧
        t.line.state = (if driveState s.line.state then .recovery else s.line.state)
      (a.role = .envReader → ∀ x, r.content = some x →
        ((∃ f, x.acct = some f ∧ f.matchReq = true) →
          closeAt s p = put (mark .envNoRead { r with awaited := none, readPart := .noread })) ∧
        ((∀ f, x.acct = some f → f.matchReq = false) →
          closeAt s p = put { r with awaited := none, readPart := .notRequired })) ∧
      (a.role = .envStation ∨ a.role = .caliper →
        (stationCount a.role s.track < 2 → closeAt s p = putCount a.role (stationCount a.role s.track + 1) missing) ∧
        (stationCount a.role s.track = 2 → DriveFollowsLine s → raised)) ∧
      (a.role = .divertGate ∨ a.role = .sorter → DriveFollowsLine s → raised) ∧
      (a.role = .insertFeeder → 1 ≤ a.feeder → a.feeder ≤ 12 →
        let f := feederRec a.feeder s
        let counted := { f with timing := if f.timing < 3 then f.timing + 1 else f.timing }
        let missed := put (mark .stationTiming { r with
          awaited := none, plan := r.plan.map fun e => if e.feeder = a.feeder then { e with result := .miss } else e })
        let trips := counted.timing = 3 ∧ (f.state = .ready ∨ f.state = .empty)
        (¬trips → closeAt s p = { missed with
          feeders := { s.feeders with recs := vset s.feeders.recs (a.feeder - 1) counted } }) ∧
        (trips → ∃ t, closeAt s p = t ∧ t.track = missed.track ∧ feederRec a.feeder t = { counted with state := .faulted } ∧
          (∀ k, 1 ≤ k → k ≠ a.feeder → feederRec k t = feederRec k s) ∧
          latch .feederFault t = (latch .feederFault s).raised 2 a.feeder ∧ t.stage = s.stage ∧ t.presort = s.presort ∧
          t.tables = s.tables ∧ t.outcomes = s.outcomes))

/-- The departures of a pitch notice. At D with drive ON a set ordered DIVERT leaves with its DIVERTED record, or STRAY for a
stray set, whose principal reason is the first mark (R105); one ordered PASS moves on as it stands (R106); with no order, or with
drive OFF, it leaves LOST at D (R108). At X a set with an exit decision leaves MAILED, or HELD for bin 0 (R107); with none, or
with drive OFF, LOST at X. The record that stays is EMPTY with its plan, results and thickness as at its creation. With drive OFF
a set that arrives at a feeder, at E-1, at E or at C becomes suspect; at the divert gate and the sorter nothing is done (R108). -/
def Obligations.DeparturesWriteTheOutcomes : Prop :=
  ∀ (x : SetRec) (r : PocketRec) (s : State), r.content = some x →
    let gone := fun p : Nat => { s with track := { s.track with recs := s.track.recs.set p { r with
      content := none, plan := [], readPart := .none, stationPart := .none, caliper := none, expected := none } } }
    (∀ d, positionOf .divertGate s = some d → s.track.recs[d]? = some r →
      (∀ why more, r.gateOrder = .divert → x.marks = why :: more →
        (∀ seq, x.binding = .account seq →
          departGate true s = writeRecord (.diverted seq why (more.length + 1) r.gateConfirmed) (gone d)) ∧
        (∀ o, x.binding = .stray o →
          departGate true s = writeRecord (.stray o r.gateConfirmed why (more.length + 1)) (gone d))) ∧
      (r.gateOrder = .pass → departGate true s = s) ∧
      (r.gateOrder = .none → departGate true s = writeRecord (.lost x.binding false) (gone d)) ∧
      departGate false s = writeRecord (.lost x.binding false) (gone d)) ∧
    (∀ last, s.track.recs.length = last + 1 → s.track.recs[last]? = some r →
      (∀ seq b g t p, x.binding = .account seq → r.exitDecision = some (.binned b g t p) →
        departExit true s = writeRecord (.mailed seq g b t p r.binConfirmed) (gone last)) ∧
      (∀ seq g why, x.binding = .account seq → r.exitDecision = some (.held g why) →
        departExit true s = writeRecord (.held seq g why) (gone last)) ∧
      (r.exitDecision = none → departExit true s = writeRecord (.lost x.binding true) (gone last)) ∧
      departExit false s = writeRecord (.lost x.binding true) (gone last)) ∧
    (∀ (y : PocketRec) (on : Bool), y.content = none →
      (∀ d, positionOf .divertGate s = some d → s.track.recs[d]? = some y → departGate on s = s) ∧
      (∀ last, s.track.recs.length = last + 1 → s.track.recs[last]? = some y → departExit on s = s)) ∧
    (∀ m : NodeEntry, s.track.recs[m.position]? = some r →
      (m.role ∈ [some Role.insertFeeder, some .envReader, some .envStation, some .caliper] → arriveOff s m = { s with
        track := { s.track with recs := s.track.recs.set m.position { r with content := some { x with
          suspect := true, marks := if x.suspect ∨ .suspect ∈ x.marks then x.marks else x.marks ++ [.suspect] } } } }) ∧
      (m.role ∈ [some Role.divertGate, some .sorter] → arriveOff s m = s))

/-- A READY set is released exactly when an entry vacancy is usable and still vacant, the line is RUNNING or DRAINING and DRIVE_EN
is asserted (R87): RELEASE with the pocket number is issued to the sheet station, the vacancy is no longer vacant, the station's
confirmation is awaited (R88), and a finished set waiting in the assembly slot moves up (R82). The set becomes the content, with
its insert plan (R116), of the EMPTY record that holds the pocket: at position 0 at once, nothing else changing; where a pitch
notice is not yet taken by the Track Unit, after that notice, marked suspect if the notice's timing errors asked for it; at
position 1 with the arrival of the station that stands there made at once. A release whose pocket stands at neither, or is not
EMPTY, is refused: the set is written LOST with departure at D (R102). -/
def Obligations.ReleaseEntersTheTrack : Prop :=
  ∀ s : State,
    let nextUp := fun stage : Stage => match stage.assembly with
      | some y => if y.finish.isSome = true then { stage with assembly := none, ready := some { y with state := .ready } }
        else { stage with ready := none }
      | none => { stage with ready := none }
    let enters := fun (p : Nat) (x : SetRec) (r : PocketRec) (t : State) => { t with
      track := { t.track with recs := t.track.recs.set p { r with content := some (insertPlan x t).1, plan := (insertPlan x t).2 } } }
    let holds := fun (p pocket : Nat) (t : State) => ∃ r, t.track.recs[p]? = some r ∧ r.pocket = some pocket ∧ r.content = none
    (∀ p, releasePocket s = some p ↔ s.stage.ready.isSome = true ∧
      (∃ v, s.stage.vacancy = some v ∧ v.pocket = p ∧ v.usable = true ∧ v.vacant = true) ∧
      (s.line.state = .running ∨ s.line.state = .draining) ∧ s.pitch.driveEn = true) ∧
    (releasePocket s = none → tryRelease s = s) ∧
    (∀ p x, releasePocket s = some p → s.stage.ready = some x →
      let vacancy := s.stage.vacancy.map fun v => { v with vacant := false }
      let issued := issueOrder (nodeOf .sheetStation 0 s) [2, BitVec.ofNat 8 p]
        { s with stage := { s.stage with vacancy := vacancy, releaseAwaited := some p } }
      (∀ r, s.track.recs[0]? = some r → r.pocket = some p → r.content = none →
        tryRelease s = enters 0 x r { issued with stage := nextUp issued.stage }) ∧
      (¬holds 0 p s →
        let took := match s.track.due with
          | some n => trackNotice n issued
          | none => issued
        ∃ y, took.stage.ready = some y ∧ (y = x ∨ y = markSuspect x) ∧ (s.track.due = none → y = x) ∧
          tryRelease s = placeSet p y { took with stage := nextUp took.stage })) ∧
    (∀ p x,
      (∀ r, s.track.recs[0]? = some r → r.pocket = some p → r.content = none → placeSet p x s = enters 0 x r s) ∧
      (∀ r, ¬holds 0 p s → s.track.recs[1]? = some r → r.pocket = some p → r.content = none →
        let stations := if s.track.positions = true then (nodesOf s).filter fun n => n.position == 1 && decide (n.role ∈
          [some Role.insertFeeder, some .envReader, some .envStation, some .caliper, some .divertGate, some .sorter]) else []
        (stations = [] → placeSet p x s = enters 1 x r s) ∧
        (∀ n, stations = [n] → placeSet p x s = arriveAt (enters 1 x r s) n)) ∧
      (¬holds 0 p s → ¬holds 1 p s → placeSet p x s = writeRecord (.lost x.binding false) s))

/-- The exit decision (R132, R133, R136). A piece of an UNUSED or an EXHAUSTED group goes to the overflow bin with that reason,
and the overflow count increases, up to 65,535, with a notice when the increase reaches a warning level that is not 0. For an
ACTIVE group the search starts at the current index: SINGLE passes to the list's end, LOOP once round it. At the first usable bin
the index stays; a READY bin opens with the group's tray number, an OPEN one counts on; a piece that fills the bin, of capacity 1
too, closes the tray FILLED, and the index advances, in a LOOP group back to 0 from the end, where a SINGLE group becomes
EXHAUSTED. With no usable bin the group becomes EXHAUSTED, the index at the end of a SINGLE list and where it stood in a LOOP
list, and the piece is held. A STOP group that becomes EXHAUSTED raises its condition (R134). That its notices come before the
OVERFLOW notice of the same event is the model's order (log 15). -/
def Obligations.ExitDecisionsPlaceAPiece : Prop :=
  ∀ (g seq : Nat) (s : State), g < 64 →
    let r := groupRec g s
    let spill := fun t : State =>
      let n := if t.presort.overflow < 65535 then t.presort.overflow + 1 else t.presort.overflow
      let t' := { t with presort := { t.presort with overflow := n } }
      if t.presort.overflow < 65535 ∧ n = warningLevel t ∧ warningLevel t ≠ 0 then notice 5 (beBytes 2 n) t' else t'
    let stopped := fun t : State => if r.action = .stop then raise .groupExhausted 4 g t else t
    let usable := fun b : Nat => (binRec b s).state = .ready ∨ (binRec b s).state = .opened
    let place := fun i : Nat => r.rotation.getD i 0
    let last := r.rotation.length - 1
    let found := fun i : Nat => i < r.rotation.length ∧ usable (place i) ∧
      (r.mode = .single → r.index ≤ i ∧ ∀ j, r.index ≤ j → j < i → ¬usable (place j)) ∧
      (r.mode = .loop → ∃ k, k < r.rotation.length ∧ i = (r.index + k) % r.rotation.length ∧
        ∀ j, j < k → ¬usable (place ((r.index + j) % r.rotation.length)))
    (r.state = .unused → exitDecision g seq s = (spill s, .held g .unusedGroup)) ∧
    (r.state = .exhausted → exitDecision g seq s = (spill s, .held g .exhausted)) ∧
    (r.state = .active → r.index < r.rotation.length →
      (∀ i, found i → 1 ≤ place i → place i ≤ 16 →
        let b := place i
        let fresh := decide ((binRec b s).state = .ready)
        let bin : BinRec := if fresh then { state := .opened, count := 0, tray := r.tray, firstSeq := seq, lastSeq := seq } else binRec b s
        let tray := if fresh then (if r.tray < 65535 then r.tray + 1 else 1) else r.tray
        let counted := fun (bins : BinRec) (groups : GroupRec) => { s with presort := { s.presort with
          bins := vset s.presort.bins (b - 1) bins, groups := vset s.presort.groups g groups } }
        let decision := ExitDecision.binned b g bin.tray (bin.count + 1)
        (capacityOf b s ≠ bin.count + 1 → exitDecision g seq s =
          (counted { bin with count := bin.count + 1, lastSeq := seq } { r with index := i, tray := tray }, decision)) ∧
        (capacityOf b s = bin.count + 1 → ownerOf b s = some g →
          let spent := decide (i = last ∧ r.mode = .single)
          let filled := writeRecord (.tray g .filled b bin.tray (bin.count + 1) bin.firstSeq seq)
            (counted { bin with state := .full, count := 0, lastSeq := seq } { r with
              index := if i < last then i + 1 else if spent then i else 0
              tray := tray, state := if spent then .exhausted else .active })
          exitDecision g seq s = (if spent then stopped filled else filled, decision))) ∧
      ((∀ i, (r.mode = .single → r.index ≤ i) → i < r.rotation.length → ¬usable (place i)) →
        exitDecision g seq s = (spill (stopped { s with presort := { s.presort with
          groups := vset s.presort.groups g { r with
            index := if r.mode = .single then last else r.index, state := .exhausted } } }), .held g .exhausted)))
end

