-- ==== Sys2Proof/Laws/State.lean ====
section
/-! SUPPORT. What each field of State is after each plain update. -/

namespace Sys2Proof.Machine

variable (s : State)

@[simp] theorem putPitch_pins (p : PitchUnit) : (putPitch p s).pins = s.pins := rfl
@[simp] theorem putPitch_pitch (p : PitchUnit) : (putPitch p s).pitch = p := rfl
@[simp] theorem putPitch_loop (p : PitchUnit) : (putPitch p s).loop = s.loop := rfl
@[simp] theorem putPitch_tables (p : PitchUnit) : (putPitch p s).tables = s.tables := rfl
@[simp] theorem putPitch_acct (p : PitchUnit) : (putPitch p s).acct = s.acct := rfl
@[simp] theorem putPitch_stage (p : PitchUnit) : (putPitch p s).stage = s.stage := rfl
@[simp] theorem putPitch_track (p : PitchUnit) : (putPitch p s).track = s.track := rfl
@[simp] theorem putPitch_feeders (p : PitchUnit) : (putPitch p s).feeders = s.feeders := rfl
@[simp] theorem putPitch_presort (p : PitchUnit) : (putPitch p s).presort = s.presort := rfl
@[simp] theorem putPitch_line (p : PitchUnit) : (putPitch p s).line = s.line := rfl
@[simp] theorem putPitch_outcomes (p : PitchUnit) : (putPitch p s).outcomes = s.outcomes := rfl
@[simp] theorem putPitch_draws (p : PitchUnit) : (putPitch p s).draws = s.draws := rfl
@[simp] theorem putPitch_pending (p : PitchUnit) : (putPitch p s).pending = s.pending := rfl

@[simp] theorem putLoop_pins (l : LoopIf) : (putLoop l s).pins = s.pins := rfl
@[simp] theorem putLoop_pitch (l : LoopIf) : (putLoop l s).pitch = s.pitch := rfl
@[simp] theorem putLoop_loop (l : LoopIf) : (putLoop l s).loop = l := rfl
@[simp] theorem putLoop_tables (l : LoopIf) : (putLoop l s).tables = s.tables := rfl
@[simp] theorem putLoop_acct (l : LoopIf) : (putLoop l s).acct = s.acct := rfl
@[simp] theorem putLoop_stage (l : LoopIf) : (putLoop l s).stage = s.stage := rfl
@[simp] theorem putLoop_track (l : LoopIf) : (putLoop l s).track = s.track := rfl
@[simp] theorem putLoop_feeders (l : LoopIf) : (putLoop l s).feeders = s.feeders := rfl
@[simp] theorem putLoop_presort (l : LoopIf) : (putLoop l s).presort = s.presort := rfl
@[simp] theorem putLoop_line (l : LoopIf) : (putLoop l s).line = s.line := rfl
@[simp] theorem putLoop_outcomes (l : LoopIf) : (putLoop l s).outcomes = s.outcomes := rfl
@[simp] theorem putLoop_draws (l : LoopIf) : (putLoop l s).draws = s.draws := rfl
@[simp] theorem putLoop_pending (l : LoopIf) : (putLoop l s).pending = s.pending := rfl

@[simp] theorem putStage_pins (t : Stage) : (putStage t s).pins = s.pins := rfl
@[simp] theorem putStage_pitch (t : Stage) : (putStage t s).pitch = s.pitch := rfl
@[simp] theorem putStage_loop (t : Stage) : (putStage t s).loop = s.loop := rfl
@[simp] theorem putStage_tables (t : Stage) : (putStage t s).tables = s.tables := rfl
@[simp] theorem putStage_acct (t : Stage) : (putStage t s).acct = s.acct := rfl
@[simp] theorem putStage_stage (t : Stage) : (putStage t s).stage = t := rfl
@[simp] theorem putStage_track (t : Stage) : (putStage t s).track = s.track := rfl
@[simp] theorem putStage_feeders (t : Stage) : (putStage t s).feeders = s.feeders := rfl
@[simp] theorem putStage_presort (t : Stage) : (putStage t s).presort = s.presort := rfl
@[simp] theorem putStage_line (t : Stage) : (putStage t s).line = s.line := rfl
@[simp] theorem putStage_outcomes (t : Stage) : (putStage t s).outcomes = s.outcomes := rfl
@[simp] theorem putStage_draws (t : Stage) : (putStage t s).draws = s.draws := rfl
@[simp] theorem putStage_pending (t : Stage) : (putStage t s).pending = s.pending := rfl

@[simp] theorem putTrack_pins (r : List PocketRec) : (putTrack r s).pins = s.pins := rfl
@[simp] theorem putTrack_pitch (r : List PocketRec) : (putTrack r s).pitch = s.pitch := rfl
@[simp] theorem putTrack_loop (r : List PocketRec) : (putTrack r s).loop = s.loop := rfl
@[simp] theorem putTrack_tables (r : List PocketRec) : (putTrack r s).tables = s.tables := rfl
@[simp] theorem putTrack_acct (r : List PocketRec) : (putTrack r s).acct = s.acct := rfl
@[simp] theorem putTrack_stage (r : List PocketRec) : (putTrack r s).stage = s.stage := rfl
@[simp] theorem putTrack_track (r : List PocketRec) : (putTrack r s).track = { s.track with recs := r } := rfl
@[simp] theorem putTrack_feeders (r : List PocketRec) : (putTrack r s).feeders = s.feeders := rfl
@[simp] theorem putTrack_presort (r : List PocketRec) : (putTrack r s).presort = s.presort := rfl
@[simp] theorem putTrack_line (r : List PocketRec) : (putTrack r s).line = s.line := rfl
@[simp] theorem putTrack_outcomes (r : List PocketRec) : (putTrack r s).outcomes = s.outcomes := rfl
@[simp] theorem putTrack_draws (r : List PocketRec) : (putTrack r s).draws = s.draws := rfl
@[simp] theorem putTrack_pending (r : List PocketRec) : (putTrack r s).pending = s.pending := rfl

@[simp] theorem putAcct_pins (a : AccountQueue) : (putAcct a s).pins = s.pins := rfl
@[simp] theorem putAcct_pitch (a : AccountQueue) : (putAcct a s).pitch = s.pitch := rfl
@[simp] theorem putAcct_loop (a : AccountQueue) : (putAcct a s).loop = s.loop := rfl
@[simp] theorem putAcct_tables (a : AccountQueue) : (putAcct a s).tables = s.tables := rfl
@[simp] theorem putAcct_acct (a : AccountQueue) : (putAcct a s).acct = a := rfl
@[simp] theorem putAcct_stage (a : AccountQueue) : (putAcct a s).stage = s.stage := rfl
@[simp] theorem putAcct_track (a : AccountQueue) : (putAcct a s).track = s.track := rfl
@[simp] theorem putAcct_feeders (a : AccountQueue) : (putAcct a s).feeders = s.feeders := rfl
@[simp] theorem putAcct_presort (a : AccountQueue) : (putAcct a s).presort = s.presort := rfl
@[simp] theorem putAcct_line (a : AccountQueue) : (putAcct a s).line = s.line := rfl
@[simp] theorem putAcct_outcomes (a : AccountQueue) : (putAcct a s).outcomes = s.outcomes := rfl
@[simp] theorem putAcct_draws (a : AccountQueue) : (putAcct a s).draws = s.draws := rfl
@[simp] theorem putAcct_pending (a : AccountQueue) : (putAcct a s).pending = s.pending := rfl

@[simp] theorem putLine_pins (l : LineCtl) : (putLine l s).pins = s.pins := rfl
@[simp] theorem putLine_pitch (l : LineCtl) : (putLine l s).pitch = s.pitch := rfl
@[simp] theorem putLine_loop (l : LineCtl) : (putLine l s).loop = s.loop := rfl
@[simp] theorem putLine_tables (l : LineCtl) : (putLine l s).tables = s.tables := rfl
@[simp] theorem putLine_acct (l : LineCtl) : (putLine l s).acct = s.acct := rfl
@[simp] theorem putLine_stage (l : LineCtl) : (putLine l s).stage = s.stage := rfl
@[simp] theorem putLine_track (l : LineCtl) : (putLine l s).track = s.track := rfl
@[simp] theorem putLine_feeders (l : LineCtl) : (putLine l s).feeders = s.feeders := rfl
@[simp] theorem putLine_presort (l : LineCtl) : (putLine l s).presort = s.presort := rfl
@[simp] theorem putLine_line (l : LineCtl) : (putLine l s).line = l := rfl
@[simp] theorem putLine_outcomes (l : LineCtl) : (putLine l s).outcomes = s.outcomes := rfl
@[simp] theorem putLine_draws (l : LineCtl) : (putLine l s).draws = s.draws := rfl
@[simp] theorem putLine_pending (l : LineCtl) : (putLine l s).pending = s.pending := rfl

@[simp] theorem putLatch_pins (k : LatchKind) (l : Latch) : (putLatch k l s).pins = s.pins := rfl
@[simp] theorem putLatch_pitch (k : LatchKind) (l : Latch) : (putLatch k l s).pitch = s.pitch := rfl
@[simp] theorem putLatch_loop (k : LatchKind) (l : Latch) : (putLatch k l s).loop = s.loop := rfl
@[simp] theorem putLatch_tables (k : LatchKind) (l : Latch) : (putLatch k l s).tables = s.tables := rfl
@[simp] theorem putLatch_acct (k : LatchKind) (l : Latch) : (putLatch k l s).acct = s.acct := rfl
@[simp] theorem putLatch_stage (k : LatchKind) (l : Latch) : (putLatch k l s).stage = s.stage := rfl
@[simp] theorem putLatch_track (k : LatchKind) (l : Latch) : (putLatch k l s).track = s.track := rfl
@[simp] theorem putLatch_feeders (k : LatchKind) (l : Latch) : (putLatch k l s).feeders = s.feeders := rfl
@[simp] theorem putLatch_presort (k : LatchKind) (l : Latch) : (putLatch k l s).presort = s.presort := rfl
@[simp] theorem putLatch_line (k : LatchKind) (l : Latch) : (putLatch k l s).line = { s.line with latches := vset s.line.latches (latchIdx k) l } := rfl
@[simp] theorem putLatch_outcomes (k : LatchKind) (l : Latch) : (putLatch k l s).outcomes = s.outcomes := rfl
@[simp] theorem putLatch_draws (k : LatchKind) (l : Latch) : (putLatch k l s).draws = s.draws := rfl
@[simp] theorem putLatch_pending (k : LatchKind) (l : Latch) : (putLatch k l s).pending = s.pending := rfl

@[simp] theorem bumpRun_pins (n : Nat) : (bumpRun n s).pins = s.pins := rfl
@[simp] theorem bumpRun_pitch (n : Nat) : (bumpRun n s).pitch = s.pitch := rfl
@[simp] theorem bumpRun_loop (n : Nat) : (bumpRun n s).loop = s.loop := rfl
@[simp] theorem bumpRun_tables (n : Nat) : (bumpRun n s).tables = s.tables := rfl
@[simp] theorem bumpRun_acct (n : Nat) : (bumpRun n s).acct = s.acct := rfl
@[simp] theorem bumpRun_stage (n : Nat) : (bumpRun n s).stage = s.stage := rfl
@[simp] theorem bumpRun_track (n : Nat) : (bumpRun n s).track = s.track := rfl
@[simp] theorem bumpRun_feeders (n : Nat) : (bumpRun n s).feeders = s.feeders := rfl
@[simp] theorem bumpRun_presort (n : Nat) : (bumpRun n s).presort = s.presort := rfl
@[simp] theorem bumpRun_line (n : Nat) : (bumpRun n s).line = s.line := rfl
@[simp] theorem bumpRun_outcomes (n : Nat) : (bumpRun n s).outcomes = { s.outcomes with counters := vmod s.outcomes.counters (n - 1) (satInc Config.counterMax) } := rfl
@[simp] theorem bumpRun_draws (n : Nat) : (bumpRun n s).draws = s.draws := rfl
@[simp] theorem bumpRun_pending (n : Nat) : (bumpRun n s).pending = s.pending := rfl

@[simp] theorem bumpLoop_pins (n : Nat) : (bumpLoop n s).pins = s.pins := rfl
@[simp] theorem bumpLoop_pitch (n : Nat) : (bumpLoop n s).pitch = s.pitch := rfl
@[simp] theorem bumpLoop_loop (n : Nat) : (bumpLoop n s).loop = s.loop.bump n := rfl
@[simp] theorem bumpLoop_tables (n : Nat) : (bumpLoop n s).tables = s.tables := rfl
@[simp] theorem bumpLoop_acct (n : Nat) : (bumpLoop n s).acct = s.acct := rfl
@[simp] theorem bumpLoop_stage (n : Nat) : (bumpLoop n s).stage = s.stage := rfl
@[simp] theorem bumpLoop_track (n : Nat) : (bumpLoop n s).track = s.track := rfl
@[simp] theorem bumpLoop_feeders (n : Nat) : (bumpLoop n s).feeders = s.feeders := rfl
@[simp] theorem bumpLoop_presort (n : Nat) : (bumpLoop n s).presort = s.presort := rfl
@[simp] theorem bumpLoop_line (n : Nat) : (bumpLoop n s).line = s.line := rfl
@[simp] theorem bumpLoop_outcomes (n : Nat) : (bumpLoop n s).outcomes = s.outcomes := rfl
@[simp] theorem bumpLoop_draws (n : Nat) : (bumpLoop n s).draws = s.draws := rfl
@[simp] theorem bumpLoop_pending (n : Nat) : (bumpLoop n s).pending = s.pending := rfl

@[simp] theorem modPocket_pins (p : Nat) (f : PocketRec → PocketRec) : (modPocket p f s).pins = s.pins := rfl
@[simp] theorem modPocket_pitch (p : Nat) (f : PocketRec → PocketRec) : (modPocket p f s).pitch = s.pitch := rfl
@[simp] theorem modPocket_loop (p : Nat) (f : PocketRec → PocketRec) : (modPocket p f s).loop = s.loop := rfl
@[simp] theorem modPocket_tables (p : Nat) (f : PocketRec → PocketRec) : (modPocket p f s).tables = s.tables := rfl
@[simp] theorem modPocket_acct (p : Nat) (f : PocketRec → PocketRec) : (modPocket p f s).acct = s.acct := rfl
@[simp] theorem modPocket_stage (p : Nat) (f : PocketRec → PocketRec) : (modPocket p f s).stage = s.stage := rfl
@[simp] theorem modPocket_track (p : Nat) (f : PocketRec → PocketRec) : (modPocket p f s).track = { s.track with recs := s.track.recs.modify p f } := rfl
@[simp] theorem modPocket_feeders (p : Nat) (f : PocketRec → PocketRec) : (modPocket p f s).feeders = s.feeders := rfl
@[simp] theorem modPocket_presort (p : Nat) (f : PocketRec → PocketRec) : (modPocket p f s).presort = s.presort := rfl
@[simp] theorem modPocket_line (p : Nat) (f : PocketRec → PocketRec) : (modPocket p f s).line = s.line := rfl
@[simp] theorem modPocket_outcomes (p : Nat) (f : PocketRec → PocketRec) : (modPocket p f s).outcomes = s.outcomes := rfl
@[simp] theorem modPocket_draws (p : Nat) (f : PocketRec → PocketRec) : (modPocket p f s).draws = s.draws := rfl
@[simp] theorem modPocket_pending (p : Nat) (f : PocketRec → PocketRec) : (modPocket p f s).pending = s.pending := rfl

@[simp] theorem putFeeder_pins (k : Nat) (r : FeederRec) : (putFeeder k r s).pins = s.pins := rfl
@[simp] theorem putFeeder_pitch (k : Nat) (r : FeederRec) : (putFeeder k r s).pitch = s.pitch := rfl
@[simp] theorem putFeeder_loop (k : Nat) (r : FeederRec) : (putFeeder k r s).loop = s.loop := rfl
@[simp] theorem putFeeder_tables (k : Nat) (r : FeederRec) : (putFeeder k r s).tables = s.tables := rfl
@[simp] theorem putFeeder_acct (k : Nat) (r : FeederRec) : (putFeeder k r s).acct = s.acct := rfl
@[simp] theorem putFeeder_stage (k : Nat) (r : FeederRec) : (putFeeder k r s).stage = s.stage := rfl
@[simp] theorem putFeeder_track (k : Nat) (r : FeederRec) : (putFeeder k r s).track = s.track := rfl
@[simp] theorem putFeeder_feeders (k : Nat) (r : FeederRec) : (putFeeder k r s).feeders = { s.feeders with recs := vset s.feeders.recs (k - 1) r } := rfl
@[simp] theorem putFeeder_presort (k : Nat) (r : FeederRec) : (putFeeder k r s).presort = s.presort := rfl
@[simp] theorem putFeeder_line (k : Nat) (r : FeederRec) : (putFeeder k r s).line = s.line := rfl
@[simp] theorem putFeeder_outcomes (k : Nat) (r : FeederRec) : (putFeeder k r s).outcomes = s.outcomes := rfl
@[simp] theorem putFeeder_draws (k : Nat) (r : FeederRec) : (putFeeder k r s).draws = s.draws := rfl
@[simp] theorem putFeeder_pending (k : Nat) (r : FeederRec) : (putFeeder k r s).pending = s.pending := rfl

@[simp] theorem putBin_pins (b : Nat) (r : BinRec) : (putBin b r s).pins = s.pins := rfl
@[simp] theorem putBin_pitch (b : Nat) (r : BinRec) : (putBin b r s).pitch = s.pitch := rfl
@[simp] theorem putBin_loop (b : Nat) (r : BinRec) : (putBin b r s).loop = s.loop := rfl
@[simp] theorem putBin_tables (b : Nat) (r : BinRec) : (putBin b r s).tables = s.tables := rfl
@[simp] theorem putBin_acct (b : Nat) (r : BinRec) : (putBin b r s).acct = s.acct := rfl
@[simp] theorem putBin_stage (b : Nat) (r : BinRec) : (putBin b r s).stage = s.stage := rfl
@[simp] theorem putBin_track (b : Nat) (r : BinRec) : (putBin b r s).track = s.track := rfl
@[simp] theorem putBin_feeders (b : Nat) (r : BinRec) : (putBin b r s).feeders = s.feeders := rfl
@[simp] theorem putBin_presort (b : Nat) (r : BinRec) : (putBin b r s).presort = { s.presort with bins := vset s.presort.bins (b - 1) r } := rfl
@[simp] theorem putBin_line (b : Nat) (r : BinRec) : (putBin b r s).line = s.line := rfl
@[simp] theorem putBin_outcomes (b : Nat) (r : BinRec) : (putBin b r s).outcomes = s.outcomes := rfl
@[simp] theorem putBin_draws (b : Nat) (r : BinRec) : (putBin b r s).draws = s.draws := rfl
@[simp] theorem putBin_pending (b : Nat) (r : BinRec) : (putBin b r s).pending = s.pending := rfl

@[simp] theorem modGroup_pins (g : Nat) (f : GroupRec → GroupRec) : (modGroup g f s).pins = s.pins := rfl
@[simp] theorem modGroup_pitch (g : Nat) (f : GroupRec → GroupRec) : (modGroup g f s).pitch = s.pitch := rfl
@[simp] theorem modGroup_loop (g : Nat) (f : GroupRec → GroupRec) : (modGroup g f s).loop = s.loop := rfl
@[simp] theorem modGroup_tables (g : Nat) (f : GroupRec → GroupRec) : (modGroup g f s).tables = s.tables := rfl
@[simp] theorem modGroup_acct (g : Nat) (f : GroupRec → GroupRec) : (modGroup g f s).acct = s.acct := rfl
@[simp] theorem modGroup_stage (g : Nat) (f : GroupRec → GroupRec) : (modGroup g f s).stage = s.stage := rfl
@[simp] theorem modGroup_track (g : Nat) (f : GroupRec → GroupRec) : (modGroup g f s).track = s.track := rfl
@[simp] theorem modGroup_feeders (g : Nat) (f : GroupRec → GroupRec) : (modGroup g f s).feeders = s.feeders := rfl
@[simp] theorem modGroup_presort (g : Nat) (f : GroupRec → GroupRec) : (modGroup g f s).presort = { s.presort with groups := vmod s.presort.groups g f } := rfl
@[simp] theorem modGroup_line (g : Nat) (f : GroupRec → GroupRec) : (modGroup g f s).line = s.line := rfl
@[simp] theorem modGroup_outcomes (g : Nat) (f : GroupRec → GroupRec) : (modGroup g f s).outcomes = s.outcomes := rfl
@[simp] theorem modGroup_draws (g : Nat) (f : GroupRec → GroupRec) : (modGroup g f s).draws = s.draws := rfl
@[simp] theorem modGroup_pending (g : Nat) (f : GroupRec → GroupRec) : (modGroup g f s).pending = s.pending := rfl

@[simp] theorem putPull_pins (l : List PullEntry) : (putPull l s).pins = s.pins := rfl
@[simp] theorem putPull_pitch (l : List PullEntry) : (putPull l s).pitch = s.pitch := rfl
@[simp] theorem putPull_loop (l : List PullEntry) : (putPull l s).loop = s.loop := rfl
@[simp] theorem putPull_tables (l : List PullEntry) : (putPull l s).tables = { s.tables with pull := l } := rfl
@[simp] theorem putPull_acct (l : List PullEntry) : (putPull l s).acct = s.acct := rfl
@[simp] theorem putPull_stage (l : List PullEntry) : (putPull l s).stage = s.stage := rfl
@[simp] theorem putPull_track (l : List PullEntry) : (putPull l s).track = s.track := rfl
@[simp] theorem putPull_feeders (l : List PullEntry) : (putPull l s).feeders = s.feeders := rfl
@[simp] theorem putPull_presort (l : List PullEntry) : (putPull l s).presort = s.presort := rfl
@[simp] theorem putPull_line (l : List PullEntry) : (putPull l s).line = s.line := rfl
@[simp] theorem putPull_outcomes (l : List PullEntry) : (putPull l s).outcomes = s.outcomes := rfl
@[simp] theorem putPull_draws (l : List PullEntry) : (putPull l s).draws = s.draws := rfl
@[simp] theorem putPull_pending (l : List PullEntry) : (putPull l s).pending = s.pending := rfl

@[simp] theorem putJammed_pins (l : List Nat) : (putJammed l s).pins = s.pins := rfl
@[simp] theorem putJammed_pitch (l : List Nat) : (putJammed l s).pitch = s.pitch := rfl
@[simp] theorem putJammed_loop (l : List Nat) : (putJammed l s).loop = s.loop := rfl
@[simp] theorem putJammed_tables (l : List Nat) : (putJammed l s).tables = s.tables := rfl
@[simp] theorem putJammed_acct (l : List Nat) : (putJammed l s).acct = s.acct := rfl
@[simp] theorem putJammed_stage (l : List Nat) : (putJammed l s).stage = s.stage := rfl
@[simp] theorem putJammed_track (l : List Nat) : (putJammed l s).track = s.track := rfl
@[simp] theorem putJammed_feeders (l : List Nat) : (putJammed l s).feeders = s.feeders := rfl
@[simp] theorem putJammed_presort (l : List Nat) : (putJammed l s).presort = s.presort := rfl
@[simp] theorem putJammed_line (l : List Nat) : (putJammed l s).line = { s.line with jammed := l } := rfl
@[simp] theorem putJammed_outcomes (l : List Nat) : (putJammed l s).outcomes = s.outcomes := rfl
@[simp] theorem putJammed_draws (l : List Nat) : (putJammed l s).draws = s.draws := rfl
@[simp] theorem putJammed_pending (l : List Nat) : (putJammed l s).pending = s.pending := rfl

@[simp] theorem putDispatcher_pins (d : Dispatcher) : (putDispatcher d s).pins = s.pins := rfl
@[simp] theorem putDispatcher_pitch (d : Dispatcher) : (putDispatcher d s).pitch = s.pitch := rfl
@[simp] theorem putDispatcher_loop (d : Dispatcher) : (putDispatcher d s).loop = { s.loop with dispatcher := d } := rfl
@[simp] theorem putDispatcher_tables (d : Dispatcher) : (putDispatcher d s).tables = s.tables := rfl
@[simp] theorem putDispatcher_acct (d : Dispatcher) : (putDispatcher d s).acct = s.acct := rfl
@[simp] theorem putDispatcher_stage (d : Dispatcher) : (putDispatcher d s).stage = s.stage := rfl
@[simp] theorem putDispatcher_track (d : Dispatcher) : (putDispatcher d s).track = s.track := rfl
@[simp] theorem putDispatcher_feeders (d : Dispatcher) : (putDispatcher d s).feeders = s.feeders := rfl
@[simp] theorem putDispatcher_presort (d : Dispatcher) : (putDispatcher d s).presort = s.presort := rfl
@[simp] theorem putDispatcher_line (d : Dispatcher) : (putDispatcher d s).line = s.line := rfl
@[simp] theorem putDispatcher_outcomes (d : Dispatcher) : (putDispatcher d s).outcomes = s.outcomes := rfl
@[simp] theorem putDispatcher_draws (d : Dispatcher) : (putDispatcher d s).draws = s.draws := rfl
@[simp] theorem putDispatcher_pending (d : Dispatcher) : (putDispatcher d s).pending = s.pending := rfl

@[simp] theorem takePositions_pins : (takePositions s).pins = s.pins := rfl
@[simp] theorem takePositions_pitch : (takePositions s).pitch = s.pitch := rfl
@[simp] theorem takePositions_loop : (takePositions s).loop = s.loop := rfl
@[simp] theorem takePositions_tables : (takePositions s).tables = s.tables := rfl
@[simp] theorem takePositions_acct : (takePositions s).acct = s.acct := rfl
@[simp] theorem takePositions_stage : (takePositions s).stage = s.stage := rfl
@[simp] theorem takePositions_track :
    (takePositions s).track = { s.track with positions := s.tables.node.state == .valid, due := none } := rfl
@[simp] theorem takePositions_feeders : (takePositions s).feeders = s.feeders := rfl
@[simp] theorem takePositions_presort : (takePositions s).presort = s.presort := rfl
@[simp] theorem takePositions_line : (takePositions s).line = s.line := rfl
@[simp] theorem takePositions_outcomes : (takePositions s).outcomes = s.outcomes := rfl
@[simp] theorem takePositions_draws : (takePositions s).draws = s.draws := rfl
@[simp] theorem takePositions_pending : (takePositions s).pending = s.pending := rfl

end Sys2Proof.Machine
end

