-- ==== Sys2Proof/Laws/Frames.lean ====
section
/-! SUPPORT. What the shared operations of the loop, the latches and the line leave as it was. -/

namespace Sys2Proof.Machine

variable (s : State)

@[simp] theorem LoopIf_bump_keeps (n : Nat) (l : LoopIf) :
    (l.bump n).mgmtIn = l.mgmtIn ∧ (l.bump n).rollSerial = l.rollSerial ∧ (l.bump n).returned = l.returned ∧
    (l.bump n).misses = l.misses ∧ (l.bump n).ringBreakUp = l.ringBreakUp ∧ (l.bump n).lastMask = l.lastMask ∧
    (l.bump n).nodeRecs = l.nodeRecs ∧ (l.bump n).lastManager = l.lastManager ∧ (l.bump n).noticeMask = l.noticeMask ∧
    (l.bump n).dispatcher = l.dispatcher := by simp [LoopIf.bump]

theorem ownNext_keeps (l : LoopIf) {c : Cell} {m : LoopIf} (h : l.ownNext = some (c, m)) :
    m.mgmtIn = l.mgmtIn ∧ m.rollSerial = l.rollSerial ∧ m.returned = l.returned ∧ m.misses = l.misses ∧
    m.ringBreakUp = l.ringBreakUp ∧ m.lastMask = l.lastMask ∧ m.nodeRecs = l.nodeRecs ∧ m.lastManager = l.lastManager ∧
    m.noticeMask = l.noticeMask ∧ m.dispatcher = l.dispatcher := by
  unfold LoopIf.ownNext at h
  split at h <;> simp_all <;> (obtain ⟨_, rfl⟩ := h; simp)

@[simp] theorem LoopIf_choose_keeps  (l : LoopIf) :
    (l.choose).mgmtIn = l.mgmtIn ∧ (l.choose).rollSerial = l.rollSerial ∧ (l.choose).returned = l.returned ∧
    (l.choose).misses = l.misses ∧ (l.choose).ringBreakUp = l.ringBreakUp ∧ (l.choose).lastMask = l.lastMask ∧
    (l.choose).nodeRecs = l.nodeRecs ∧ (l.choose).lastManager = l.lastManager ∧ (l.choose).noticeMask = l.noticeMask ∧
    (l.choose).dispatcher = l.dispatcher := by
  unfold LoopIf.choose
  split
  · simp
  · rename_i h; simpa using ownNext_keeps l h
  · simp
  · rename_i h; split
    · simp
    · simpa using ownNext_keeps l h

@[simp] theorem LoopIf_start_keeps  (l : LoopIf) :
    (l.start).mgmtIn = l.mgmtIn ∧ (l.start).rollSerial = l.rollSerial ∧ (l.start).returned = l.returned ∧
    (l.start).misses = l.misses ∧ (l.start).ringBreakUp = l.ringBreakUp ∧ (l.start).lastMask = l.lastMask ∧
    (l.start).nodeRecs = l.nodeRecs ∧ (l.start).lastManager = l.lastManager ∧ (l.start).noticeMask = l.noticeMask ∧
    (l.start).dispatcher = l.dispatcher := by unfold LoopIf.start; split <;> simp

@[simp] theorem LoopIf_order_keeps (c : Cell) (l : LoopIf) :
    (l.order c).mgmtIn = l.mgmtIn ∧ (l.order c).rollSerial = l.rollSerial ∧ (l.order c).returned = l.returned ∧
    (l.order c).misses = l.misses ∧ (l.order c).ringBreakUp = l.ringBreakUp ∧ (l.order c).lastMask = l.lastMask ∧
    (l.order c).nodeRecs = l.nodeRecs ∧ (l.order c).lastManager = l.lastManager ∧ (l.order c).noticeMask = l.noticeMask ∧
    (l.order c).dispatcher = l.dispatcher := by unfold LoopIf.order; split <;> simp

@[simp] theorem LoopIf_reply_keeps (c : Cell) (l : LoopIf) :
    (l.reply c).mgmtIn = l.mgmtIn ∧ (l.reply c).rollSerial = l.rollSerial ∧ (l.reply c).returned = l.returned ∧
    (l.reply c).misses = l.misses ∧ (l.reply c).ringBreakUp = l.ringBreakUp ∧ (l.reply c).lastMask = l.lastMask ∧
    (l.reply c).nodeRecs = l.nodeRecs ∧ (l.reply c).lastManager = l.lastManager ∧ (l.reply c).noticeMask = l.noticeMask ∧
    (l.reply c).dispatcher = l.dispatcher := by simp [LoopIf.reply]

@[simp] theorem LoopIf_placeNotice_keeps (n : Nat) (d : List Byte) (t : Nat) (l : LoopIf) :
    (LoopIf.placeNotice n d l t).mgmtIn = l.mgmtIn ∧ (LoopIf.placeNotice n d l t).rollSerial = l.rollSerial ∧
    (LoopIf.placeNotice n d l t).returned = l.returned ∧ (LoopIf.placeNotice n d l t).misses = l.misses ∧
    (LoopIf.placeNotice n d l t).ringBreakUp = l.ringBreakUp ∧ (LoopIf.placeNotice n d l t).lastMask = l.lastMask ∧
    (LoopIf.placeNotice n d l t).nodeRecs = l.nodeRecs ∧ (LoopIf.placeNotice n d l t).lastManager = l.lastManager ∧
    (LoopIf.placeNotice n d l t).noticeMask = l.noticeMask ∧ (LoopIf.placeNotice n d l t).dispatcher = l.dispatcher := by unfold LoopIf.placeNotice; split <;> simp

/-- What a step of a fold keeps, the fold keeps. -/
theorem foldl_keeps {σ α β : Type} (g : σ → β) (f : σ → α → σ) (h : ∀ s x, g (f s x) = g s) (l : List α) (s : σ) :
    g (l.foldl f s) = g s := by
  induction l generalizing s with
  | nil => rfl
  | cons x xs ih => simp [ih, h]

theorem foldl_pres {σ α : Type} (p : σ → Prop) (f : σ → α → σ) (h : ∀ s x, p s → p (f s x)) (l : List α) (s : σ) (hs : p s) :
    p (l.foldl f s) := by
  induction l generalizing s with
  | nil => exact hs
  | cons x xs ih => exact ih _ (h _ _ hs)

@[simp] theorem notice_frame (c : Nat) (d : List Byte) :
    (notice c d s).pins = s.pins ∧ (notice c d s).pitch = s.pitch ∧ (notice c d s).loop.mgmtIn = s.loop.mgmtIn ∧
    (notice c d s).loop.rollSerial = s.loop.rollSerial ∧ (notice c d s).loop.returned = s.loop.returned ∧
    (notice c d s).loop.misses = s.loop.misses ∧ (notice c d s).loop.ringBreakUp = s.loop.ringBreakUp ∧
    (notice c d s).loop.lastMask = s.loop.lastMask ∧ (notice c d s).loop.nodeRecs = s.loop.nodeRecs ∧
    (notice c d s).loop.lastManager = s.loop.lastManager ∧ (notice c d s).loop.noticeMask = s.loop.noticeMask ∧
    (notice c d s).loop.dispatcher = s.loop.dispatcher ∧ (notice c d s).tables = s.tables ∧ (notice c d s).acct = s.acct ∧
    (notice c d s).stage = s.stage ∧ (notice c d s).track = s.track ∧ (notice c d s).feeders = s.feeders ∧
    (notice c d s).presort = s.presort ∧ (notice c d s).line = s.line ∧ (notice c d s).outcomes = s.outcomes ∧
    (notice c d s).draws = s.draws ∧ (notice c d s).pending = s.pending := by
  unfold notice
  split
  · simp only [true_and, and_true]
    refine ⟨?_, ?_, ?_, ?_, ?_, ?_, ?_, ?_, ?_, ?_⟩ <;> exact foldl_keeps _ _ (by simp) _ _
  · simp

@[simp] theorem takeRaising_frame (k : LatchKind) (a b : Nat) :
    (takeRaising k a b s).pins = s.pins ∧ (takeRaising k a b s).pitch = s.pitch ∧
    (takeRaising k a b s).loop.mgmtIn = s.loop.mgmtIn ∧ (takeRaising k a b s).loop.rollSerial = s.loop.rollSerial ∧
    (takeRaising k a b s).loop.returned = s.loop.returned ∧ (takeRaising k a b s).loop.misses = s.loop.misses ∧
    (takeRaising k a b s).loop.ringBreakUp = s.loop.ringBreakUp ∧ (takeRaising k a b s).loop.lastMask = s.loop.lastMask ∧
    (takeRaising k a b s).loop.nodeRecs = s.loop.nodeRecs ∧ (takeRaising k a b s).loop.lastManager = s.loop.lastManager ∧
    (takeRaising k a b s).loop.noticeMask = s.loop.noticeMask ∧ (takeRaising k a b s).loop.dispatcher = s.loop.dispatcher ∧
    (takeRaising k a b s).tables = s.tables ∧ (takeRaising k a b s).acct = s.acct ∧ (takeRaising k a b s).stage = s.stage ∧
    (takeRaising k a b s).track = s.track ∧ (takeRaising k a b s).feeders = s.feeders ∧
    (takeRaising k a b s).presort = s.presort ∧ (takeRaising k a b s).line.jammed = s.line.jammed ∧
    (takeRaising k a b s).line.stationLoss = s.line.stationLoss ∧ (takeRaising k a b s).line.retry = s.line.retry ∧
    (takeRaising k a b s).outcomes = s.outcomes ∧ (takeRaising k a b s).draws = s.draws ∧
    (takeRaising k a b s).pending = s.pending := by simp [takeRaising]

@[simp] theorem endWait_frame (b : State) :
    (endWait b s).pins = s.pins ∧ (endWait b s).pitch = s.pitch ∧ (endWait b s).loop = s.loop ∧ (endWait b s).tables = s.tables ∧
    (endWait b s).acct = s.acct ∧ (endWait b s).stage = s.stage ∧ (endWait b s).track = s.track ∧ (endWait b s).feeders = s.feeders ∧
    (endWait b s).presort = s.presort ∧ (endWait b s).line.jammed = s.line.jammed ∧
    (endWait b s).line.stationLoss = s.line.stationLoss ∧ (endWait b s).line.retry = s.line.retry ∧
    (endWait b s).outcomes = s.outcomes ∧ (endWait b s).draws = s.draws ∧ (endWait b s).pending = s.pending := by
  simp only [endWait]
  split
  all_goals simp

@[simp] theorem lower_frame (k : LatchKind) :
    (lower k s).pins = s.pins ∧ (lower k s).pitch = s.pitch ∧ (lower k s).loop = s.loop ∧ (lower k s).tables = s.tables ∧
    (lower k s).acct = s.acct ∧ (lower k s).stage = s.stage ∧ (lower k s).track = s.track ∧ (lower k s).feeders = s.feeders ∧
    (lower k s).presort = s.presort ∧ (lower k s).line.jammed = s.line.jammed ∧
    (lower k s).line.stationLoss = s.line.stationLoss ∧ (lower k s).line.retry = s.line.retry ∧
    (lower k s).outcomes = s.outcomes ∧ (lower k s).draws = s.draws ∧ (lower k s).pending = s.pending := by
  simp only [lower]
  split
  all_goals simp

@[simp] theorem driveOutputs_frame :
    (driveOutputs s).pins = s.pins ∧ (driveOutputs s).pitch.counter = s.pitch.counter ∧
    (driveOutputs s).pitch.counterValid = s.pitch.counterValid ∧ (driveOutputs s).pitch.indexPending = s.pitch.indexPending ∧
    (driveOutputs s).pitch.phase = s.pitch.phase ∧ (driveOutputs s).pitch.lastSpan = s.pitch.lastSpan ∧
    (driveOutputs s).pitch.estopAsserted = s.pitch.estopAsserted ∧
    (driveOutputs s).pitch.releaseTimer = s.pitch.releaseTimer ∧ (driveOutputs s).pitch.unexpectedUp = s.pitch.unexpectedUp ∧
    (driveOutputs s).loop.mgmtIn = s.loop.mgmtIn ∧ (driveOutputs s).loop.rollSerial = s.loop.rollSerial ∧
    (driveOutputs s).loop.returned = s.loop.returned ∧ (driveOutputs s).loop.misses = s.loop.misses ∧
    (driveOutputs s).loop.ringBreakUp = s.loop.ringBreakUp ∧ (driveOutputs s).loop.lastMask = s.loop.lastMask ∧
    (driveOutputs s).loop.nodeRecs = s.loop.nodeRecs ∧ (driveOutputs s).loop.lastManager = s.loop.lastManager ∧
    (driveOutputs s).loop.noticeMask = s.loop.noticeMask ∧ (driveOutputs s).loop.dispatcher = s.loop.dispatcher ∧
    (driveOutputs s).tables = s.tables ∧ (driveOutputs s).acct = s.acct ∧ (driveOutputs s).stage = s.stage ∧
    (driveOutputs s).track = s.track ∧ (driveOutputs s).feeders = s.feeders ∧ (driveOutputs s).presort = s.presort ∧
    (driveOutputs s).line.jammed = s.line.jammed ∧ (driveOutputs s).line.stationLoss = s.line.stationLoss ∧
    (driveOutputs s).line.retry = s.line.retry ∧ (driveOutputs s).outcomes = s.outcomes ∧ (driveOutputs s).draws = s.draws ∧
    (driveOutputs s).pending = s.pending := by
  unfold driveOutputs
  dsimp only
  repeat' split
  all_goals simp

@[simp] theorem lowerDriveRate_frame (b : Bool) :
    (lowerDriveRate b s).pins = s.pins ∧ (lowerDriveRate b s).pitch.counter = s.pitch.counter ∧
    (lowerDriveRate b s).pitch.counterValid = s.pitch.counterValid ∧
    (lowerDriveRate b s).pitch.indexPending = s.pitch.indexPending ∧ (lowerDriveRate b s).pitch.phase = s.pitch.phase ∧
    (lowerDriveRate b s).pitch.lastSpan = s.pitch.lastSpan ∧
    (lowerDriveRate b s).pitch.estopAsserted = s.pitch.estopAsserted ∧
    (lowerDriveRate b s).pitch.releaseTimer = s.pitch.releaseTimer ∧
    (lowerDriveRate b s).pitch.unexpectedUp = s.pitch.unexpectedUp ∧ (lowerDriveRate b s).loop = s.loop ∧
    (lowerDriveRate b s).tables = s.tables ∧ (lowerDriveRate b s).acct = s.acct ∧ (lowerDriveRate b s).stage = s.stage ∧
    (lowerDriveRate b s).track = s.track ∧ (lowerDriveRate b s).feeders = s.feeders ∧
    (lowerDriveRate b s).presort = s.presort ∧ (lowerDriveRate b s).line.jammed = s.line.jammed ∧
    (lowerDriveRate b s).line.stationLoss = s.line.stationLoss ∧ (lowerDriveRate b s).line.retry = s.line.retry ∧
    (lowerDriveRate b s).outcomes = s.outcomes ∧ (lowerDriveRate b s).draws = s.draws ∧
    (lowerDriveRate b s).pending = s.pending := by
  simp only [lowerDriveRate]
  split
  all_goals simp

@[simp] theorem updateDrive_frame :
    (updateDrive s).pins = s.pins ∧ (updateDrive s).pitch.counter = s.pitch.counter ∧
    (updateDrive s).pitch.counterValid = s.pitch.counterValid ∧ (updateDrive s).pitch.indexPending = s.pitch.indexPending ∧
    (updateDrive s).pitch.phase = s.pitch.phase ∧ (updateDrive s).pitch.lastSpan = s.pitch.lastSpan ∧
    (updateDrive s).pitch.estopAsserted = s.pitch.estopAsserted ∧ (updateDrive s).pitch.releaseTimer = s.pitch.releaseTimer ∧
    (updateDrive s).pitch.unexpectedUp = s.pitch.unexpectedUp ∧ (updateDrive s).loop.mgmtIn = s.loop.mgmtIn ∧
    (updateDrive s).loop.rollSerial = s.loop.rollSerial ∧ (updateDrive s).loop.returned = s.loop.returned ∧
    (updateDrive s).loop.misses = s.loop.misses ∧ (updateDrive s).loop.ringBreakUp = s.loop.ringBreakUp ∧
    (updateDrive s).loop.lastMask = s.loop.lastMask ∧ (updateDrive s).loop.nodeRecs = s.loop.nodeRecs ∧
    (updateDrive s).loop.lastManager = s.loop.lastManager ∧ (updateDrive s).loop.noticeMask = s.loop.noticeMask ∧
    (updateDrive s).loop.dispatcher = s.loop.dispatcher ∧ (updateDrive s).tables = s.tables ∧ (updateDrive s).acct = s.acct ∧
    (updateDrive s).stage = s.stage ∧ (updateDrive s).track = s.track ∧ (updateDrive s).feeders = s.feeders ∧
    (updateDrive s).presort = s.presort ∧ (updateDrive s).line.jammed = s.line.jammed ∧
    (updateDrive s).line.stationLoss = s.line.stationLoss ∧ (updateDrive s).line.retry = s.line.retry ∧
    (updateDrive s).outcomes = s.outcomes ∧ (updateDrive s).draws = s.draws ∧ (updateDrive s).pending = s.pending := by simp [updateDrive]

@[simp] theorem endFeedHold_frame :
    (endFeedHold s).pins = s.pins ∧ (endFeedHold s).pitch = s.pitch ∧ (endFeedHold s).loop.mgmtIn = s.loop.mgmtIn ∧
    (endFeedHold s).loop.rollSerial = s.loop.rollSerial ∧ (endFeedHold s).loop.returned = s.loop.returned ∧
    (endFeedHold s).loop.misses = s.loop.misses ∧ (endFeedHold s).loop.ringBreakUp = s.loop.ringBreakUp ∧
    (endFeedHold s).loop.lastMask = s.loop.lastMask ∧ (endFeedHold s).loop.nodeRecs = s.loop.nodeRecs ∧
    (endFeedHold s).loop.lastManager = s.loop.lastManager ∧ (endFeedHold s).loop.noticeMask = s.loop.noticeMask ∧
    (endFeedHold s).loop.dispatcher = s.loop.dispatcher ∧ (endFeedHold s).tables = s.tables ∧
    (endFeedHold s).acct.queue = s.acct.queue ∧ (endFeedHold s).acct.halfA = s.acct.halfA ∧
    (endFeedHold s).acct.tail = s.acct.tail ∧ (endFeedHold s).acct.base = s.acct.base ∧ (endFeedHold s).stage = s.stage ∧
    (endFeedHold s).track = s.track ∧ (endFeedHold s).feeders = s.feeders ∧ (endFeedHold s).presort = s.presort ∧
    (endFeedHold s).line = s.line ∧ (endFeedHold s).outcomes = s.outcomes ∧ (endFeedHold s).draws = s.draws ∧
    (endFeedHold s).pending = s.pending := by
  simp only [endFeedHold]
  split
  all_goals simp

@[simp] theorem lowerTiming_frame (o n : LineState) :
    (lowerTiming o n s).pins = s.pins ∧ (lowerTiming o n s).pitch = s.pitch ∧ (lowerTiming o n s).loop = s.loop ∧
    (lowerTiming o n s).tables = s.tables ∧ (lowerTiming o n s).acct = s.acct ∧ (lowerTiming o n s).stage = s.stage ∧
    (lowerTiming o n s).track = s.track ∧ (lowerTiming o n s).feeders = s.feeders ∧ (lowerTiming o n s).presort = s.presort ∧
    (lowerTiming o n s).line.jammed = s.line.jammed ∧ (lowerTiming o n s).line.stationLoss = s.line.stationLoss ∧
    (lowerTiming o n s).line.retry = s.line.retry ∧ (lowerTiming o n s).outcomes = s.outcomes ∧
    (lowerTiming o n s).draws = s.draws ∧ (lowerTiming o n s).pending = s.pending := by
  simp only [lowerTiming]
  split
  all_goals simp

@[simp] theorem startSearch_frame (n : LineState) :
    (startSearch n s).pins = s.pins ∧ (startSearch n s).pitch.counter = s.pitch.counter ∧
    (startSearch n s).pitch.counterValid = s.pitch.counterValid ∧
    (startSearch n s).pitch.indexPending = s.pitch.indexPending ∧ (startSearch n s).pitch.phase = s.pitch.phase ∧
    (startSearch n s).pitch.lastSpan = s.pitch.lastSpan ∧ (startSearch n s).pitch.estopAsserted = s.pitch.estopAsserted ∧
    (startSearch n s).pitch.releaseTimer = s.pitch.releaseTimer ∧
    (startSearch n s).pitch.unexpectedUp = s.pitch.unexpectedUp ∧ (startSearch n s).loop = s.loop ∧
    (startSearch n s).tables = s.tables ∧ (startSearch n s).acct = s.acct ∧ (startSearch n s).stage = s.stage ∧
    (startSearch n s).track = s.track ∧ (startSearch n s).feeders = s.feeders ∧ (startSearch n s).presort = s.presort ∧
    (startSearch n s).line = s.line ∧ (startSearch n s).outcomes = s.outcomes ∧ (startSearch n s).draws = s.draws ∧
    (startSearch n s).pending = s.pending := by
  simp only [startSearch]
  split
  all_goals simp

@[simp] theorem lineChanged_keeps (n : LineState) (c : Nat) (l : LineCtl) :
    (lineChanged n c l).jammed = l.jammed ∧ (lineChanged n c l).stationLoss = l.stationLoss ∧
    (lineChanged n c l).retry = l.retry ∧ (lineChanged n c l).state = n := by simp [lineChanged]

@[simp] theorem setLine_frame (n : LineState) (c : Nat) :
    (setLine n c s).pins = s.pins ∧ (setLine n c s).pitch.counter = s.pitch.counter ∧
    (setLine n c s).pitch.counterValid = s.pitch.counterValid ∧ (setLine n c s).pitch.indexPending = s.pitch.indexPending ∧
    (setLine n c s).pitch.phase = s.pitch.phase ∧ (setLine n c s).pitch.lastSpan = s.pitch.lastSpan ∧
    (setLine n c s).pitch.estopAsserted = s.pitch.estopAsserted ∧ (setLine n c s).pitch.releaseTimer = s.pitch.releaseTimer ∧
    (setLine n c s).pitch.unexpectedUp = s.pitch.unexpectedUp ∧ (setLine n c s).loop.mgmtIn = s.loop.mgmtIn ∧
    (setLine n c s).loop.rollSerial = s.loop.rollSerial ∧ (setLine n c s).loop.returned = s.loop.returned ∧
    (setLine n c s).loop.misses = s.loop.misses ∧ (setLine n c s).loop.ringBreakUp = s.loop.ringBreakUp ∧
    (setLine n c s).loop.lastMask = s.loop.lastMask ∧ (setLine n c s).loop.nodeRecs = s.loop.nodeRecs ∧
    (setLine n c s).loop.lastManager = s.loop.lastManager ∧ (setLine n c s).loop.noticeMask = s.loop.noticeMask ∧
    (setLine n c s).loop.dispatcher = s.loop.dispatcher ∧ (setLine n c s).tables = s.tables ∧
    (setLine n c s).acct.queue = s.acct.queue ∧ (setLine n c s).acct.halfA = s.acct.halfA ∧
    (setLine n c s).acct.tail = s.acct.tail ∧ (setLine n c s).acct.base = s.acct.base ∧ (setLine n c s).stage = s.stage ∧
    (setLine n c s).track = s.track ∧ (setLine n c s).feeders = s.feeders ∧ (setLine n c s).presort = s.presort ∧
    (setLine n c s).line.jammed = s.line.jammed ∧ (setLine n c s).line.stationLoss = s.line.stationLoss ∧
    (setLine n c s).line.retry = s.line.retry ∧ (setLine n c s).outcomes = s.outcomes ∧ (setLine n c s).draws = s.draws ∧
    (setLine n c s).pending = s.pending := by
  simp only [setLine]
  split
  all_goals simp

@[simp] theorem suspectStage_frame :
    (suspectStage s).pins = s.pins ∧ (suspectStage s).pitch = s.pitch ∧ (suspectStage s).loop = s.loop ∧
    (suspectStage s).tables = s.tables ∧ (suspectStage s).acct = s.acct ∧ (suspectStage s).track = s.track ∧
    (suspectStage s).feeders = s.feeders ∧ (suspectStage s).presort = s.presort ∧ (suspectStage s).line = s.line ∧
    (suspectStage s).outcomes = s.outcomes ∧ (suspectStage s).draws = s.draws ∧ (suspectStage s).pending = s.pending := by simp [suspectStage]

@[simp] theorem suspectTrack_frame :
    (suspectTrack s).pins = s.pins ∧ (suspectTrack s).pitch = s.pitch ∧ (suspectTrack s).loop = s.loop ∧
    (suspectTrack s).tables = s.tables ∧ (suspectTrack s).acct = s.acct ∧ (suspectTrack s).stage = s.stage ∧
    (suspectTrack s).feeders = s.feeders ∧ (suspectTrack s).presort = s.presort ∧ (suspectTrack s).line = s.line ∧
    (suspectTrack s).outcomes = s.outcomes ∧ (suspectTrack s).draws = s.draws ∧ (suspectTrack s).pending = s.pending := by simp [suspectTrack]

@[simp] theorem suspectAll_frame :
    (suspectAll s).pins = s.pins ∧ (suspectAll s).pitch = s.pitch ∧ (suspectAll s).loop = s.loop ∧
    (suspectAll s).tables = s.tables ∧ (suspectAll s).acct = s.acct ∧ (suspectAll s).feeders = s.feeders ∧
    (suspectAll s).presort = s.presort ∧ (suspectAll s).line = s.line ∧ (suspectAll s).outcomes = s.outcomes ∧
    (suspectAll s).draws = s.draws ∧ (suspectAll s).pending = s.pending := by simp [suspectAll]

@[simp] theorem enterRecovery_frame (c : Nat) :
    (enterRecovery c s).pins = s.pins ∧ (enterRecovery c s).pitch.counter = s.pitch.counter ∧
    (enterRecovery c s).pitch.counterValid = s.pitch.counterValid ∧
    (enterRecovery c s).pitch.indexPending = s.pitch.indexPending ∧ (enterRecovery c s).pitch.phase = s.pitch.phase ∧
    (enterRecovery c s).pitch.lastSpan = s.pitch.lastSpan ∧ (enterRecovery c s).pitch.estopAsserted = s.pitch.estopAsserted ∧
    (enterRecovery c s).pitch.releaseTimer = s.pitch.releaseTimer ∧
    (enterRecovery c s).pitch.unexpectedUp = s.pitch.unexpectedUp ∧ (enterRecovery c s).loop.mgmtIn = s.loop.mgmtIn ∧
    (enterRecovery c s).loop.rollSerial = s.loop.rollSerial ∧ (enterRecovery c s).loop.returned = s.loop.returned ∧
    (enterRecovery c s).loop.misses = s.loop.misses ∧ (enterRecovery c s).loop.ringBreakUp = s.loop.ringBreakUp ∧
    (enterRecovery c s).loop.lastMask = s.loop.lastMask ∧ (enterRecovery c s).loop.nodeRecs = s.loop.nodeRecs ∧
    (enterRecovery c s).loop.lastManager = s.loop.lastManager ∧ (enterRecovery c s).loop.noticeMask = s.loop.noticeMask ∧
    (enterRecovery c s).loop.dispatcher = s.loop.dispatcher ∧ (enterRecovery c s).tables = s.tables ∧
    (enterRecovery c s).acct.queue = s.acct.queue ∧ (enterRecovery c s).acct.halfA = s.acct.halfA ∧
    (enterRecovery c s).acct.tail = s.acct.tail ∧ (enterRecovery c s).acct.base = s.acct.base ∧
    (enterRecovery c s).feeders = s.feeders ∧ (enterRecovery c s).presort = s.presort ∧
    (enterRecovery c s).line.jammed = s.line.jammed ∧ (enterRecovery c s).line.stationLoss = s.line.stationLoss ∧
    (enterRecovery c s).line.retry = s.line.retry ∧ (enterRecovery c s).outcomes = s.outcomes ∧
    (enterRecovery c s).draws = s.draws ∧ (enterRecovery c s).pending = s.pending := by simp [enterRecovery]

@[simp] theorem endPriming_frame :
    (endPriming s).pins = s.pins ∧ (endPriming s).pitch.counter = s.pitch.counter ∧
    (endPriming s).pitch.counterValid = s.pitch.counterValid ∧ (endPriming s).pitch.indexPending = s.pitch.indexPending ∧
    (endPriming s).pitch.phase = s.pitch.phase ∧ (endPriming s).pitch.lastSpan = s.pitch.lastSpan ∧
    (endPriming s).pitch.estopAsserted = s.pitch.estopAsserted ∧ (endPriming s).pitch.releaseTimer = s.pitch.releaseTimer ∧
    (endPriming s).pitch.unexpectedUp = s.pitch.unexpectedUp ∧ (endPriming s).loop.mgmtIn = s.loop.mgmtIn ∧
    (endPriming s).loop.rollSerial = s.loop.rollSerial ∧ (endPriming s).loop.returned = s.loop.returned ∧
    (endPriming s).loop.misses = s.loop.misses ∧ (endPriming s).loop.ringBreakUp = s.loop.ringBreakUp ∧
    (endPriming s).loop.lastMask = s.loop.lastMask ∧ (endPriming s).loop.nodeRecs = s.loop.nodeRecs ∧
    (endPriming s).loop.lastManager = s.loop.lastManager ∧ (endPriming s).loop.noticeMask = s.loop.noticeMask ∧
    (endPriming s).loop.dispatcher = s.loop.dispatcher ∧ (endPriming s).tables = s.tables ∧
    (endPriming s).acct.queue = s.acct.queue ∧ (endPriming s).acct.halfA = s.acct.halfA ∧
    (endPriming s).acct.tail = s.acct.tail ∧ (endPriming s).acct.base = s.acct.base ∧ (endPriming s).stage = s.stage ∧
    (endPriming s).track = s.track ∧ (endPriming s).feeders = s.feeders ∧ (endPriming s).presort = s.presort ∧
    (endPriming s).line.jammed = s.line.jammed ∧ (endPriming s).line.stationLoss = s.line.stationLoss ∧
    (endPriming s).line.retry = s.line.retry ∧ (endPriming s).outcomes = s.outcomes ∧ (endPriming s).draws = s.draws ∧
    (endPriming s).pending = s.pending := by
  simp only [endPriming]
  repeat' split
  all_goals simp

@[simp] theorem takeReports_frame :
    (takeReports s).pins = s.pins ∧ (takeReports s).pitch.counter = s.pitch.counter ∧
    (takeReports s).pitch.counterValid = s.pitch.counterValid ∧ (takeReports s).pitch.indexPending = s.pitch.indexPending ∧
    (takeReports s).pitch.phase = s.pitch.phase ∧ (takeReports s).pitch.lastSpan = s.pitch.lastSpan ∧
    (takeReports s).pitch.estopAsserted = s.pitch.estopAsserted ∧ (takeReports s).pitch.releaseTimer = s.pitch.releaseTimer ∧
    (takeReports s).pitch.unexpectedUp = s.pitch.unexpectedUp ∧ (takeReports s).loop.mgmtIn = s.loop.mgmtIn ∧
    (takeReports s).loop.rollSerial = s.loop.rollSerial ∧ (takeReports s).loop.returned = s.loop.returned ∧
    (takeReports s).loop.misses = s.loop.misses ∧ (takeReports s).loop.ringBreakUp = s.loop.ringBreakUp ∧
    (takeReports s).loop.lastMask = s.loop.lastMask ∧ (takeReports s).loop.nodeRecs = s.loop.nodeRecs ∧
    (takeReports s).loop.lastManager = s.loop.lastManager ∧ (takeReports s).loop.noticeMask = s.loop.noticeMask ∧
    (takeReports s).loop.dispatcher = s.loop.dispatcher ∧ (takeReports s).tables = s.tables ∧
    (takeReports s).acct.queue = s.acct.queue ∧ (takeReports s).acct.halfA = s.acct.halfA ∧
    (takeReports s).acct.tail = s.acct.tail ∧ (takeReports s).acct.base = s.acct.base ∧ (takeReports s).stage = s.stage ∧
    (takeReports s).track = s.track ∧ (takeReports s).feeders = s.feeders ∧ (takeReports s).presort = s.presort ∧
    (takeReports s).line.jammed = s.line.jammed ∧ (takeReports s).line.stationLoss = s.line.stationLoss ∧
    (takeReports s).line.retry = s.line.retry ∧ (takeReports s).outcomes = s.outcomes ∧ (takeReports s).draws = s.draws ∧
    (takeReports s).pending = s.pending := by simp [takeReports]

@[simp] theorem respondRecovery_frame (c : Nat) :
    (respondRecovery c s).pins = s.pins ∧ (respondRecovery c s).pitch.counter = s.pitch.counter ∧
    (respondRecovery c s).pitch.counterValid = s.pitch.counterValid ∧
    (respondRecovery c s).pitch.indexPending = s.pitch.indexPending ∧ (respondRecovery c s).pitch.phase = s.pitch.phase ∧
    (respondRecovery c s).pitch.lastSpan = s.pitch.lastSpan ∧
    (respondRecovery c s).pitch.estopAsserted = s.pitch.estopAsserted ∧
    (respondRecovery c s).pitch.releaseTimer = s.pitch.releaseTimer ∧
    (respondRecovery c s).pitch.unexpectedUp = s.pitch.unexpectedUp ∧ (respondRecovery c s).loop.mgmtIn = s.loop.mgmtIn ∧
    (respondRecovery c s).loop.rollSerial = s.loop.rollSerial ∧ (respondRecovery c s).loop.returned = s.loop.returned ∧
    (respondRecovery c s).loop.misses = s.loop.misses ∧ (respondRecovery c s).loop.ringBreakUp = s.loop.ringBreakUp ∧
    (respondRecovery c s).loop.lastMask = s.loop.lastMask ∧ (respondRecovery c s).loop.nodeRecs = s.loop.nodeRecs ∧
    (respondRecovery c s).loop.lastManager = s.loop.lastManager ∧ (respondRecovery c s).loop.noticeMask = s.loop.noticeMask ∧
    (respondRecovery c s).loop.dispatcher = s.loop.dispatcher ∧ (respondRecovery c s).tables = s.tables ∧
    (respondRecovery c s).acct.queue = s.acct.queue ∧ (respondRecovery c s).acct.halfA = s.acct.halfA ∧
    (respondRecovery c s).acct.tail = s.acct.tail ∧ (respondRecovery c s).acct.base = s.acct.base ∧
    (respondRecovery c s).feeders = s.feeders ∧ (respondRecovery c s).presort = s.presort ∧
    (respondRecovery c s).line.jammed = s.line.jammed ∧ (respondRecovery c s).line.stationLoss = s.line.stationLoss ∧
    (respondRecovery c s).line.retry = s.line.retry ∧ (respondRecovery c s).outcomes = s.outcomes ∧
    (respondRecovery c s).draws = s.draws ∧ (respondRecovery c s).pending = s.pending := by
  simp only [respondRecovery]
  split
  all_goals simp

@[simp] theorem respondEstop_frame :
    (respondEstop s).pins = s.pins ∧ (respondEstop s).pitch.counter = s.pitch.counter ∧
    (respondEstop s).pitch.counterValid = s.pitch.counterValid ∧ (respondEstop s).pitch.indexPending = s.pitch.indexPending ∧
    (respondEstop s).pitch.phase = s.pitch.phase ∧ (respondEstop s).pitch.lastSpan = s.pitch.lastSpan ∧
    (respondEstop s).pitch.estopAsserted = s.pitch.estopAsserted ∧
    (respondEstop s).pitch.releaseTimer = s.pitch.releaseTimer ∧ (respondEstop s).pitch.unexpectedUp = s.pitch.unexpectedUp ∧
    (respondEstop s).loop.mgmtIn = s.loop.mgmtIn ∧ (respondEstop s).loop.rollSerial = s.loop.rollSerial ∧
    (respondEstop s).loop.returned = s.loop.returned ∧ (respondEstop s).loop.misses = s.loop.misses ∧
    (respondEstop s).loop.ringBreakUp = s.loop.ringBreakUp ∧ (respondEstop s).loop.lastMask = s.loop.lastMask ∧
    (respondEstop s).loop.nodeRecs = s.loop.nodeRecs ∧ (respondEstop s).loop.lastManager = s.loop.lastManager ∧
    (respondEstop s).loop.noticeMask = s.loop.noticeMask ∧ (respondEstop s).loop.dispatcher = s.loop.dispatcher ∧
    (respondEstop s).tables = s.tables ∧ (respondEstop s).acct.queue = s.acct.queue ∧
    (respondEstop s).acct.halfA = s.acct.halfA ∧ (respondEstop s).acct.tail = s.acct.tail ∧
    (respondEstop s).acct.base = s.acct.base ∧ (respondEstop s).feeders = s.feeders ∧ (respondEstop s).presort = s.presort ∧
    (respondEstop s).line.jammed = s.line.jammed ∧ (respondEstop s).line.stationLoss = s.line.stationLoss ∧
    (respondEstop s).line.retry = s.line.retry ∧ (respondEstop s).outcomes = s.outcomes ∧ (respondEstop s).draws = s.draws ∧
    (respondEstop s).pending = s.pending := by
  simp only [respondEstop]
  split
  all_goals simp

@[simp] theorem respondEssential_frame :
    (respondEssential s).pins = s.pins ∧ (respondEssential s).pitch.counter = s.pitch.counter ∧
    (respondEssential s).pitch.counterValid = s.pitch.counterValid ∧
    (respondEssential s).pitch.indexPending = s.pitch.indexPending ∧ (respondEssential s).pitch.phase = s.pitch.phase ∧
    (respondEssential s).pitch.lastSpan = s.pitch.lastSpan ∧
    (respondEssential s).pitch.estopAsserted = s.pitch.estopAsserted ∧
    (respondEssential s).pitch.releaseTimer = s.pitch.releaseTimer ∧
    (respondEssential s).pitch.unexpectedUp = s.pitch.unexpectedUp ∧ (respondEssential s).loop.mgmtIn = s.loop.mgmtIn ∧
    (respondEssential s).loop.rollSerial = s.loop.rollSerial ∧ (respondEssential s).loop.returned = s.loop.returned ∧
    (respondEssential s).loop.misses = s.loop.misses ∧ (respondEssential s).loop.ringBreakUp = s.loop.ringBreakUp ∧
    (respondEssential s).loop.lastMask = s.loop.lastMask ∧ (respondEssential s).loop.nodeRecs = s.loop.nodeRecs ∧
    (respondEssential s).loop.lastManager = s.loop.lastManager ∧ (respondEssential s).loop.noticeMask = s.loop.noticeMask ∧
    (respondEssential s).loop.dispatcher = s.loop.dispatcher ∧ (respondEssential s).tables = s.tables ∧
    (respondEssential s).acct.queue = s.acct.queue ∧ (respondEssential s).acct.halfA = s.acct.halfA ∧
    (respondEssential s).acct.tail = s.acct.tail ∧ (respondEssential s).acct.base = s.acct.base ∧
    (respondEssential s).feeders = s.feeders ∧ (respondEssential s).presort = s.presort ∧
    (respondEssential s).line.jammed = s.line.jammed ∧ (respondEssential s).line.stationLoss = s.line.stationLoss ∧
    (respondEssential s).line.retry = s.line.retry ∧ (respondEssential s).outcomes = s.outcomes ∧
    (respondEssential s).draws = s.draws ∧ (respondEssential s).pending = s.pending := by
  simp only [respondEssential]
  repeat' split
  all_goals simp

@[simp] theorem respondGroup_frame :
    (respondGroup s).pins = s.pins ∧ (respondGroup s).pitch.counter = s.pitch.counter ∧
    (respondGroup s).pitch.counterValid = s.pitch.counterValid ∧ (respondGroup s).pitch.indexPending = s.pitch.indexPending ∧
    (respondGroup s).pitch.phase = s.pitch.phase ∧ (respondGroup s).pitch.lastSpan = s.pitch.lastSpan ∧
    (respondGroup s).pitch.estopAsserted = s.pitch.estopAsserted ∧
    (respondGroup s).pitch.releaseTimer = s.pitch.releaseTimer ∧ (respondGroup s).pitch.unexpectedUp = s.pitch.unexpectedUp ∧
    (respondGroup s).loop.mgmtIn = s.loop.mgmtIn ∧ (respondGroup s).loop.rollSerial = s.loop.rollSerial ∧
    (respondGroup s).loop.returned = s.loop.returned ∧ (respondGroup s).loop.misses = s.loop.misses ∧
    (respondGroup s).loop.ringBreakUp = s.loop.ringBreakUp ∧ (respondGroup s).loop.lastMask = s.loop.lastMask ∧
    (respondGroup s).loop.nodeRecs = s.loop.nodeRecs ∧ (respondGroup s).loop.lastManager = s.loop.lastManager ∧
    (respondGroup s).loop.noticeMask = s.loop.noticeMask ∧ (respondGroup s).loop.dispatcher = s.loop.dispatcher ∧
    (respondGroup s).tables = s.tables ∧ (respondGroup s).acct.queue = s.acct.queue ∧
    (respondGroup s).acct.halfA = s.acct.halfA ∧ (respondGroup s).acct.tail = s.acct.tail ∧
    (respondGroup s).acct.base = s.acct.base ∧ (respondGroup s).feeders = s.feeders ∧ (respondGroup s).presort = s.presort ∧
    (respondGroup s).line.jammed = s.line.jammed ∧ (respondGroup s).line.stationLoss = s.line.stationLoss ∧
    (respondGroup s).line.retry = s.line.retry ∧ (respondGroup s).outcomes = s.outcomes ∧ (respondGroup s).draws = s.draws ∧
    (respondGroup s).pending = s.pending := by
  simp only [respondGroup]
  split
  all_goals simp

@[simp] theorem respond_frame (k : LatchKind) (r : Option Role) :
    (respond k r s).pins = s.pins ∧ (respond k r s).pitch.counter = s.pitch.counter ∧
    (respond k r s).pitch.counterValid = s.pitch.counterValid ∧ (respond k r s).pitch.indexPending = s.pitch.indexPending ∧
    (respond k r s).pitch.phase = s.pitch.phase ∧ (respond k r s).pitch.lastSpan = s.pitch.lastSpan ∧
    (respond k r s).pitch.estopAsserted = s.pitch.estopAsserted ∧ (respond k r s).pitch.releaseTimer = s.pitch.releaseTimer ∧
    (respond k r s).pitch.unexpectedUp = s.pitch.unexpectedUp ∧ (respond k r s).loop.mgmtIn = s.loop.mgmtIn ∧
    (respond k r s).loop.rollSerial = s.loop.rollSerial ∧ (respond k r s).loop.returned = s.loop.returned ∧
    (respond k r s).loop.misses = s.loop.misses ∧ (respond k r s).loop.ringBreakUp = s.loop.ringBreakUp ∧
    (respond k r s).loop.lastMask = s.loop.lastMask ∧ (respond k r s).loop.nodeRecs = s.loop.nodeRecs ∧
    (respond k r s).loop.lastManager = s.loop.lastManager ∧ (respond k r s).loop.noticeMask = s.loop.noticeMask ∧
    (respond k r s).loop.dispatcher = s.loop.dispatcher ∧ (respond k r s).tables = s.tables ∧
    (respond k r s).acct.queue = s.acct.queue ∧ (respond k r s).acct.halfA = s.acct.halfA ∧
    (respond k r s).acct.tail = s.acct.tail ∧ (respond k r s).acct.base = s.acct.base ∧ (respond k r s).feeders = s.feeders ∧
    (respond k r s).presort = s.presort ∧ (respond k r s).line.jammed = s.line.jammed ∧
    (respond k r s).line.stationLoss = s.line.stationLoss ∧ (respond k r s).line.retry = s.line.retry ∧
    (respond k r s).outcomes = s.outcomes ∧ (respond k r s).draws = s.draws ∧ (respond k r s).pending = s.pending := by
  cases k <;> simp only [respond] <;> (repeat' split) <;> simp

@[simp] theorem raiseFor_frame (r : Option Role) (k : LatchKind) (a b : Nat) :
    (raiseFor r k a b s).pins = s.pins ∧ (raiseFor r k a b s).pitch.counter = s.pitch.counter ∧
    (raiseFor r k a b s).pitch.counterValid = s.pitch.counterValid ∧
    (raiseFor r k a b s).pitch.indexPending = s.pitch.indexPending ∧ (raiseFor r k a b s).pitch.phase = s.pitch.phase ∧
    (raiseFor r k a b s).pitch.lastSpan = s.pitch.lastSpan ∧
    (raiseFor r k a b s).pitch.estopAsserted = s.pitch.estopAsserted ∧
    (raiseFor r k a b s).pitch.releaseTimer = s.pitch.releaseTimer ∧
    (raiseFor r k a b s).pitch.unexpectedUp = s.pitch.unexpectedUp ∧ (raiseFor r k a b s).loop.mgmtIn = s.loop.mgmtIn ∧
    (raiseFor r k a b s).loop.rollSerial = s.loop.rollSerial ∧ (raiseFor r k a b s).loop.returned = s.loop.returned ∧
    (raiseFor r k a b s).loop.misses = s.loop.misses ∧ (raiseFor r k a b s).loop.ringBreakUp = s.loop.ringBreakUp ∧
    (raiseFor r k a b s).loop.lastMask = s.loop.lastMask ∧ (raiseFor r k a b s).loop.nodeRecs = s.loop.nodeRecs ∧
    (raiseFor r k a b s).loop.lastManager = s.loop.lastManager ∧ (raiseFor r k a b s).loop.noticeMask = s.loop.noticeMask ∧
    (raiseFor r k a b s).loop.dispatcher = s.loop.dispatcher ∧ (raiseFor r k a b s).tables = s.tables ∧
    (raiseFor r k a b s).acct.queue = s.acct.queue ∧ (raiseFor r k a b s).acct.halfA = s.acct.halfA ∧
    (raiseFor r k a b s).acct.tail = s.acct.tail ∧ (raiseFor r k a b s).acct.base = s.acct.base ∧
    (raiseFor r k a b s).feeders = s.feeders ∧ (raiseFor r k a b s).presort = s.presort ∧
    (raiseFor r k a b s).line.jammed = s.line.jammed ∧ (raiseFor r k a b s).line.stationLoss = s.line.stationLoss ∧
    (raiseFor r k a b s).line.retry = s.line.retry ∧ (raiseFor r k a b s).outcomes = s.outcomes ∧
    (raiseFor r k a b s).draws = s.draws ∧ (raiseFor r k a b s).pending = s.pending := by
  simp only [raiseFor]
  split
  all_goals simp

@[simp] theorem raise_frame (k : LatchKind) (a b : Nat) :
    (raise k a b s).pins = s.pins ∧ (raise k a b s).pitch.counter = s.pitch.counter ∧
    (raise k a b s).pitch.counterValid = s.pitch.counterValid ∧ (raise k a b s).pitch.indexPending = s.pitch.indexPending ∧
    (raise k a b s).pitch.phase = s.pitch.phase ∧ (raise k a b s).pitch.lastSpan = s.pitch.lastSpan ∧
    (raise k a b s).pitch.estopAsserted = s.pitch.estopAsserted ∧ (raise k a b s).pitch.releaseTimer = s.pitch.releaseTimer ∧
    (raise k a b s).pitch.unexpectedUp = s.pitch.unexpectedUp ∧ (raise k a b s).loop.mgmtIn = s.loop.mgmtIn ∧
    (raise k a b s).loop.rollSerial = s.loop.rollSerial ∧ (raise k a b s).loop.returned = s.loop.returned ∧
    (raise k a b s).loop.misses = s.loop.misses ∧ (raise k a b s).loop.ringBreakUp = s.loop.ringBreakUp ∧
    (raise k a b s).loop.lastMask = s.loop.lastMask ∧ (raise k a b s).loop.nodeRecs = s.loop.nodeRecs ∧
    (raise k a b s).loop.lastManager = s.loop.lastManager ∧ (raise k a b s).loop.noticeMask = s.loop.noticeMask ∧
    (raise k a b s).loop.dispatcher = s.loop.dispatcher ∧ (raise k a b s).tables = s.tables ∧
    (raise k a b s).acct.queue = s.acct.queue ∧ (raise k a b s).acct.halfA = s.acct.halfA ∧
    (raise k a b s).acct.tail = s.acct.tail ∧ (raise k a b s).acct.base = s.acct.base ∧ (raise k a b s).feeders = s.feeders ∧
    (raise k a b s).presort = s.presort ∧ (raise k a b s).line.jammed = s.line.jammed ∧
    (raise k a b s).line.stationLoss = s.line.stationLoss ∧ (raise k a b s).line.retry = s.line.retry ∧
    (raise k a b s).outcomes = s.outcomes ∧ (raise k a b s).draws = s.draws ∧ (raise k a b s).pending = s.pending := by simp [raise]

@[simp] theorem pulse_frame (k : LatchKind) :
    (pulse k s).pins = s.pins ∧ (pulse k s).pitch.counter = s.pitch.counter ∧
    (pulse k s).pitch.counterValid = s.pitch.counterValid ∧ (pulse k s).pitch.indexPending = s.pitch.indexPending ∧
    (pulse k s).pitch.phase = s.pitch.phase ∧ (pulse k s).pitch.lastSpan = s.pitch.lastSpan ∧
    (pulse k s).pitch.estopAsserted = s.pitch.estopAsserted ∧ (pulse k s).pitch.releaseTimer = s.pitch.releaseTimer ∧
    (pulse k s).pitch.unexpectedUp = s.pitch.unexpectedUp ∧ (pulse k s).loop.mgmtIn = s.loop.mgmtIn ∧
    (pulse k s).loop.rollSerial = s.loop.rollSerial ∧ (pulse k s).loop.returned = s.loop.returned ∧
    (pulse k s).loop.misses = s.loop.misses ∧ (pulse k s).loop.ringBreakUp = s.loop.ringBreakUp ∧
    (pulse k s).loop.lastMask = s.loop.lastMask ∧ (pulse k s).loop.nodeRecs = s.loop.nodeRecs ∧
    (pulse k s).loop.lastManager = s.loop.lastManager ∧ (pulse k s).loop.noticeMask = s.loop.noticeMask ∧
    (pulse k s).loop.dispatcher = s.loop.dispatcher ∧ (pulse k s).tables = s.tables ∧ (pulse k s).acct.queue = s.acct.queue ∧
    (pulse k s).acct.halfA = s.acct.halfA ∧ (pulse k s).acct.tail = s.acct.tail ∧ (pulse k s).acct.base = s.acct.base ∧
    (pulse k s).feeders = s.feeders ∧ (pulse k s).presort = s.presort ∧ (pulse k s).line.jammed = s.line.jammed ∧
    (pulse k s).line.stationLoss = s.line.stationLoss ∧ (pulse k s).line.retry = s.line.retry ∧
    (pulse k s).outcomes = s.outcomes ∧ (pulse k s).draws = s.draws ∧ (pulse k s).pending = s.pending := by simp [pulse]

@[simp] theorem issueOrder_frame (n : Option NodeEntry) (p : List Byte) :
    (issueOrder n p s).pins = s.pins ∧ (issueOrder n p s).pitch = s.pitch ∧ (issueOrder n p s).loop.mgmtIn = s.loop.mgmtIn ∧
    (issueOrder n p s).loop.rollSerial = s.loop.rollSerial ∧ (issueOrder n p s).loop.returned = s.loop.returned ∧
    (issueOrder n p s).loop.misses = s.loop.misses ∧ (issueOrder n p s).loop.ringBreakUp = s.loop.ringBreakUp ∧
    (issueOrder n p s).loop.lastMask = s.loop.lastMask ∧ (issueOrder n p s).loop.nodeRecs = s.loop.nodeRecs ∧
    (issueOrder n p s).loop.lastManager = s.loop.lastManager ∧ (issueOrder n p s).loop.noticeMask = s.loop.noticeMask ∧
    (issueOrder n p s).loop.dispatcher = s.loop.dispatcher ∧ (issueOrder n p s).tables = s.tables ∧
    (issueOrder n p s).acct = s.acct ∧ (issueOrder n p s).stage = s.stage ∧ (issueOrder n p s).track = s.track ∧
    (issueOrder n p s).feeders = s.feeders ∧ (issueOrder n p s).presort = s.presort ∧ (issueOrder n p s).line = s.line ∧
    (issueOrder n p s).outcomes = s.outcomes ∧ (issueOrder n p s).draws = s.draws ∧ (issueOrder n p s).pending = s.pending := by
  simp only [issueOrder]
  split
  all_goals simp

/-- The outcome queue after the run counters of a list have been increased. -/
theorem bumps_eq (l : List Nat) :
    l.foldl (fun s n => bumpRun n s) s = { s with outcomes := (l.foldl (fun s n => bumpRun n s) s).outcomes } := by
  induction l generalizing s with
  | nil => rfl
  | cons n l ih => rw [List.foldl_cons, ih]; rfl

@[simp] theorem writeRecord_frame (r : Record) :
    (writeRecord r s).pins = s.pins ∧ (writeRecord r s).pitch = s.pitch ∧ (writeRecord r s).loop.mgmtIn = s.loop.mgmtIn ∧
    (writeRecord r s).loop.rollSerial = s.loop.rollSerial ∧ (writeRecord r s).loop.returned = s.loop.returned ∧
    (writeRecord r s).loop.misses = s.loop.misses ∧ (writeRecord r s).loop.ringBreakUp = s.loop.ringBreakUp ∧
    (writeRecord r s).loop.lastMask = s.loop.lastMask ∧ (writeRecord r s).loop.nodeRecs = s.loop.nodeRecs ∧
    (writeRecord r s).loop.lastManager = s.loop.lastManager ∧ (writeRecord r s).loop.noticeMask = s.loop.noticeMask ∧
    (writeRecord r s).loop.dispatcher = s.loop.dispatcher ∧ (writeRecord r s).tables = s.tables ∧
    (writeRecord r s).acct = s.acct ∧ (writeRecord r s).stage = s.stage ∧ (writeRecord r s).track = s.track ∧
    (writeRecord r s).feeders = s.feeders ∧ (writeRecord r s).presort = s.presort ∧ (writeRecord r s).line = s.line ∧
    (writeRecord r s).draws = s.draws ∧ (writeRecord r s).pending = s.pending := by
  simp only [writeRecord]
  rw [bumps_eq]
  split <;> simp

end Sys2Proof.Machine
end

