-- ==== Sys2Proof/Laws/UnitFrames.lean ====
section
/-! SUPPORT. What the operations of the Presort Unit, the Feeder Manager and the Track Unit leave as it was. -/

namespace Sys2Proof.Machine

variable (s : State)

@[simp] theorem evalExhausted_frame :
    (evalExhausted s).pins = s.pins ∧ (evalExhausted s).pitch = s.pitch ∧ (evalExhausted s).loop = s.loop ∧
    (evalExhausted s).tables = s.tables ∧ (evalExhausted s).acct = s.acct ∧ (evalExhausted s).stage = s.stage ∧
    (evalExhausted s).track = s.track ∧ (evalExhausted s).feeders = s.feeders ∧ (evalExhausted s).presort = s.presort ∧
    (evalExhausted s).line.jammed = s.line.jammed ∧ (evalExhausted s).line.stationLoss = s.line.stationLoss ∧
    (evalExhausted s).line.retry = s.line.retry ∧ (evalExhausted s).outcomes = s.outcomes ∧
    (evalExhausted s).draws = s.draws ∧ (evalExhausted s).pending = s.pending := by
  simp only [evalExhausted]
  split
  all_goals simp

@[simp] theorem openTray_frame (g b n : Nat) :
    (openTray g b n s).pins = s.pins ∧ (openTray g b n s).pitch = s.pitch ∧ (openTray g b n s).loop = s.loop ∧
    (openTray g b n s).tables = s.tables ∧ (openTray g b n s).acct = s.acct ∧ (openTray g b n s).stage = s.stage ∧
    (openTray g b n s).track = s.track ∧ (openTray g b n s).feeders = s.feeders ∧ (openTray g b n s).line = s.line ∧
    (openTray g b n s).outcomes = s.outcomes ∧ (openTray g b n s).draws = s.draws ∧ (openTray g b n s).pending = s.pending := by simp [openTray]

@[simp] theorem closeTray_frame (b : Nat) (c : TrayCause) (a : BinState) :
    (closeTray b c a s).pins = s.pins ∧ (closeTray b c a s).pitch = s.pitch ∧
    (closeTray b c a s).loop.mgmtIn = s.loop.mgmtIn ∧ (closeTray b c a s).loop.rollSerial = s.loop.rollSerial ∧
    (closeTray b c a s).loop.returned = s.loop.returned ∧ (closeTray b c a s).loop.misses = s.loop.misses ∧
    (closeTray b c a s).loop.ringBreakUp = s.loop.ringBreakUp ∧ (closeTray b c a s).loop.lastMask = s.loop.lastMask ∧
    (closeTray b c a s).loop.nodeRecs = s.loop.nodeRecs ∧ (closeTray b c a s).loop.lastManager = s.loop.lastManager ∧
    (closeTray b c a s).loop.noticeMask = s.loop.noticeMask ∧ (closeTray b c a s).loop.dispatcher = s.loop.dispatcher ∧
    (closeTray b c a s).tables = s.tables ∧ (closeTray b c a s).acct = s.acct ∧ (closeTray b c a s).stage = s.stage ∧
    (closeTray b c a s).track = s.track ∧ (closeTray b c a s).feeders = s.feeders ∧ (closeTray b c a s).line = s.line ∧
    (closeTray b c a s).draws = s.draws ∧ (closeTray b c a s).pending = s.pending := by simp [closeTray]

@[simp] theorem exhaust_frame (g : Nat) :
    (exhaust g s).pins = s.pins ∧ (exhaust g s).pitch.counter = s.pitch.counter ∧
    (exhaust g s).pitch.counterValid = s.pitch.counterValid ∧ (exhaust g s).pitch.indexPending = s.pitch.indexPending ∧
    (exhaust g s).pitch.phase = s.pitch.phase ∧ (exhaust g s).pitch.lastSpan = s.pitch.lastSpan ∧
    (exhaust g s).pitch.estopAsserted = s.pitch.estopAsserted ∧ (exhaust g s).pitch.releaseTimer = s.pitch.releaseTimer ∧
    (exhaust g s).pitch.unexpectedUp = s.pitch.unexpectedUp ∧ (exhaust g s).loop.mgmtIn = s.loop.mgmtIn ∧
    (exhaust g s).loop.rollSerial = s.loop.rollSerial ∧ (exhaust g s).loop.returned = s.loop.returned ∧
    (exhaust g s).loop.misses = s.loop.misses ∧ (exhaust g s).loop.ringBreakUp = s.loop.ringBreakUp ∧
    (exhaust g s).loop.lastMask = s.loop.lastMask ∧ (exhaust g s).loop.nodeRecs = s.loop.nodeRecs ∧
    (exhaust g s).loop.lastManager = s.loop.lastManager ∧ (exhaust g s).loop.noticeMask = s.loop.noticeMask ∧
    (exhaust g s).loop.dispatcher = s.loop.dispatcher ∧ (exhaust g s).tables = s.tables ∧
    (exhaust g s).acct.queue = s.acct.queue ∧ (exhaust g s).acct.halfA = s.acct.halfA ∧
    (exhaust g s).acct.tail = s.acct.tail ∧ (exhaust g s).acct.base = s.acct.base ∧ (exhaust g s).feeders = s.feeders ∧
    (exhaust g s).line.jammed = s.line.jammed ∧ (exhaust g s).line.stationLoss = s.line.stationLoss ∧
    (exhaust g s).line.retry = s.line.retry ∧ (exhaust g s).outcomes = s.outcomes ∧ (exhaust g s).draws = s.draws ∧
    (exhaust g s).pending = s.pending := by
  simp only [exhaust]
  split
  all_goals simp

@[simp] theorem advanceIndex_frame (g : Nat) :
    (advanceIndex g s).pins = s.pins ∧ (advanceIndex g s).pitch.counter = s.pitch.counter ∧
    (advanceIndex g s).pitch.counterValid = s.pitch.counterValid ∧
    (advanceIndex g s).pitch.indexPending = s.pitch.indexPending ∧ (advanceIndex g s).pitch.phase = s.pitch.phase ∧
    (advanceIndex g s).pitch.lastSpan = s.pitch.lastSpan ∧ (advanceIndex g s).pitch.estopAsserted = s.pitch.estopAsserted ∧
    (advanceIndex g s).pitch.releaseTimer = s.pitch.releaseTimer ∧
    (advanceIndex g s).pitch.unexpectedUp = s.pitch.unexpectedUp ∧ (advanceIndex g s).loop.mgmtIn = s.loop.mgmtIn ∧
    (advanceIndex g s).loop.rollSerial = s.loop.rollSerial ∧ (advanceIndex g s).loop.returned = s.loop.returned ∧
    (advanceIndex g s).loop.misses = s.loop.misses ∧ (advanceIndex g s).loop.ringBreakUp = s.loop.ringBreakUp ∧
    (advanceIndex g s).loop.lastMask = s.loop.lastMask ∧ (advanceIndex g s).loop.nodeRecs = s.loop.nodeRecs ∧
    (advanceIndex g s).loop.lastManager = s.loop.lastManager ∧ (advanceIndex g s).loop.noticeMask = s.loop.noticeMask ∧
    (advanceIndex g s).loop.dispatcher = s.loop.dispatcher ∧ (advanceIndex g s).tables = s.tables ∧
    (advanceIndex g s).acct.queue = s.acct.queue ∧ (advanceIndex g s).acct.halfA = s.acct.halfA ∧
    (advanceIndex g s).acct.tail = s.acct.tail ∧ (advanceIndex g s).acct.base = s.acct.base ∧
    (advanceIndex g s).feeders = s.feeders ∧ (advanceIndex g s).line.jammed = s.line.jammed ∧
    (advanceIndex g s).line.stationLoss = s.line.stationLoss ∧ (advanceIndex g s).line.retry = s.line.retry ∧
    (advanceIndex g s).outcomes = s.outcomes ∧ (advanceIndex g s).draws = s.draws ∧ (advanceIndex g s).pending = s.pending := by
  simp only [advanceIndex]
  repeat' split
  all_goals simp

@[simp] theorem placePiece_frame (g b n : Nat) :
    ((placePiece g b n s).1).pins = s.pins ∧ ((placePiece g b n s).1).pitch.counter = s.pitch.counter ∧
    ((placePiece g b n s).1).pitch.counterValid = s.pitch.counterValid ∧
    ((placePiece g b n s).1).pitch.indexPending = s.pitch.indexPending ∧
    ((placePiece g b n s).1).pitch.phase = s.pitch.phase ∧ ((placePiece g b n s).1).pitch.lastSpan = s.pitch.lastSpan ∧
    ((placePiece g b n s).1).pitch.estopAsserted = s.pitch.estopAsserted ∧
    ((placePiece g b n s).1).pitch.releaseTimer = s.pitch.releaseTimer ∧
    ((placePiece g b n s).1).pitch.unexpectedUp = s.pitch.unexpectedUp ∧
    ((placePiece g b n s).1).loop.mgmtIn = s.loop.mgmtIn ∧ ((placePiece g b n s).1).loop.rollSerial = s.loop.rollSerial ∧
    ((placePiece g b n s).1).loop.returned = s.loop.returned ∧ ((placePiece g b n s).1).loop.misses = s.loop.misses ∧
    ((placePiece g b n s).1).loop.ringBreakUp = s.loop.ringBreakUp ∧
    ((placePiece g b n s).1).loop.lastMask = s.loop.lastMask ∧ ((placePiece g b n s).1).loop.nodeRecs = s.loop.nodeRecs ∧
    ((placePiece g b n s).1).loop.lastManager = s.loop.lastManager ∧
    ((placePiece g b n s).1).loop.noticeMask = s.loop.noticeMask ∧
    ((placePiece g b n s).1).loop.dispatcher = s.loop.dispatcher ∧ ((placePiece g b n s).1).tables = s.tables ∧
    ((placePiece g b n s).1).acct.queue = s.acct.queue ∧ ((placePiece g b n s).1).acct.halfA = s.acct.halfA ∧
    ((placePiece g b n s).1).acct.tail = s.acct.tail ∧ ((placePiece g b n s).1).acct.base = s.acct.base ∧
    ((placePiece g b n s).1).feeders = s.feeders ∧ ((placePiece g b n s).1).line.jammed = s.line.jammed ∧
    ((placePiece g b n s).1).line.stationLoss = s.line.stationLoss ∧ ((placePiece g b n s).1).line.retry = s.line.retry ∧
    ((placePiece g b n s).1).draws = s.draws ∧ ((placePiece g b n s).1).pending = s.pending := by
  simp only [placePiece]
  repeat' split
  all_goals simp

@[simp] theorem overflowPiece_frame (g : Nat) (w : HeldReason) :
    ((overflowPiece g w s).1).pins = s.pins ∧ ((overflowPiece g w s).1).pitch = s.pitch ∧
    ((overflowPiece g w s).1).loop.mgmtIn = s.loop.mgmtIn ∧ ((overflowPiece g w s).1).loop.rollSerial = s.loop.rollSerial ∧
    ((overflowPiece g w s).1).loop.returned = s.loop.returned ∧ ((overflowPiece g w s).1).loop.misses = s.loop.misses ∧
    ((overflowPiece g w s).1).loop.ringBreakUp = s.loop.ringBreakUp ∧
    ((overflowPiece g w s).1).loop.lastMask = s.loop.lastMask ∧ ((overflowPiece g w s).1).loop.nodeRecs = s.loop.nodeRecs ∧
    ((overflowPiece g w s).1).loop.lastManager = s.loop.lastManager ∧
    ((overflowPiece g w s).1).loop.noticeMask = s.loop.noticeMask ∧
    ((overflowPiece g w s).1).loop.dispatcher = s.loop.dispatcher ∧ ((overflowPiece g w s).1).tables = s.tables ∧
    ((overflowPiece g w s).1).acct = s.acct ∧ ((overflowPiece g w s).1).stage = s.stage ∧
    ((overflowPiece g w s).1).track = s.track ∧ ((overflowPiece g w s).1).feeders = s.feeders ∧
    ((overflowPiece g w s).1).line = s.line ∧ ((overflowPiece g w s).1).outcomes = s.outcomes ∧
    ((overflowPiece g w s).1).draws = s.draws ∧ ((overflowPiece g w s).1).pending = s.pending := by
  simp only [overflowPiece]
  repeat' split
  all_goals simp

@[simp] theorem exitDecision_frame (g n : Nat) :
    ((exitDecision g n s).1).pins = s.pins ∧ ((exitDecision g n s).1).pitch.counter = s.pitch.counter ∧
    ((exitDecision g n s).1).pitch.counterValid = s.pitch.counterValid ∧
    ((exitDecision g n s).1).pitch.indexPending = s.pitch.indexPending ∧
    ((exitDecision g n s).1).pitch.phase = s.pitch.phase ∧ ((exitDecision g n s).1).pitch.lastSpan = s.pitch.lastSpan ∧
    ((exitDecision g n s).1).pitch.estopAsserted = s.pitch.estopAsserted ∧
    ((exitDecision g n s).1).pitch.releaseTimer = s.pitch.releaseTimer ∧
    ((exitDecision g n s).1).pitch.unexpectedUp = s.pitch.unexpectedUp ∧
    ((exitDecision g n s).1).loop.mgmtIn = s.loop.mgmtIn ∧ ((exitDecision g n s).1).loop.rollSerial = s.loop.rollSerial ∧
    ((exitDecision g n s).1).loop.returned = s.loop.returned ∧ ((exitDecision g n s).1).loop.misses = s.loop.misses ∧
    ((exitDecision g n s).1).loop.ringBreakUp = s.loop.ringBreakUp ∧
    ((exitDecision g n s).1).loop.lastMask = s.loop.lastMask ∧ ((exitDecision g n s).1).loop.nodeRecs = s.loop.nodeRecs ∧
    ((exitDecision g n s).1).loop.lastManager = s.loop.lastManager ∧
    ((exitDecision g n s).1).loop.noticeMask = s.loop.noticeMask ∧
    ((exitDecision g n s).1).loop.dispatcher = s.loop.dispatcher ∧ ((exitDecision g n s).1).tables = s.tables ∧
    ((exitDecision g n s).1).acct.queue = s.acct.queue ∧ ((exitDecision g n s).1).acct.halfA = s.acct.halfA ∧
    ((exitDecision g n s).1).acct.tail = s.acct.tail ∧ ((exitDecision g n s).1).acct.base = s.acct.base ∧
    ((exitDecision g n s).1).feeders = s.feeders ∧ ((exitDecision g n s).1).line.jammed = s.line.jammed ∧
    ((exitDecision g n s).1).line.stationLoss = s.line.stationLoss ∧ ((exitDecision g n s).1).line.retry = s.line.retry ∧
    ((exitDecision g n s).1).draws = s.draws ∧ ((exitDecision g n s).1).pending = s.pending := by
  simp only [exitDecision]
  repeat' split
  all_goals simp

@[simp] theorem reactivate_frame (b : Nat) :
    (reactivate b s).pins = s.pins ∧ (reactivate b s).pitch = s.pitch ∧ (reactivate b s).loop = s.loop ∧
    (reactivate b s).tables = s.tables ∧ (reactivate b s).acct = s.acct ∧ (reactivate b s).stage = s.stage ∧
    (reactivate b s).track = s.track ∧ (reactivate b s).feeders = s.feeders ∧ (reactivate b s).line.jammed = s.line.jammed ∧
    (reactivate b s).line.stationLoss = s.line.stationLoss ∧ (reactivate b s).line.retry = s.line.retry ∧
    (reactivate b s).outcomes = s.outcomes ∧ (reactivate b s).draws = s.draws ∧ (reactivate b s).pending = s.pending := by
  simp only [reactivate]
  repeat' split
  all_goals simp

@[simp] theorem binEmptied_frame (b : Nat) :
    (binEmptied b s).pins = s.pins ∧ (binEmptied b s).pitch = s.pitch ∧ (binEmptied b s).loop.mgmtIn = s.loop.mgmtIn ∧
    (binEmptied b s).loop.rollSerial = s.loop.rollSerial ∧ (binEmptied b s).loop.returned = s.loop.returned ∧
    (binEmptied b s).loop.misses = s.loop.misses ∧ (binEmptied b s).loop.ringBreakUp = s.loop.ringBreakUp ∧
    (binEmptied b s).loop.lastMask = s.loop.lastMask ∧ (binEmptied b s).loop.nodeRecs = s.loop.nodeRecs ∧
    (binEmptied b s).loop.lastManager = s.loop.lastManager ∧ (binEmptied b s).loop.noticeMask = s.loop.noticeMask ∧
    (binEmptied b s).loop.dispatcher = s.loop.dispatcher ∧ (binEmptied b s).tables = s.tables ∧
    (binEmptied b s).acct = s.acct ∧ (binEmptied b s).stage = s.stage ∧ (binEmptied b s).track = s.track ∧
    (binEmptied b s).feeders = s.feeders ∧ (binEmptied b s).line.jammed = s.line.jammed ∧
    (binEmptied b s).line.stationLoss = s.line.stationLoss ∧ (binEmptied b s).line.retry = s.line.retry ∧
    (binEmptied b s).draws = s.draws ∧ (binEmptied b s).pending = s.pending := by
  simp only [binEmptied]
  split
  all_goals simp

@[simp] theorem binOffline_frame (b : Nat) :
    (binOffline b s).pins = s.pins ∧ (binOffline b s).pitch = s.pitch ∧ (binOffline b s).loop.mgmtIn = s.loop.mgmtIn ∧
    (binOffline b s).loop.rollSerial = s.loop.rollSerial ∧ (binOffline b s).loop.returned = s.loop.returned ∧
    (binOffline b s).loop.misses = s.loop.misses ∧ (binOffline b s).loop.ringBreakUp = s.loop.ringBreakUp ∧
    (binOffline b s).loop.lastMask = s.loop.lastMask ∧ (binOffline b s).loop.nodeRecs = s.loop.nodeRecs ∧
    (binOffline b s).loop.lastManager = s.loop.lastManager ∧ (binOffline b s).loop.noticeMask = s.loop.noticeMask ∧
    (binOffline b s).loop.dispatcher = s.loop.dispatcher ∧ (binOffline b s).tables = s.tables ∧
    (binOffline b s).acct = s.acct ∧ (binOffline b s).stage = s.stage ∧ (binOffline b s).track = s.track ∧
    (binOffline b s).feeders = s.feeders ∧ (binOffline b s).line.jammed = s.line.jammed ∧
    (binOffline b s).line.stationLoss = s.line.stationLoss ∧ (binOffline b s).line.retry = s.line.retry ∧
    (binOffline b s).draws = s.draws ∧ (binOffline b s).pending = s.pending := by
  simp only [binOffline]
  split
  all_goals simp

@[simp] theorem binOnline_frame (b : Nat) :
    (binOnline b s).pins = s.pins ∧ (binOnline b s).pitch = s.pitch ∧ (binOnline b s).loop.mgmtIn = s.loop.mgmtIn ∧
    (binOnline b s).loop.rollSerial = s.loop.rollSerial ∧ (binOnline b s).loop.returned = s.loop.returned ∧
    (binOnline b s).loop.misses = s.loop.misses ∧ (binOnline b s).loop.ringBreakUp = s.loop.ringBreakUp ∧
    (binOnline b s).loop.lastMask = s.loop.lastMask ∧ (binOnline b s).loop.nodeRecs = s.loop.nodeRecs ∧
    (binOnline b s).loop.lastManager = s.loop.lastManager ∧ (binOnline b s).loop.noticeMask = s.loop.noticeMask ∧
    (binOnline b s).loop.dispatcher = s.loop.dispatcher ∧ (binOnline b s).tables = s.tables ∧ (binOnline b s).acct = s.acct ∧
    (binOnline b s).stage = s.stage ∧ (binOnline b s).track = s.track ∧ (binOnline b s).feeders = s.feeders ∧
    (binOnline b s).line.jammed = s.line.jammed ∧ (binOnline b s).line.stationLoss = s.line.stationLoss ∧
    (binOnline b s).line.retry = s.line.retry ∧ (binOnline b s).draws = s.draws ∧ (binOnline b s).pending = s.pending := by
  simp only [binOnline]
  split
  all_goals simp

@[simp] theorem sorterStatus_frame (t : StationState) (d : Byte) :
    (sorterStatus t d s).pins = s.pins ∧ (sorterStatus t d s).pitch = s.pitch ∧ (sorterStatus t d s).loop = s.loop ∧
    (sorterStatus t d s).tables = s.tables ∧ (sorterStatus t d s).acct = s.acct ∧ (sorterStatus t d s).stage = s.stage ∧
    (sorterStatus t d s).track = s.track ∧ (sorterStatus t d s).feeders = s.feeders ∧ (sorterStatus t d s).line = s.line ∧
    (sorterStatus t d s).outcomes = s.outcomes ∧ (sorterStatus t d s).draws = s.draws ∧
    (sorterStatus t d s).pending = s.pending := by
  simp only [sorterStatus]
  repeat' split
  all_goals simp

@[simp] theorem evalPairs_frame :
    (evalPairs s).pins = s.pins ∧ (evalPairs s).pitch.counter = s.pitch.counter ∧
    (evalPairs s).pitch.counterValid = s.pitch.counterValid ∧ (evalPairs s).pitch.indexPending = s.pitch.indexPending ∧
    (evalPairs s).pitch.phase = s.pitch.phase ∧ (evalPairs s).pitch.lastSpan = s.pitch.lastSpan ∧
    (evalPairs s).pitch.estopAsserted = s.pitch.estopAsserted ∧ (evalPairs s).pitch.releaseTimer = s.pitch.releaseTimer ∧
    (evalPairs s).pitch.unexpectedUp = s.pitch.unexpectedUp ∧ (evalPairs s).loop.mgmtIn = s.loop.mgmtIn ∧
    (evalPairs s).loop.rollSerial = s.loop.rollSerial ∧ (evalPairs s).loop.returned = s.loop.returned ∧
    (evalPairs s).loop.misses = s.loop.misses ∧ (evalPairs s).loop.ringBreakUp = s.loop.ringBreakUp ∧
    (evalPairs s).loop.lastMask = s.loop.lastMask ∧ (evalPairs s).loop.nodeRecs = s.loop.nodeRecs ∧
    (evalPairs s).loop.lastManager = s.loop.lastManager ∧ (evalPairs s).loop.noticeMask = s.loop.noticeMask ∧
    (evalPairs s).loop.dispatcher = s.loop.dispatcher ∧ (evalPairs s).tables = s.tables ∧
    (evalPairs s).acct.queue = s.acct.queue ∧ (evalPairs s).acct.halfA = s.acct.halfA ∧
    (evalPairs s).acct.tail = s.acct.tail ∧ (evalPairs s).acct.base = s.acct.base ∧ (evalPairs s).presort = s.presort ∧
    (evalPairs s).line.jammed = s.line.jammed ∧ (evalPairs s).line.stationLoss = s.line.stationLoss ∧
    (evalPairs s).line.retry = s.line.retry ∧ (evalPairs s).outcomes = s.outcomes ∧ (evalPairs s).draws = s.draws ∧
    (evalPairs s).pending = s.pending := by
  simp only [evalPairs]
  repeat' split
  all_goals simp

@[simp] theorem evalFault_frame :
    (evalFault s).pins = s.pins ∧ (evalFault s).pitch = s.pitch ∧ (evalFault s).loop = s.loop ∧
    (evalFault s).tables = s.tables ∧ (evalFault s).acct = s.acct ∧ (evalFault s).stage = s.stage ∧
    (evalFault s).track = s.track ∧ (evalFault s).feeders = s.feeders ∧ (evalFault s).presort = s.presort ∧
    (evalFault s).line.jammed = s.line.jammed ∧ (evalFault s).line.stationLoss = s.line.stationLoss ∧
    (evalFault s).line.retry = s.line.retry ∧ (evalFault s).outcomes = s.outcomes ∧ (evalFault s).draws = s.draws ∧
    (evalFault s).pending = s.pending := by
  simp only [evalFault]
  split
  all_goals simp

@[simp] theorem feederBecomes_frame (k : Nat) (t : FeederState) :
    (feederBecomes k t s).pins = s.pins ∧ (feederBecomes k t s).pitch.counter = s.pitch.counter ∧
    (feederBecomes k t s).pitch.counterValid = s.pitch.counterValid ∧
    (feederBecomes k t s).pitch.indexPending = s.pitch.indexPending ∧ (feederBecomes k t s).pitch.phase = s.pitch.phase ∧
    (feederBecomes k t s).pitch.lastSpan = s.pitch.lastSpan ∧
    (feederBecomes k t s).pitch.estopAsserted = s.pitch.estopAsserted ∧
    (feederBecomes k t s).pitch.releaseTimer = s.pitch.releaseTimer ∧
    (feederBecomes k t s).pitch.unexpectedUp = s.pitch.unexpectedUp ∧ (feederBecomes k t s).loop.mgmtIn = s.loop.mgmtIn ∧
    (feederBecomes k t s).loop.rollSerial = s.loop.rollSerial ∧ (feederBecomes k t s).loop.returned = s.loop.returned ∧
    (feederBecomes k t s).loop.misses = s.loop.misses ∧ (feederBecomes k t s).loop.ringBreakUp = s.loop.ringBreakUp ∧
    (feederBecomes k t s).loop.lastMask = s.loop.lastMask ∧ (feederBecomes k t s).loop.nodeRecs = s.loop.nodeRecs ∧
    (feederBecomes k t s).loop.lastManager = s.loop.lastManager ∧ (feederBecomes k t s).loop.noticeMask = s.loop.noticeMask ∧
    (feederBecomes k t s).loop.dispatcher = s.loop.dispatcher ∧ (feederBecomes k t s).tables = s.tables ∧
    (feederBecomes k t s).acct.queue = s.acct.queue ∧ (feederBecomes k t s).acct.halfA = s.acct.halfA ∧
    (feederBecomes k t s).acct.tail = s.acct.tail ∧ (feederBecomes k t s).acct.base = s.acct.base ∧
    (feederBecomes k t s).presort = s.presort ∧ (feederBecomes k t s).line.jammed = s.line.jammed ∧
    (feederBecomes k t s).line.stationLoss = s.line.stationLoss ∧ (feederBecomes k t s).line.retry = s.line.retry ∧
    (feederBecomes k t s).outcomes = s.outcomes ∧ (feederBecomes k t s).draws = s.draws ∧
    (feederBecomes k t s).pending = s.pending := by
  simp only [feederBecomes]
  repeat' split
  all_goals simp

@[simp] theorem feederStatus_frame (k : Nat) (t : StationState) :
    (feederStatus k t s).pins = s.pins ∧ (feederStatus k t s).pitch.counter = s.pitch.counter ∧
    (feederStatus k t s).pitch.counterValid = s.pitch.counterValid ∧
    (feederStatus k t s).pitch.indexPending = s.pitch.indexPending ∧ (feederStatus k t s).pitch.phase = s.pitch.phase ∧
    (feederStatus k t s).pitch.lastSpan = s.pitch.lastSpan ∧
    (feederStatus k t s).pitch.estopAsserted = s.pitch.estopAsserted ∧
    (feederStatus k t s).pitch.releaseTimer = s.pitch.releaseTimer ∧
    (feederStatus k t s).pitch.unexpectedUp = s.pitch.unexpectedUp ∧ (feederStatus k t s).loop.mgmtIn = s.loop.mgmtIn ∧
    (feederStatus k t s).loop.rollSerial = s.loop.rollSerial ∧ (feederStatus k t s).loop.returned = s.loop.returned ∧
    (feederStatus k t s).loop.misses = s.loop.misses ∧ (feederStatus k t s).loop.ringBreakUp = s.loop.ringBreakUp ∧
    (feederStatus k t s).loop.lastMask = s.loop.lastMask ∧ (feederStatus k t s).loop.nodeRecs = s.loop.nodeRecs ∧
    (feederStatus k t s).loop.lastManager = s.loop.lastManager ∧ (feederStatus k t s).loop.noticeMask = s.loop.noticeMask ∧
    (feederStatus k t s).loop.dispatcher = s.loop.dispatcher ∧ (feederStatus k t s).tables = s.tables ∧
    (feederStatus k t s).acct.queue = s.acct.queue ∧ (feederStatus k t s).acct.halfA = s.acct.halfA ∧
    (feederStatus k t s).acct.tail = s.acct.tail ∧ (feederStatus k t s).acct.base = s.acct.base ∧
    (feederStatus k t s).presort = s.presort ∧ (feederStatus k t s).line.jammed = s.line.jammed ∧
    (feederStatus k t s).line.stationLoss = s.line.stationLoss ∧ (feederStatus k t s).line.retry = s.line.retry ∧
    (feederStatus k t s).outcomes = s.outcomes ∧ (feederStatus k t s).draws = s.draws ∧
    (feederStatus k t s).pending = s.pending := by
  simp only [feederStatus]
  split
  all_goals simp

@[simp] theorem feederNodeLost_frame (k : Nat) :
    (feederNodeLost k s).pins = s.pins ∧ (feederNodeLost k s).pitch.counter = s.pitch.counter ∧
    (feederNodeLost k s).pitch.counterValid = s.pitch.counterValid ∧
    (feederNodeLost k s).pitch.indexPending = s.pitch.indexPending ∧ (feederNodeLost k s).pitch.phase = s.pitch.phase ∧
    (feederNodeLost k s).pitch.lastSpan = s.pitch.lastSpan ∧
    (feederNodeLost k s).pitch.estopAsserted = s.pitch.estopAsserted ∧
    (feederNodeLost k s).pitch.releaseTimer = s.pitch.releaseTimer ∧
    (feederNodeLost k s).pitch.unexpectedUp = s.pitch.unexpectedUp ∧ (feederNodeLost k s).loop.mgmtIn = s.loop.mgmtIn ∧
    (feederNodeLost k s).loop.rollSerial = s.loop.rollSerial ∧ (feederNodeLost k s).loop.returned = s.loop.returned ∧
    (feederNodeLost k s).loop.misses = s.loop.misses ∧ (feederNodeLost k s).loop.ringBreakUp = s.loop.ringBreakUp ∧
    (feederNodeLost k s).loop.lastMask = s.loop.lastMask ∧ (feederNodeLost k s).loop.nodeRecs = s.loop.nodeRecs ∧
    (feederNodeLost k s).loop.lastManager = s.loop.lastManager ∧ (feederNodeLost k s).loop.noticeMask = s.loop.noticeMask ∧
    (feederNodeLost k s).loop.dispatcher = s.loop.dispatcher ∧ (feederNodeLost k s).tables = s.tables ∧
    (feederNodeLost k s).acct.queue = s.acct.queue ∧ (feederNodeLost k s).acct.halfA = s.acct.halfA ∧
    (feederNodeLost k s).acct.tail = s.acct.tail ∧ (feederNodeLost k s).acct.base = s.acct.base ∧
    (feederNodeLost k s).presort = s.presort ∧ (feederNodeLost k s).line.jammed = s.line.jammed ∧
    (feederNodeLost k s).line.stationLoss = s.line.stationLoss ∧ (feederNodeLost k s).line.retry = s.line.retry ∧
    (feederNodeLost k s).outcomes = s.outcomes ∧ (feederNodeLost k s).draws = s.draws ∧
    (feederNodeLost k s).pending = s.pending := by
  simp only [feederNodeLost]
  split
  all_goals simp

@[simp] theorem feederNodeSeen_frame (k : Nat) :
    (feederNodeSeen k s).pins = s.pins ∧ (feederNodeSeen k s).pitch.counter = s.pitch.counter ∧
    (feederNodeSeen k s).pitch.counterValid = s.pitch.counterValid ∧
    (feederNodeSeen k s).pitch.indexPending = s.pitch.indexPending ∧ (feederNodeSeen k s).pitch.phase = s.pitch.phase ∧
    (feederNodeSeen k s).pitch.lastSpan = s.pitch.lastSpan ∧
    (feederNodeSeen k s).pitch.estopAsserted = s.pitch.estopAsserted ∧
    (feederNodeSeen k s).pitch.releaseTimer = s.pitch.releaseTimer ∧
    (feederNodeSeen k s).pitch.unexpectedUp = s.pitch.unexpectedUp ∧ (feederNodeSeen k s).loop.mgmtIn = s.loop.mgmtIn ∧
    (feederNodeSeen k s).loop.rollSerial = s.loop.rollSerial ∧ (feederNodeSeen k s).loop.returned = s.loop.returned ∧
    (feederNodeSeen k s).loop.misses = s.loop.misses ∧ (feederNodeSeen k s).loop.ringBreakUp = s.loop.ringBreakUp ∧
    (feederNodeSeen k s).loop.lastMask = s.loop.lastMask ∧ (feederNodeSeen k s).loop.nodeRecs = s.loop.nodeRecs ∧
    (feederNodeSeen k s).loop.lastManager = s.loop.lastManager ∧ (feederNodeSeen k s).loop.noticeMask = s.loop.noticeMask ∧
    (feederNodeSeen k s).loop.dispatcher = s.loop.dispatcher ∧ (feederNodeSeen k s).tables = s.tables ∧
    (feederNodeSeen k s).acct.queue = s.acct.queue ∧ (feederNodeSeen k s).acct.halfA = s.acct.halfA ∧
    (feederNodeSeen k s).acct.tail = s.acct.tail ∧ (feederNodeSeen k s).acct.base = s.acct.base ∧
    (feederNodeSeen k s).presort = s.presort ∧ (feederNodeSeen k s).line.jammed = s.line.jammed ∧
    (feederNodeSeen k s).line.stationLoss = s.line.stationLoss ∧ (feederNodeSeen k s).line.retry = s.line.retry ∧
    (feederNodeSeen k s).outcomes = s.outcomes ∧ (feederNodeSeen k s).draws = s.draws ∧
    (feederNodeSeen k s).pending = s.pending := by
  simp only [feederNodeSeen]
  split
  all_goals simp

@[simp] theorem feedersOutOfUse_frame :
    (feedersOutOfUse s).pins = s.pins ∧ (feedersOutOfUse s).pitch.counter = s.pitch.counter ∧
    (feedersOutOfUse s).pitch.counterValid = s.pitch.counterValid ∧
    (feedersOutOfUse s).pitch.indexPending = s.pitch.indexPending ∧ (feedersOutOfUse s).pitch.phase = s.pitch.phase ∧
    (feedersOutOfUse s).pitch.lastSpan = s.pitch.lastSpan ∧ (feedersOutOfUse s).pitch.estopAsserted = s.pitch.estopAsserted ∧
    (feedersOutOfUse s).pitch.releaseTimer = s.pitch.releaseTimer ∧
    (feedersOutOfUse s).pitch.unexpectedUp = s.pitch.unexpectedUp ∧ (feedersOutOfUse s).loop.mgmtIn = s.loop.mgmtIn ∧
    (feedersOutOfUse s).loop.rollSerial = s.loop.rollSerial ∧ (feedersOutOfUse s).loop.returned = s.loop.returned ∧
    (feedersOutOfUse s).loop.misses = s.loop.misses ∧ (feedersOutOfUse s).loop.ringBreakUp = s.loop.ringBreakUp ∧
    (feedersOutOfUse s).loop.lastMask = s.loop.lastMask ∧ (feedersOutOfUse s).loop.nodeRecs = s.loop.nodeRecs ∧
    (feedersOutOfUse s).loop.lastManager = s.loop.lastManager ∧ (feedersOutOfUse s).loop.noticeMask = s.loop.noticeMask ∧
    (feedersOutOfUse s).loop.dispatcher = s.loop.dispatcher ∧ (feedersOutOfUse s).tables = s.tables ∧
    (feedersOutOfUse s).acct.queue = s.acct.queue ∧ (feedersOutOfUse s).acct.halfA = s.acct.halfA ∧
    (feedersOutOfUse s).acct.tail = s.acct.tail ∧ (feedersOutOfUse s).acct.base = s.acct.base ∧
    (feedersOutOfUse s).presort = s.presort ∧ (feedersOutOfUse s).line.jammed = s.line.jammed ∧
    (feedersOutOfUse s).line.stationLoss = s.line.stationLoss ∧ (feedersOutOfUse s).line.retry = s.line.retry ∧
    (feedersOutOfUse s).outcomes = s.outcomes ∧ (feedersOutOfUse s).draws = s.draws ∧ (feedersOutOfUse s).pending = s.pending := by simp [feedersOutOfUse]

@[simp] theorem feedersIntoUse_frame :
    (feedersIntoUse s).pins = s.pins ∧ (feedersIntoUse s).pitch.counter = s.pitch.counter ∧
    (feedersIntoUse s).pitch.counterValid = s.pitch.counterValid ∧
    (feedersIntoUse s).pitch.indexPending = s.pitch.indexPending ∧ (feedersIntoUse s).pitch.phase = s.pitch.phase ∧
    (feedersIntoUse s).pitch.lastSpan = s.pitch.lastSpan ∧ (feedersIntoUse s).pitch.estopAsserted = s.pitch.estopAsserted ∧
    (feedersIntoUse s).pitch.releaseTimer = s.pitch.releaseTimer ∧
    (feedersIntoUse s).pitch.unexpectedUp = s.pitch.unexpectedUp ∧ (feedersIntoUse s).loop.mgmtIn = s.loop.mgmtIn ∧
    (feedersIntoUse s).loop.rollSerial = s.loop.rollSerial ∧ (feedersIntoUse s).loop.returned = s.loop.returned ∧
    (feedersIntoUse s).loop.misses = s.loop.misses ∧ (feedersIntoUse s).loop.ringBreakUp = s.loop.ringBreakUp ∧
    (feedersIntoUse s).loop.lastMask = s.loop.lastMask ∧ (feedersIntoUse s).loop.nodeRecs = s.loop.nodeRecs ∧
    (feedersIntoUse s).loop.lastManager = s.loop.lastManager ∧ (feedersIntoUse s).loop.noticeMask = s.loop.noticeMask ∧
    (feedersIntoUse s).loop.dispatcher = s.loop.dispatcher ∧ (feedersIntoUse s).tables = s.tables ∧
    (feedersIntoUse s).acct.queue = s.acct.queue ∧ (feedersIntoUse s).acct.halfA = s.acct.halfA ∧
    (feedersIntoUse s).acct.tail = s.acct.tail ∧ (feedersIntoUse s).acct.base = s.acct.base ∧
    (feedersIntoUse s).presort = s.presort ∧ (feedersIntoUse s).line.jammed = s.line.jammed ∧
    (feedersIntoUse s).line.stationLoss = s.line.stationLoss ∧ (feedersIntoUse s).line.retry = s.line.retry ∧
    (feedersIntoUse s).outcomes = s.outcomes ∧ (feedersIntoUse s).draws = s.draws ∧ (feedersIntoUse s).pending = s.pending := by simp [feedersIntoUse]

@[simp] theorem feedersRunClear_frame :
    (feedersRunClear s).pins = s.pins ∧ (feedersRunClear s).pitch = s.pitch ∧ (feedersRunClear s).loop = s.loop ∧
    (feedersRunClear s).tables = s.tables ∧ (feedersRunClear s).acct = s.acct ∧ (feedersRunClear s).stage = s.stage ∧
    (feedersRunClear s).track = s.track ∧ (feedersRunClear s).presort = s.presort ∧ (feedersRunClear s).line = s.line ∧
    (feedersRunClear s).outcomes = s.outcomes ∧ (feedersRunClear s).draws = s.draws ∧ (feedersRunClear s).pending = s.pending := by simp [feedersRunClear]

@[simp] theorem faultIf_frame (b : Bool) (k : Nat) :
    (faultIf b k s).pins = s.pins ∧ (faultIf b k s).pitch.counter = s.pitch.counter ∧
    (faultIf b k s).pitch.counterValid = s.pitch.counterValid ∧ (faultIf b k s).pitch.indexPending = s.pitch.indexPending ∧
    (faultIf b k s).pitch.phase = s.pitch.phase ∧ (faultIf b k s).pitch.lastSpan = s.pitch.lastSpan ∧
    (faultIf b k s).pitch.estopAsserted = s.pitch.estopAsserted ∧ (faultIf b k s).pitch.releaseTimer = s.pitch.releaseTimer ∧
    (faultIf b k s).pitch.unexpectedUp = s.pitch.unexpectedUp ∧ (faultIf b k s).loop.mgmtIn = s.loop.mgmtIn ∧
    (faultIf b k s).loop.rollSerial = s.loop.rollSerial ∧ (faultIf b k s).loop.returned = s.loop.returned ∧
    (faultIf b k s).loop.misses = s.loop.misses ∧ (faultIf b k s).loop.ringBreakUp = s.loop.ringBreakUp ∧
    (faultIf b k s).loop.lastMask = s.loop.lastMask ∧ (faultIf b k s).loop.nodeRecs = s.loop.nodeRecs ∧
    (faultIf b k s).loop.lastManager = s.loop.lastManager ∧ (faultIf b k s).loop.noticeMask = s.loop.noticeMask ∧
    (faultIf b k s).loop.dispatcher = s.loop.dispatcher ∧ (faultIf b k s).tables = s.tables ∧
    (faultIf b k s).acct.queue = s.acct.queue ∧ (faultIf b k s).acct.halfA = s.acct.halfA ∧
    (faultIf b k s).acct.tail = s.acct.tail ∧ (faultIf b k s).acct.base = s.acct.base ∧ (faultIf b k s).presort = s.presort ∧
    (faultIf b k s).line.jammed = s.line.jammed ∧ (faultIf b k s).line.stationLoss = s.line.stationLoss ∧
    (faultIf b k s).line.retry = s.line.retry ∧ (faultIf b k s).outcomes = s.outcomes ∧ (faultIf b k s).draws = s.draws ∧
    (faultIf b k s).pending = s.pending := by
  simp only [faultIf]
  split
  all_goals simp

@[simp] theorem feederReport_frame (k : Nat) (r : PlanResult) (t : Timing) :
    (feederReport k r t s).pins = s.pins ∧ (feederReport k r t s).pitch.counter = s.pitch.counter ∧
    (feederReport k r t s).pitch.counterValid = s.pitch.counterValid ∧
    (feederReport k r t s).pitch.indexPending = s.pitch.indexPending ∧ (feederReport k r t s).pitch.phase = s.pitch.phase ∧
    (feederReport k r t s).pitch.lastSpan = s.pitch.lastSpan ∧
    (feederReport k r t s).pitch.estopAsserted = s.pitch.estopAsserted ∧
    (feederReport k r t s).pitch.releaseTimer = s.pitch.releaseTimer ∧
    (feederReport k r t s).pitch.unexpectedUp = s.pitch.unexpectedUp ∧ (feederReport k r t s).loop.mgmtIn = s.loop.mgmtIn ∧
    (feederReport k r t s).loop.rollSerial = s.loop.rollSerial ∧ (feederReport k r t s).loop.returned = s.loop.returned ∧
    (feederReport k r t s).loop.misses = s.loop.misses ∧ (feederReport k r t s).loop.ringBreakUp = s.loop.ringBreakUp ∧
    (feederReport k r t s).loop.lastMask = s.loop.lastMask ∧ (feederReport k r t s).loop.nodeRecs = s.loop.nodeRecs ∧
    (feederReport k r t s).loop.lastManager = s.loop.lastManager ∧
    (feederReport k r t s).loop.noticeMask = s.loop.noticeMask ∧ (feederReport k r t s).loop.dispatcher = s.loop.dispatcher ∧
    (feederReport k r t s).tables = s.tables ∧ (feederReport k r t s).acct.queue = s.acct.queue ∧
    (feederReport k r t s).acct.halfA = s.acct.halfA ∧ (feederReport k r t s).acct.tail = s.acct.tail ∧
    (feederReport k r t s).acct.base = s.acct.base ∧ (feederReport k r t s).presort = s.presort ∧
    (feederReport k r t s).line.jammed = s.line.jammed ∧ (feederReport k r t s).line.stationLoss = s.line.stationLoss ∧
    (feederReport k r t s).line.retry = s.line.retry ∧ (feederReport k r t s).outcomes = s.outcomes ∧
    (feederReport k r t s).draws = s.draws ∧ (feederReport k r t s).pending = s.pending := by simp [feederReport]

@[simp] theorem feederMissing_frame (k : Nat) :
    (feederMissing k s).pins = s.pins ∧ (feederMissing k s).pitch.counter = s.pitch.counter ∧
    (feederMissing k s).pitch.counterValid = s.pitch.counterValid ∧
    (feederMissing k s).pitch.indexPending = s.pitch.indexPending ∧ (feederMissing k s).pitch.phase = s.pitch.phase ∧
    (feederMissing k s).pitch.lastSpan = s.pitch.lastSpan ∧ (feederMissing k s).pitch.estopAsserted = s.pitch.estopAsserted ∧
    (feederMissing k s).pitch.releaseTimer = s.pitch.releaseTimer ∧
    (feederMissing k s).pitch.unexpectedUp = s.pitch.unexpectedUp ∧ (feederMissing k s).loop.mgmtIn = s.loop.mgmtIn ∧
    (feederMissing k s).loop.rollSerial = s.loop.rollSerial ∧ (feederMissing k s).loop.returned = s.loop.returned ∧
    (feederMissing k s).loop.misses = s.loop.misses ∧ (feederMissing k s).loop.ringBreakUp = s.loop.ringBreakUp ∧
    (feederMissing k s).loop.lastMask = s.loop.lastMask ∧ (feederMissing k s).loop.nodeRecs = s.loop.nodeRecs ∧
    (feederMissing k s).loop.lastManager = s.loop.lastManager ∧ (feederMissing k s).loop.noticeMask = s.loop.noticeMask ∧
    (feederMissing k s).loop.dispatcher = s.loop.dispatcher ∧ (feederMissing k s).tables = s.tables ∧
    (feederMissing k s).acct.queue = s.acct.queue ∧ (feederMissing k s).acct.halfA = s.acct.halfA ∧
    (feederMissing k s).acct.tail = s.acct.tail ∧ (feederMissing k s).acct.base = s.acct.base ∧
    (feederMissing k s).presort = s.presort ∧ (feederMissing k s).line.jammed = s.line.jammed ∧
    (feederMissing k s).line.stationLoss = s.line.stationLoss ∧ (feederMissing k s).line.retry = s.line.retry ∧
    (feederMissing k s).outcomes = s.outcomes ∧ (feederMissing k s).draws = s.draws ∧ (feederMissing k s).pending = s.pending := by simp [feederMissing]

@[simp] theorem markPocket_frame (p : Nat) (w : Reason) :
    (markPocket p w s).pins = s.pins ∧ (markPocket p w s).pitch = s.pitch ∧ (markPocket p w s).loop = s.loop ∧
    (markPocket p w s).tables = s.tables ∧ (markPocket p w s).acct = s.acct ∧ (markPocket p w s).stage = s.stage ∧
    (markPocket p w s).feeders = s.feeders ∧ (markPocket p w s).presort = s.presort ∧ (markPocket p w s).line = s.line ∧
    (markPocket p w s).outcomes = s.outcomes ∧ (markPocket p w s).draws = s.draws ∧ (markPocket p w s).pending = s.pending := by
  simp only [markPocket]
  split
  all_goals simp

@[simp] theorem putCount_frame (r : Role) (n : Nat) :
    (putCount r n s).pins = s.pins ∧ (putCount r n s).pitch = s.pitch ∧ (putCount r n s).loop = s.loop ∧
    (putCount r n s).tables = s.tables ∧ (putCount r n s).acct = s.acct ∧ (putCount r n s).stage = s.stage ∧
    (putCount r n s).feeders = s.feeders ∧ (putCount r n s).presort = s.presort ∧ (putCount r n s).line = s.line ∧
    (putCount r n s).outcomes = s.outcomes ∧ (putCount r n s).draws = s.draws ∧ (putCount r n s).pending = s.pending := by
  cases r <;> simp [putCount]

@[simp] theorem timingError_frame (r : Role) :
    (timingError r s).pins = s.pins ∧ (timingError r s).pitch.counter = s.pitch.counter ∧
    (timingError r s).pitch.counterValid = s.pitch.counterValid ∧
    (timingError r s).pitch.indexPending = s.pitch.indexPending ∧ (timingError r s).pitch.phase = s.pitch.phase ∧
    (timingError r s).pitch.lastSpan = s.pitch.lastSpan ∧ (timingError r s).pitch.estopAsserted = s.pitch.estopAsserted ∧
    (timingError r s).pitch.releaseTimer = s.pitch.releaseTimer ∧
    (timingError r s).pitch.unexpectedUp = s.pitch.unexpectedUp ∧ (timingError r s).loop.mgmtIn = s.loop.mgmtIn ∧
    (timingError r s).loop.rollSerial = s.loop.rollSerial ∧ (timingError r s).loop.returned = s.loop.returned ∧
    (timingError r s).loop.misses = s.loop.misses ∧ (timingError r s).loop.ringBreakUp = s.loop.ringBreakUp ∧
    (timingError r s).loop.lastMask = s.loop.lastMask ∧ (timingError r s).loop.nodeRecs = s.loop.nodeRecs ∧
    (timingError r s).loop.lastManager = s.loop.lastManager ∧ (timingError r s).loop.noticeMask = s.loop.noticeMask ∧
    (timingError r s).loop.dispatcher = s.loop.dispatcher ∧ (timingError r s).tables = s.tables ∧
    (timingError r s).acct.queue = s.acct.queue ∧ (timingError r s).acct.halfA = s.acct.halfA ∧
    (timingError r s).acct.tail = s.acct.tail ∧ (timingError r s).acct.base = s.acct.base ∧
    (timingError r s).feeders = s.feeders ∧ (timingError r s).presort = s.presort ∧
    (timingError r s).line.jammed = s.line.jammed ∧ (timingError r s).line.stationLoss = s.line.stationLoss ∧
    (timingError r s).line.retry = s.line.retry ∧ (timingError r s).outcomes = s.outcomes ∧
    (timingError r s).draws = s.draws ∧ (timingError r s).pending = s.pending := by
  simp only [timingError]
  split
  all_goals simp

@[simp] theorem missingConfirmation_frame (r : Role) :
    (missingConfirmation r s).pins = s.pins ∧ (missingConfirmation r s).pitch.counter = s.pitch.counter ∧
    (missingConfirmation r s).pitch.counterValid = s.pitch.counterValid ∧
    (missingConfirmation r s).pitch.indexPending = s.pitch.indexPending ∧
    (missingConfirmation r s).pitch.phase = s.pitch.phase ∧ (missingConfirmation r s).pitch.lastSpan = s.pitch.lastSpan ∧
    (missingConfirmation r s).pitch.estopAsserted = s.pitch.estopAsserted ∧
    (missingConfirmation r s).pitch.releaseTimer = s.pitch.releaseTimer ∧
    (missingConfirmation r s).pitch.unexpectedUp = s.pitch.unexpectedUp ∧
    (missingConfirmation r s).loop.mgmtIn = s.loop.mgmtIn ∧ (missingConfirmation r s).loop.rollSerial = s.loop.rollSerial ∧
    (missingConfirmation r s).loop.returned = s.loop.returned ∧ (missingConfirmation r s).loop.misses = s.loop.misses ∧
    (missingConfirmation r s).loop.ringBreakUp = s.loop.ringBreakUp ∧
    (missingConfirmation r s).loop.lastMask = s.loop.lastMask ∧ (missingConfirmation r s).loop.nodeRecs = s.loop.nodeRecs ∧
    (missingConfirmation r s).loop.lastManager = s.loop.lastManager ∧
    (missingConfirmation r s).loop.noticeMask = s.loop.noticeMask ∧
    (missingConfirmation r s).loop.dispatcher = s.loop.dispatcher ∧ (missingConfirmation r s).tables = s.tables ∧
    (missingConfirmation r s).acct.queue = s.acct.queue ∧ (missingConfirmation r s).acct.halfA = s.acct.halfA ∧
    (missingConfirmation r s).acct.tail = s.acct.tail ∧ (missingConfirmation r s).acct.base = s.acct.base ∧
    (missingConfirmation r s).feeders = s.feeders ∧ (missingConfirmation r s).presort = s.presort ∧
    (missingConfirmation r s).line.jammed = s.line.jammed ∧ (missingConfirmation r s).line.stationLoss = s.line.stationLoss ∧
    (missingConfirmation r s).line.retry = s.line.retry ∧ (missingConfirmation r s).outcomes = s.outcomes ∧
    (missingConfirmation r s).draws = s.draws ∧ (missingConfirmation r s).pending = s.pending := by simp [missingConfirmation]

@[simp] theorem envelopeCheck_frame (p : Nat) (k : Option Nat) :
    (envelopeCheck p k s).pins = s.pins ∧ (envelopeCheck p k s).pitch = s.pitch ∧ (envelopeCheck p k s).loop = s.loop ∧
    (envelopeCheck p k s).tables = s.tables ∧ (envelopeCheck p k s).acct = s.acct ∧ (envelopeCheck p k s).stage = s.stage ∧
    (envelopeCheck p k s).feeders = s.feeders ∧ (envelopeCheck p k s).presort = s.presort ∧
    (envelopeCheck p k s).line = s.line ∧ (envelopeCheck p k s).outcomes = s.outcomes ∧
    (envelopeCheck p k s).draws = s.draws ∧ (envelopeCheck p k s).pending = s.pending := by
  simp only [envelopeCheck]
  repeat' split
  all_goals simp

@[simp] theorem caliperCheck_frame (p m : Nat) :
    (caliperCheck p m s).pins = s.pins ∧ (caliperCheck p m s).pitch = s.pitch ∧ (caliperCheck p m s).loop = s.loop ∧
    (caliperCheck p m s).tables = s.tables ∧ (caliperCheck p m s).acct = s.acct ∧ (caliperCheck p m s).stage = s.stage ∧
    (caliperCheck p m s).feeders = s.feeders ∧ (caliperCheck p m s).presort = s.presort ∧
    (caliperCheck p m s).line = s.line ∧ (caliperCheck p m s).outcomes = s.outcomes ∧ (caliperCheck p m s).draws = s.draws ∧
    (caliperCheck p m s).pending = s.pending := by
  simp only [caliperCheck]
  repeat' split
  all_goals simp

@[simp] theorem closeAt_frame (p : Nat) :
    (closeAt s p).pins = s.pins ∧ (closeAt s p).pitch.counter = s.pitch.counter ∧
    (closeAt s p).pitch.counterValid = s.pitch.counterValid ∧ (closeAt s p).pitch.indexPending = s.pitch.indexPending ∧
    (closeAt s p).pitch.phase = s.pitch.phase ∧ (closeAt s p).pitch.lastSpan = s.pitch.lastSpan ∧
    (closeAt s p).pitch.estopAsserted = s.pitch.estopAsserted ∧ (closeAt s p).pitch.releaseTimer = s.pitch.releaseTimer ∧
    (closeAt s p).pitch.unexpectedUp = s.pitch.unexpectedUp ∧ (closeAt s p).loop.mgmtIn = s.loop.mgmtIn ∧
    (closeAt s p).loop.rollSerial = s.loop.rollSerial ∧ (closeAt s p).loop.returned = s.loop.returned ∧
    (closeAt s p).loop.misses = s.loop.misses ∧ (closeAt s p).loop.ringBreakUp = s.loop.ringBreakUp ∧
    (closeAt s p).loop.lastMask = s.loop.lastMask ∧ (closeAt s p).loop.nodeRecs = s.loop.nodeRecs ∧
    (closeAt s p).loop.lastManager = s.loop.lastManager ∧ (closeAt s p).loop.noticeMask = s.loop.noticeMask ∧
    (closeAt s p).loop.dispatcher = s.loop.dispatcher ∧ (closeAt s p).tables = s.tables ∧
    (closeAt s p).acct.queue = s.acct.queue ∧ (closeAt s p).acct.halfA = s.acct.halfA ∧
    (closeAt s p).acct.tail = s.acct.tail ∧ (closeAt s p).acct.base = s.acct.base ∧ (closeAt s p).presort = s.presort ∧
    (closeAt s p).line.jammed = s.line.jammed ∧ (closeAt s p).line.stationLoss = s.line.stationLoss ∧
    (closeAt s p).line.retry = s.line.retry ∧ (closeAt s p).outcomes = s.outcomes ∧ (closeAt s p).draws = s.draws ∧
    (closeAt s p).pending = s.pending := by
  simp only [closeAt]
  repeat' split
  all_goals simp

@[simp] theorem trackClose_frame :
    (trackClose s).pins = s.pins ∧ (trackClose s).pitch.counter = s.pitch.counter ∧
    (trackClose s).pitch.counterValid = s.pitch.counterValid ∧ (trackClose s).pitch.indexPending = s.pitch.indexPending ∧
    (trackClose s).pitch.phase = s.pitch.phase ∧ (trackClose s).pitch.lastSpan = s.pitch.lastSpan ∧
    (trackClose s).pitch.estopAsserted = s.pitch.estopAsserted ∧ (trackClose s).pitch.releaseTimer = s.pitch.releaseTimer ∧
    (trackClose s).pitch.unexpectedUp = s.pitch.unexpectedUp ∧ (trackClose s).loop.mgmtIn = s.loop.mgmtIn ∧
    (trackClose s).loop.rollSerial = s.loop.rollSerial ∧ (trackClose s).loop.returned = s.loop.returned ∧
    (trackClose s).loop.misses = s.loop.misses ∧ (trackClose s).loop.ringBreakUp = s.loop.ringBreakUp ∧
    (trackClose s).loop.lastMask = s.loop.lastMask ∧ (trackClose s).loop.nodeRecs = s.loop.nodeRecs ∧
    (trackClose s).loop.lastManager = s.loop.lastManager ∧ (trackClose s).loop.noticeMask = s.loop.noticeMask ∧
    (trackClose s).loop.dispatcher = s.loop.dispatcher ∧ (trackClose s).tables = s.tables ∧
    (trackClose s).acct.queue = s.acct.queue ∧ (trackClose s).acct.halfA = s.acct.halfA ∧
    (trackClose s).acct.tail = s.acct.tail ∧ (trackClose s).acct.base = s.acct.base ∧ (trackClose s).presort = s.presort ∧
    (trackClose s).line.jammed = s.line.jammed ∧ (trackClose s).line.stationLoss = s.line.stationLoss ∧
    (trackClose s).line.retry = s.line.retry ∧ (trackClose s).outcomes = s.outcomes ∧ (trackClose s).draws = s.draws ∧
    (trackClose s).pending = s.pending := by
  unfold trackClose
  exact ⟨foldl_keeps (fun t : State => t.pins) _ (by simp) _ _,
    foldl_keeps (fun t : State => t.pitch.counter) _ (by simp) _ _,
    foldl_keeps (fun t : State => t.pitch.counterValid) _ (by simp) _ _,
    foldl_keeps (fun t : State => t.pitch.indexPending) _ (by simp) _ _,
    foldl_keeps (fun t : State => t.pitch.phase) _ (by simp) _ _,
    foldl_keeps (fun t : State => t.pitch.lastSpan) _ (by simp) _ _,
    foldl_keeps (fun t : State => t.pitch.estopAsserted) _ (by simp) _ _,
    foldl_keeps (fun t : State => t.pitch.releaseTimer) _ (by simp) _ _,
    foldl_keeps (fun t : State => t.pitch.unexpectedUp) _ (by simp) _ _,
    foldl_keeps (fun t : State => t.loop.mgmtIn) _ (by simp) _ _,
    foldl_keeps (fun t : State => t.loop.rollSerial) _ (by simp) _ _,
    foldl_keeps (fun t : State => t.loop.returned) _ (by simp) _ _,
    foldl_keeps (fun t : State => t.loop.misses) _ (by simp) _ _,
    foldl_keeps (fun t : State => t.loop.ringBreakUp) _ (by simp) _ _,
    foldl_keeps (fun t : State => t.loop.lastMask) _ (by simp) _ _,
    foldl_keeps (fun t : State => t.loop.nodeRecs) _ (by simp) _ _,
    foldl_keeps (fun t : State => t.loop.lastManager) _ (by simp) _ _,
    foldl_keeps (fun t : State => t.loop.noticeMask) _ (by simp) _ _,
    foldl_keeps (fun t : State => t.loop.dispatcher) _ (by simp) _ _,
    foldl_keeps (fun t : State => t.tables) _ (by simp) _ _,
    foldl_keeps (fun t : State => t.acct.queue) _ (by simp) _ _,
    foldl_keeps (fun t : State => t.acct.halfA) _ (by simp) _ _,
    foldl_keeps (fun t : State => t.acct.tail) _ (by simp) _ _,
    foldl_keeps (fun t : State => t.acct.base) _ (by simp) _ _,
    foldl_keeps (fun t : State => t.presort) _ (by simp) _ _,
    foldl_keeps (fun t : State => t.line.jammed) _ (by simp) _ _,
    foldl_keeps (fun t : State => t.line.stationLoss) _ (by simp) _ _,
    foldl_keeps (fun t : State => t.line.retry) _ (by simp) _ _,
    foldl_keeps (fun t : State => t.outcomes) _ (by simp) _ _,
    foldl_keeps (fun t : State => t.draws) _ (by simp) _ _,
    foldl_keeps (fun t : State => t.pending) _ (by simp) _ _⟩

@[simp] theorem departGate_frame (b : Bool) :
    (departGate b s).pins = s.pins ∧ (departGate b s).pitch = s.pitch ∧ (departGate b s).loop.mgmtIn = s.loop.mgmtIn ∧
    (departGate b s).loop.rollSerial = s.loop.rollSerial ∧ (departGate b s).loop.returned = s.loop.returned ∧
    (departGate b s).loop.misses = s.loop.misses ∧ (departGate b s).loop.ringBreakUp = s.loop.ringBreakUp ∧
    (departGate b s).loop.lastMask = s.loop.lastMask ∧ (departGate b s).loop.nodeRecs = s.loop.nodeRecs ∧
    (departGate b s).loop.lastManager = s.loop.lastManager ∧ (departGate b s).loop.noticeMask = s.loop.noticeMask ∧
    (departGate b s).loop.dispatcher = s.loop.dispatcher ∧ (departGate b s).tables = s.tables ∧
    (departGate b s).acct = s.acct ∧ (departGate b s).stage = s.stage ∧ (departGate b s).feeders = s.feeders ∧
    (departGate b s).presort = s.presort ∧ (departGate b s).line = s.line ∧ (departGate b s).draws = s.draws ∧
    (departGate b s).pending = s.pending := by
  simp only [departGate]
  repeat' split
  all_goals simp

@[simp] theorem departExit_frame (b : Bool) :
    (departExit b s).pins = s.pins ∧ (departExit b s).pitch = s.pitch ∧ (departExit b s).loop.mgmtIn = s.loop.mgmtIn ∧
    (departExit b s).loop.rollSerial = s.loop.rollSerial ∧ (departExit b s).loop.returned = s.loop.returned ∧
    (departExit b s).loop.misses = s.loop.misses ∧ (departExit b s).loop.ringBreakUp = s.loop.ringBreakUp ∧
    (departExit b s).loop.lastMask = s.loop.lastMask ∧ (departExit b s).loop.nodeRecs = s.loop.nodeRecs ∧
    (departExit b s).loop.lastManager = s.loop.lastManager ∧ (departExit b s).loop.noticeMask = s.loop.noticeMask ∧
    (departExit b s).loop.dispatcher = s.loop.dispatcher ∧ (departExit b s).tables = s.tables ∧
    (departExit b s).acct = s.acct ∧ (departExit b s).stage = s.stage ∧ (departExit b s).feeders = s.feeders ∧
    (departExit b s).presort = s.presort ∧ (departExit b s).line = s.line ∧ (departExit b s).draws = s.draws ∧
    (departExit b s).pending = s.pending := by
  simp only [departExit]
  repeat' split
  all_goals simp

@[simp] theorem trackMove_frame (e : Option Nat) :
    (trackMove e s).pins = s.pins ∧ (trackMove e s).pitch = s.pitch ∧ (trackMove e s).loop = s.loop ∧
    (trackMove e s).tables = s.tables ∧ (trackMove e s).acct = s.acct ∧ (trackMove e s).stage = s.stage ∧
    (trackMove e s).feeders = s.feeders ∧ (trackMove e s).presort = s.presort ∧ (trackMove e s).line = s.line ∧
    (trackMove e s).outcomes = s.outcomes ∧ (trackMove e s).draws = s.draws ∧ (trackMove e s).pending = s.pending := by
  simp only [trackMove]
  split
  all_goals simp

@[simp] theorem await_frame (p : Nat) (n : NodeEntry) (r : Role) (t : Nat) :
    (await p n r t s).pins = s.pins ∧ (await p n r t s).pitch = s.pitch ∧ (await p n r t s).loop = s.loop ∧
    (await p n r t s).tables = s.tables ∧ (await p n r t s).acct = s.acct ∧ (await p n r t s).stage = s.stage ∧
    (await p n r t s).feeders = s.feeders ∧ (await p n r t s).presort = s.presort ∧ (await p n r t s).line = s.line ∧
    (await p n r t s).outcomes = s.outcomes ∧ (await p n r t s).draws = s.draws ∧ (await p n r t s).pending = s.pending := by simp [await]

@[simp] theorem arriveFeeder_frame (n : NodeEntry) (r : PocketRec) (x : SetRec) :
    (arriveFeeder n r x s).pins = s.pins ∧ (arriveFeeder n r x s).pitch = s.pitch ∧
    (arriveFeeder n r x s).loop.mgmtIn = s.loop.mgmtIn ∧ (arriveFeeder n r x s).loop.rollSerial = s.loop.rollSerial ∧
    (arriveFeeder n r x s).loop.returned = s.loop.returned ∧ (arriveFeeder n r x s).loop.misses = s.loop.misses ∧
    (arriveFeeder n r x s).loop.ringBreakUp = s.loop.ringBreakUp ∧ (arriveFeeder n r x s).loop.lastMask = s.loop.lastMask ∧
    (arriveFeeder n r x s).loop.nodeRecs = s.loop.nodeRecs ∧ (arriveFeeder n r x s).loop.lastManager = s.loop.lastManager ∧
    (arriveFeeder n r x s).loop.noticeMask = s.loop.noticeMask ∧ (arriveFeeder n r x s).loop.dispatcher = s.loop.dispatcher ∧
    (arriveFeeder n r x s).tables = s.tables ∧ (arriveFeeder n r x s).acct = s.acct ∧
    (arriveFeeder n r x s).stage = s.stage ∧ (arriveFeeder n r x s).feeders = s.feeders ∧
    (arriveFeeder n r x s).presort = s.presort ∧ (arriveFeeder n r x s).line = s.line ∧
    (arriveFeeder n r x s).outcomes = s.outcomes ∧ (arriveFeeder n r x s).draws = s.draws ∧
    (arriveFeeder n r x s).pending = s.pending := by
  simp only [arriveFeeder]
  repeat' split
  all_goals simp

@[simp] theorem arriveEnvelope_frame (n : NodeEntry) (r : PocketRec) (x : SetRec) :
    (arriveEnvelope n r x s).pins = s.pins ∧ (arriveEnvelope n r x s).pitch = s.pitch ∧
    (arriveEnvelope n r x s).loop.mgmtIn = s.loop.mgmtIn ∧ (arriveEnvelope n r x s).loop.rollSerial = s.loop.rollSerial ∧
    (arriveEnvelope n r x s).loop.returned = s.loop.returned ∧ (arriveEnvelope n r x s).loop.misses = s.loop.misses ∧
    (arriveEnvelope n r x s).loop.ringBreakUp = s.loop.ringBreakUp ∧
    (arriveEnvelope n r x s).loop.lastMask = s.loop.lastMask ∧ (arriveEnvelope n r x s).loop.nodeRecs = s.loop.nodeRecs ∧
    (arriveEnvelope n r x s).loop.lastManager = s.loop.lastManager ∧
    (arriveEnvelope n r x s).loop.noticeMask = s.loop.noticeMask ∧
    (arriveEnvelope n r x s).loop.dispatcher = s.loop.dispatcher ∧ (arriveEnvelope n r x s).tables = s.tables ∧
    (arriveEnvelope n r x s).acct = s.acct ∧ (arriveEnvelope n r x s).stage = s.stage ∧
    (arriveEnvelope n r x s).feeders = s.feeders ∧ (arriveEnvelope n r x s).presort = s.presort ∧
    (arriveEnvelope n r x s).line = s.line ∧ (arriveEnvelope n r x s).outcomes = s.outcomes ∧
    (arriveEnvelope n r x s).draws = s.draws ∧ (arriveEnvelope n r x s).pending = s.pending := by simp [arriveEnvelope]

@[simp] theorem arriveCaliper_frame (n : NodeEntry) (r : PocketRec) (x : SetRec) :
    (arriveCaliper n r x s).pins = s.pins ∧ (arriveCaliper n r x s).pitch = s.pitch ∧
    (arriveCaliper n r x s).loop.mgmtIn = s.loop.mgmtIn ∧ (arriveCaliper n r x s).loop.rollSerial = s.loop.rollSerial ∧
    (arriveCaliper n r x s).loop.returned = s.loop.returned ∧ (arriveCaliper n r x s).loop.misses = s.loop.misses ∧
    (arriveCaliper n r x s).loop.ringBreakUp = s.loop.ringBreakUp ∧ (arriveCaliper n r x s).loop.lastMask = s.loop.lastMask ∧
    (arriveCaliper n r x s).loop.nodeRecs = s.loop.nodeRecs ∧ (arriveCaliper n r x s).loop.lastManager = s.loop.lastManager ∧
    (arriveCaliper n r x s).loop.noticeMask = s.loop.noticeMask ∧
    (arriveCaliper n r x s).loop.dispatcher = s.loop.dispatcher ∧ (arriveCaliper n r x s).tables = s.tables ∧
    (arriveCaliper n r x s).acct = s.acct ∧ (arriveCaliper n r x s).stage = s.stage ∧
    (arriveCaliper n r x s).feeders = s.feeders ∧ (arriveCaliper n r x s).presort = s.presort ∧
    (arriveCaliper n r x s).line = s.line ∧ (arriveCaliper n r x s).outcomes = s.outcomes ∧
    (arriveCaliper n r x s).draws = s.draws ∧ (arriveCaliper n r x s).pending = s.pending := by
  simp only [arriveCaliper]
  split
  all_goals simp

@[simp] theorem arriveGate_frame (n : NodeEntry) (r : PocketRec) :
    (arriveGate n r s).pins = s.pins ∧ (arriveGate n r s).pitch = s.pitch ∧ (arriveGate n r s).loop.mgmtIn = s.loop.mgmtIn ∧
    (arriveGate n r s).loop.rollSerial = s.loop.rollSerial ∧ (arriveGate n r s).loop.returned = s.loop.returned ∧
    (arriveGate n r s).loop.misses = s.loop.misses ∧ (arriveGate n r s).loop.ringBreakUp = s.loop.ringBreakUp ∧
    (arriveGate n r s).loop.lastMask = s.loop.lastMask ∧ (arriveGate n r s).loop.nodeRecs = s.loop.nodeRecs ∧
    (arriveGate n r s).loop.lastManager = s.loop.lastManager ∧ (arriveGate n r s).loop.noticeMask = s.loop.noticeMask ∧
    (arriveGate n r s).loop.dispatcher = s.loop.dispatcher ∧ (arriveGate n r s).tables = s.tables ∧
    (arriveGate n r s).acct = s.acct ∧ (arriveGate n r s).stage = s.stage ∧ (arriveGate n r s).feeders = s.feeders ∧
    (arriveGate n r s).presort = s.presort ∧ (arriveGate n r s).line = s.line ∧ (arriveGate n r s).outcomes = s.outcomes ∧
    (arriveGate n r s).draws = s.draws ∧ (arriveGate n r s).pending = s.pending := by
  simp only [arriveGate]
  split
  all_goals simp

@[simp] theorem arriveSorter_frame (n : NodeEntry) (r : PocketRec) (x : SetRec) :
    (arriveSorter n r x s).pins = s.pins ∧ (arriveSorter n r x s).pitch.counter = s.pitch.counter ∧
    (arriveSorter n r x s).pitch.counterValid = s.pitch.counterValid ∧
    (arriveSorter n r x s).pitch.indexPending = s.pitch.indexPending ∧ (arriveSorter n r x s).pitch.phase = s.pitch.phase ∧
    (arriveSorter n r x s).pitch.lastSpan = s.pitch.lastSpan ∧
    (arriveSorter n r x s).pitch.estopAsserted = s.pitch.estopAsserted ∧
    (arriveSorter n r x s).pitch.releaseTimer = s.pitch.releaseTimer ∧
    (arriveSorter n r x s).pitch.unexpectedUp = s.pitch.unexpectedUp ∧ (arriveSorter n r x s).loop.mgmtIn = s.loop.mgmtIn ∧
    (arriveSorter n r x s).loop.rollSerial = s.loop.rollSerial ∧ (arriveSorter n r x s).loop.returned = s.loop.returned ∧
    (arriveSorter n r x s).loop.misses = s.loop.misses ∧ (arriveSorter n r x s).loop.ringBreakUp = s.loop.ringBreakUp ∧
    (arriveSorter n r x s).loop.lastMask = s.loop.lastMask ∧ (arriveSorter n r x s).loop.nodeRecs = s.loop.nodeRecs ∧
    (arriveSorter n r x s).loop.lastManager = s.loop.lastManager ∧
    (arriveSorter n r x s).loop.noticeMask = s.loop.noticeMask ∧ (arriveSorter n r x s).loop.dispatcher = s.loop.dispatcher ∧
    (arriveSorter n r x s).tables = s.tables ∧ (arriveSorter n r x s).acct.queue = s.acct.queue ∧
    (arriveSorter n r x s).acct.halfA = s.acct.halfA ∧ (arriveSorter n r x s).acct.tail = s.acct.tail ∧
    (arriveSorter n r x s).acct.base = s.acct.base ∧ (arriveSorter n r x s).feeders = s.feeders ∧
    (arriveSorter n r x s).line.jammed = s.line.jammed ∧ (arriveSorter n r x s).line.stationLoss = s.line.stationLoss ∧
    (arriveSorter n r x s).line.retry = s.line.retry ∧ (arriveSorter n r x s).draws = s.draws ∧
    (arriveSorter n r x s).pending = s.pending := by simp [arriveSorter]

@[simp] theorem arriveAt_frame (n : NodeEntry) :
    (arriveAt s n).pins = s.pins ∧ (arriveAt s n).pitch.counter = s.pitch.counter ∧
    (arriveAt s n).pitch.counterValid = s.pitch.counterValid ∧ (arriveAt s n).pitch.indexPending = s.pitch.indexPending ∧
    (arriveAt s n).pitch.phase = s.pitch.phase ∧ (arriveAt s n).pitch.lastSpan = s.pitch.lastSpan ∧
    (arriveAt s n).pitch.estopAsserted = s.pitch.estopAsserted ∧ (arriveAt s n).pitch.releaseTimer = s.pitch.releaseTimer ∧
    (arriveAt s n).pitch.unexpectedUp = s.pitch.unexpectedUp ∧ (arriveAt s n).loop.mgmtIn = s.loop.mgmtIn ∧
    (arriveAt s n).loop.rollSerial = s.loop.rollSerial ∧ (arriveAt s n).loop.returned = s.loop.returned ∧
    (arriveAt s n).loop.misses = s.loop.misses ∧ (arriveAt s n).loop.ringBreakUp = s.loop.ringBreakUp ∧
    (arriveAt s n).loop.lastMask = s.loop.lastMask ∧ (arriveAt s n).loop.nodeRecs = s.loop.nodeRecs ∧
    (arriveAt s n).loop.lastManager = s.loop.lastManager ∧ (arriveAt s n).loop.noticeMask = s.loop.noticeMask ∧
    (arriveAt s n).loop.dispatcher = s.loop.dispatcher ∧ (arriveAt s n).tables = s.tables ∧
    (arriveAt s n).acct.queue = s.acct.queue ∧ (arriveAt s n).acct.halfA = s.acct.halfA ∧
    (arriveAt s n).acct.tail = s.acct.tail ∧ (arriveAt s n).acct.base = s.acct.base ∧ (arriveAt s n).feeders = s.feeders ∧
    (arriveAt s n).line.jammed = s.line.jammed ∧ (arriveAt s n).line.stationLoss = s.line.stationLoss ∧
    (arriveAt s n).line.retry = s.line.retry ∧ (arriveAt s n).draws = s.draws ∧ (arriveAt s n).pending = s.pending := by
  simp only [arriveAt]
  repeat' split
  all_goals simp

@[simp] theorem arriveOff_frame (n : NodeEntry) :
    (arriveOff s n).pins = s.pins ∧ (arriveOff s n).pitch = s.pitch ∧ (arriveOff s n).loop = s.loop ∧
    (arriveOff s n).tables = s.tables ∧ (arriveOff s n).acct = s.acct ∧ (arriveOff s n).stage = s.stage ∧
    (arriveOff s n).feeders = s.feeders ∧ (arriveOff s n).presort = s.presort ∧ (arriveOff s n).line = s.line ∧
    (arriveOff s n).outcomes = s.outcomes ∧ (arriveOff s n).draws = s.draws ∧ (arriveOff s n).pending = s.pending := by
  simp only [arriveOff]
  repeat' split
  all_goals simp

@[simp] theorem trackArrive_frame (b : Bool) :
    (trackArrive b s).pins = s.pins ∧ (trackArrive b s).pitch.counter = s.pitch.counter ∧
    (trackArrive b s).pitch.counterValid = s.pitch.counterValid ∧
    (trackArrive b s).pitch.indexPending = s.pitch.indexPending ∧ (trackArrive b s).pitch.phase = s.pitch.phase ∧
    (trackArrive b s).pitch.lastSpan = s.pitch.lastSpan ∧ (trackArrive b s).pitch.estopAsserted = s.pitch.estopAsserted ∧
    (trackArrive b s).pitch.releaseTimer = s.pitch.releaseTimer ∧
    (trackArrive b s).pitch.unexpectedUp = s.pitch.unexpectedUp ∧ (trackArrive b s).loop.mgmtIn = s.loop.mgmtIn ∧
    (trackArrive b s).loop.rollSerial = s.loop.rollSerial ∧ (trackArrive b s).loop.returned = s.loop.returned ∧
    (trackArrive b s).loop.misses = s.loop.misses ∧ (trackArrive b s).loop.ringBreakUp = s.loop.ringBreakUp ∧
    (trackArrive b s).loop.lastMask = s.loop.lastMask ∧ (trackArrive b s).loop.nodeRecs = s.loop.nodeRecs ∧
    (trackArrive b s).loop.lastManager = s.loop.lastManager ∧ (trackArrive b s).loop.noticeMask = s.loop.noticeMask ∧
    (trackArrive b s).loop.dispatcher = s.loop.dispatcher ∧ (trackArrive b s).tables = s.tables ∧
    (trackArrive b s).acct.queue = s.acct.queue ∧ (trackArrive b s).acct.halfA = s.acct.halfA ∧
    (trackArrive b s).acct.tail = s.acct.tail ∧ (trackArrive b s).acct.base = s.acct.base ∧
    (trackArrive b s).feeders = s.feeders ∧ (trackArrive b s).line.jammed = s.line.jammed ∧
    (trackArrive b s).line.stationLoss = s.line.stationLoss ∧ (trackArrive b s).line.retry = s.line.retry ∧
    (trackArrive b s).draws = s.draws ∧ (trackArrive b s).pending = s.pending := by
  unfold trackArrive
  cases b
  · exact ⟨foldl_keeps (fun t : State => t.pins) _ (by simp) _ _,
      foldl_keeps (fun t : State => t.pitch.counter) _ (by simp) _ _,
      foldl_keeps (fun t : State => t.pitch.counterValid) _ (by simp) _ _,
      foldl_keeps (fun t : State => t.pitch.indexPending) _ (by simp) _ _,
      foldl_keeps (fun t : State => t.pitch.phase) _ (by simp) _ _,
      foldl_keeps (fun t : State => t.pitch.lastSpan) _ (by simp) _ _,
      foldl_keeps (fun t : State => t.pitch.estopAsserted) _ (by simp) _ _,
      foldl_keeps (fun t : State => t.pitch.releaseTimer) _ (by simp) _ _,
      foldl_keeps (fun t : State => t.pitch.unexpectedUp) _ (by simp) _ _,
      foldl_keeps (fun t : State => t.loop.mgmtIn) _ (by simp) _ _,
      foldl_keeps (fun t : State => t.loop.rollSerial) _ (by simp) _ _,
      foldl_keeps (fun t : State => t.loop.returned) _ (by simp) _ _,
      foldl_keeps (fun t : State => t.loop.misses) _ (by simp) _ _,
      foldl_keeps (fun t : State => t.loop.ringBreakUp) _ (by simp) _ _,
      foldl_keeps (fun t : State => t.loop.lastMask) _ (by simp) _ _,
      foldl_keeps (fun t : State => t.loop.nodeRecs) _ (by simp) _ _,
      foldl_keeps (fun t : State => t.loop.lastManager) _ (by simp) _ _,
      foldl_keeps (fun t : State => t.loop.noticeMask) _ (by simp) _ _,
      foldl_keeps (fun t : State => t.loop.dispatcher) _ (by simp) _ _,
      foldl_keeps (fun t : State => t.tables) _ (by simp) _ _,
      foldl_keeps (fun t : State => t.acct.queue) _ (by simp) _ _,
      foldl_keeps (fun t : State => t.acct.halfA) _ (by simp) _ _,
      foldl_keeps (fun t : State => t.acct.tail) _ (by simp) _ _,
      foldl_keeps (fun t : State => t.acct.base) _ (by simp) _ _,
      foldl_keeps (fun t : State => t.feeders) _ (by simp) _ _,
      foldl_keeps (fun t : State => t.line.jammed) _ (by simp) _ _,
      foldl_keeps (fun t : State => t.line.stationLoss) _ (by simp) _ _,
      foldl_keeps (fun t : State => t.line.retry) _ (by simp) _ _,
      foldl_keeps (fun t : State => t.draws) _ (by simp) _ _,
      foldl_keeps (fun t : State => t.pending) _ (by simp) _ _⟩
  · exact ⟨foldl_keeps (fun t : State => t.pins) _ (by simp) _ _,
      foldl_keeps (fun t : State => t.pitch.counter) _ (by simp) _ _,
      foldl_keeps (fun t : State => t.pitch.counterValid) _ (by simp) _ _,
      foldl_keeps (fun t : State => t.pitch.indexPending) _ (by simp) _ _,
      foldl_keeps (fun t : State => t.pitch.phase) _ (by simp) _ _,
      foldl_keeps (fun t : State => t.pitch.lastSpan) _ (by simp) _ _,
      foldl_keeps (fun t : State => t.pitch.estopAsserted) _ (by simp) _ _,
      foldl_keeps (fun t : State => t.pitch.releaseTimer) _ (by simp) _ _,
      foldl_keeps (fun t : State => t.pitch.unexpectedUp) _ (by simp) _ _,
      foldl_keeps (fun t : State => t.loop.mgmtIn) _ (by simp) _ _,
      foldl_keeps (fun t : State => t.loop.rollSerial) _ (by simp) _ _,
      foldl_keeps (fun t : State => t.loop.returned) _ (by simp) _ _,
      foldl_keeps (fun t : State => t.loop.misses) _ (by simp) _ _,
      foldl_keeps (fun t : State => t.loop.ringBreakUp) _ (by simp) _ _,
      foldl_keeps (fun t : State => t.loop.lastMask) _ (by simp) _ _,
      foldl_keeps (fun t : State => t.loop.nodeRecs) _ (by simp) _ _,
      foldl_keeps (fun t : State => t.loop.lastManager) _ (by simp) _ _,
      foldl_keeps (fun t : State => t.loop.noticeMask) _ (by simp) _ _,
      foldl_keeps (fun t : State => t.loop.dispatcher) _ (by simp) _ _,
      foldl_keeps (fun t : State => t.tables) _ (by simp) _ _,
      foldl_keeps (fun t : State => t.acct.queue) _ (by simp) _ _,
      foldl_keeps (fun t : State => t.acct.halfA) _ (by simp) _ _,
      foldl_keeps (fun t : State => t.acct.tail) _ (by simp) _ _,
      foldl_keeps (fun t : State => t.acct.base) _ (by simp) _ _,
      foldl_keeps (fun t : State => t.feeders) _ (by simp) _ _,
      foldl_keeps (fun t : State => t.line.jammed) _ (by simp) _ _,
      foldl_keeps (fun t : State => t.line.stationLoss) _ (by simp) _ _,
      foldl_keeps (fun t : State => t.line.retry) _ (by simp) _ _,
      foldl_keeps (fun t : State => t.draws) _ (by simp) _ _,
      foldl_keeps (fun t : State => t.pending) _ (by simp) _ _⟩

@[simp] theorem trackNotice_frame (n : Notice) :
    (trackNotice n s).pins = s.pins ∧ (trackNotice n s).pitch.counter = s.pitch.counter ∧
    (trackNotice n s).pitch.counterValid = s.pitch.counterValid ∧
    (trackNotice n s).pitch.indexPending = s.pitch.indexPending ∧ (trackNotice n s).pitch.phase = s.pitch.phase ∧
    (trackNotice n s).pitch.lastSpan = s.pitch.lastSpan ∧ (trackNotice n s).pitch.estopAsserted = s.pitch.estopAsserted ∧
    (trackNotice n s).pitch.releaseTimer = s.pitch.releaseTimer ∧
    (trackNotice n s).pitch.unexpectedUp = s.pitch.unexpectedUp ∧ (trackNotice n s).loop.mgmtIn = s.loop.mgmtIn ∧
    (trackNotice n s).loop.rollSerial = s.loop.rollSerial ∧ (trackNotice n s).loop.returned = s.loop.returned ∧
    (trackNotice n s).loop.misses = s.loop.misses ∧ (trackNotice n s).loop.ringBreakUp = s.loop.ringBreakUp ∧
    (trackNotice n s).loop.lastMask = s.loop.lastMask ∧ (trackNotice n s).loop.nodeRecs = s.loop.nodeRecs ∧
    (trackNotice n s).loop.lastManager = s.loop.lastManager ∧ (trackNotice n s).loop.noticeMask = s.loop.noticeMask ∧
    (trackNotice n s).loop.dispatcher = s.loop.dispatcher ∧ (trackNotice n s).tables = s.tables ∧
    (trackNotice n s).acct.queue = s.acct.queue ∧ (trackNotice n s).acct.halfA = s.acct.halfA ∧
    (trackNotice n s).acct.tail = s.acct.tail ∧ (trackNotice n s).acct.base = s.acct.base ∧
    (trackNotice n s).line.jammed = s.line.jammed ∧ (trackNotice n s).line.stationLoss = s.line.stationLoss ∧
    (trackNotice n s).line.retry = s.line.retry ∧ (trackNotice n s).draws = s.draws ∧ (trackNotice n s).pending = s.pending := by simp [trackNotice]

@[simp] theorem takeDue_frame :
    (takeDue s).pins = s.pins ∧ (takeDue s).pitch.counter = s.pitch.counter ∧
    (takeDue s).pitch.counterValid = s.pitch.counterValid ∧ (takeDue s).pitch.indexPending = s.pitch.indexPending ∧
    (takeDue s).pitch.phase = s.pitch.phase ∧ (takeDue s).pitch.lastSpan = s.pitch.lastSpan ∧
    (takeDue s).pitch.estopAsserted = s.pitch.estopAsserted ∧ (takeDue s).pitch.releaseTimer = s.pitch.releaseTimer ∧
    (takeDue s).pitch.unexpectedUp = s.pitch.unexpectedUp ∧ (takeDue s).loop.mgmtIn = s.loop.mgmtIn ∧
    (takeDue s).loop.rollSerial = s.loop.rollSerial ∧ (takeDue s).loop.returned = s.loop.returned ∧
    (takeDue s).loop.misses = s.loop.misses ∧ (takeDue s).loop.ringBreakUp = s.loop.ringBreakUp ∧
    (takeDue s).loop.lastMask = s.loop.lastMask ∧ (takeDue s).loop.nodeRecs = s.loop.nodeRecs ∧
    (takeDue s).loop.lastManager = s.loop.lastManager ∧ (takeDue s).loop.noticeMask = s.loop.noticeMask ∧
    (takeDue s).loop.dispatcher = s.loop.dispatcher ∧ (takeDue s).tables = s.tables ∧ (takeDue s).acct.queue = s.acct.queue ∧
    (takeDue s).acct.halfA = s.acct.halfA ∧ (takeDue s).acct.tail = s.acct.tail ∧ (takeDue s).acct.base = s.acct.base ∧
    (takeDue s).line.jammed = s.line.jammed ∧ (takeDue s).line.stationLoss = s.line.stationLoss ∧
    (takeDue s).line.retry = s.line.retry ∧ (takeDue s).draws = s.draws ∧ (takeDue s).pending = s.pending := by
  simp only [takeDue]
  split
  all_goals simp

@[simp] theorem putSet_frame (p : Nat) (x : SetRec) :
    (putSet p x s).pins = s.pins ∧ (putSet p x s).pitch = s.pitch ∧ (putSet p x s).loop = s.loop ∧
    (putSet p x s).tables = s.tables ∧ (putSet p x s).acct = s.acct ∧ (putSet p x s).stage = s.stage ∧
    (putSet p x s).feeders = s.feeders ∧ (putSet p x s).presort = s.presort ∧ (putSet p x s).line = s.line ∧
    (putSet p x s).outcomes = s.outcomes ∧ (putSet p x s).draws = s.draws ∧ (putSet p x s).pending = s.pending := by simp [putSet]

@[simp] theorem placeSet_frame (p : Nat) (x : SetRec) :
    (placeSet p x s).pins = s.pins ∧ (placeSet p x s).pitch.counter = s.pitch.counter ∧
    (placeSet p x s).pitch.counterValid = s.pitch.counterValid ∧ (placeSet p x s).pitch.indexPending = s.pitch.indexPending ∧
    (placeSet p x s).pitch.phase = s.pitch.phase ∧ (placeSet p x s).pitch.lastSpan = s.pitch.lastSpan ∧
    (placeSet p x s).pitch.estopAsserted = s.pitch.estopAsserted ∧
    (placeSet p x s).pitch.releaseTimer = s.pitch.releaseTimer ∧ (placeSet p x s).pitch.unexpectedUp = s.pitch.unexpectedUp ∧
    (placeSet p x s).loop.mgmtIn = s.loop.mgmtIn ∧ (placeSet p x s).loop.rollSerial = s.loop.rollSerial ∧
    (placeSet p x s).loop.returned = s.loop.returned ∧ (placeSet p x s).loop.misses = s.loop.misses ∧
    (placeSet p x s).loop.ringBreakUp = s.loop.ringBreakUp ∧ (placeSet p x s).loop.lastMask = s.loop.lastMask ∧
    (placeSet p x s).loop.nodeRecs = s.loop.nodeRecs ∧ (placeSet p x s).loop.lastManager = s.loop.lastManager ∧
    (placeSet p x s).loop.noticeMask = s.loop.noticeMask ∧ (placeSet p x s).loop.dispatcher = s.loop.dispatcher ∧
    (placeSet p x s).tables = s.tables ∧ (placeSet p x s).acct.queue = s.acct.queue ∧
    (placeSet p x s).acct.halfA = s.acct.halfA ∧ (placeSet p x s).acct.tail = s.acct.tail ∧
    (placeSet p x s).acct.base = s.acct.base ∧ (placeSet p x s).feeders = s.feeders ∧
    (placeSet p x s).line.jammed = s.line.jammed ∧ (placeSet p x s).line.stationLoss = s.line.stationLoss ∧
    (placeSet p x s).line.retry = s.line.retry ∧ (placeSet p x s).draws = s.draws ∧ (placeSet p x s).pending = s.pending := by
  have k : ∀ (β : Type) (g : State → β) (_ : ∀ t n, g (arriveAt t n) = g t) (_ : ∀ q y t, g (putSet q y t) = g t)
      (_ : ∀ r t, g (writeRecord r t) = g t), g (placeSet p x s) = g s := by
    intro β g h1 h2 h3
    unfold placeSet
    split
    · exact h2 _ _ _
    · split
      · rw [foldl_keeps g _ h1, h2]
      · exact h3 _ _
  exact ⟨k _ (fun t => t.pins) (by simp) (by simp) (by simp),
    k _ (fun t => t.pitch.counter) (by simp) (by simp) (by simp),
    k _ (fun t => t.pitch.counterValid) (by simp) (by simp) (by simp),
    k _ (fun t => t.pitch.indexPending) (by simp) (by simp) (by simp),
    k _ (fun t => t.pitch.phase) (by simp) (by simp) (by simp),
    k _ (fun t => t.pitch.lastSpan) (by simp) (by simp) (by simp),
    k _ (fun t => t.pitch.estopAsserted) (by simp) (by simp) (by simp),
    k _ (fun t => t.pitch.releaseTimer) (by simp) (by simp) (by simp),
    k _ (fun t => t.pitch.unexpectedUp) (by simp) (by simp) (by simp),
    k _ (fun t => t.loop.mgmtIn) (by simp) (by simp) (by simp),
    k _ (fun t => t.loop.rollSerial) (by simp) (by simp) (by simp),
    k _ (fun t => t.loop.returned) (by simp) (by simp) (by simp),
    k _ (fun t => t.loop.misses) (by simp) (by simp) (by simp),
    k _ (fun t => t.loop.ringBreakUp) (by simp) (by simp) (by simp),
    k _ (fun t => t.loop.lastMask) (by simp) (by simp) (by simp),
    k _ (fun t => t.loop.nodeRecs) (by simp) (by simp) (by simp),
    k _ (fun t => t.loop.lastManager) (by simp) (by simp) (by simp),
    k _ (fun t => t.loop.noticeMask) (by simp) (by simp) (by simp),
    k _ (fun t => t.loop.dispatcher) (by simp) (by simp) (by simp),
    k _ (fun t => t.tables) (by simp) (by simp) (by simp),
    k _ (fun t => t.acct.queue) (by simp) (by simp) (by simp),
    k _ (fun t => t.acct.halfA) (by simp) (by simp) (by simp),
    k _ (fun t => t.acct.tail) (by simp) (by simp) (by simp),
    k _ (fun t => t.acct.base) (by simp) (by simp) (by simp),
    k _ (fun t => t.feeders) (by simp) (by simp) (by simp),
    k _ (fun t => t.line.jammed) (by simp) (by simp) (by simp),
    k _ (fun t => t.line.stationLoss) (by simp) (by simp) (by simp),
    k _ (fun t => t.line.retry) (by simp) (by simp) (by simp),
    k _ (fun t => t.draws) (by simp) (by simp) (by simp),
    k _ (fun t => t.pending) (by simp) (by simp) (by simp)⟩

@[simp] theorem markRelease_frame (p : Nat) :
    (markRelease p s).pins = s.pins ∧ (markRelease p s).pitch = s.pitch ∧ (markRelease p s).loop = s.loop ∧
    (markRelease p s).tables = s.tables ∧ (markRelease p s).acct = s.acct ∧ (markRelease p s).stage = s.stage ∧
    (markRelease p s).feeders = s.feeders ∧ (markRelease p s).presort = s.presort ∧ (markRelease p s).line = s.line ∧
    (markRelease p s).outcomes = s.outcomes ∧ (markRelease p s).draws = s.draws ∧ (markRelease p s).pending = s.pending := by
  simp only [markRelease]
  repeat' split
  all_goals simp

@[simp] theorem stationTimed_frame (r : Role) (p : Nat) (b : Bool) :
    (stationTimed r p b s).pins = s.pins ∧ (stationTimed r p b s).pitch.counter = s.pitch.counter ∧
    (stationTimed r p b s).pitch.counterValid = s.pitch.counterValid ∧
    (stationTimed r p b s).pitch.indexPending = s.pitch.indexPending ∧ (stationTimed r p b s).pitch.phase = s.pitch.phase ∧
    (stationTimed r p b s).pitch.lastSpan = s.pitch.lastSpan ∧
    (stationTimed r p b s).pitch.estopAsserted = s.pitch.estopAsserted ∧
    (stationTimed r p b s).pitch.releaseTimer = s.pitch.releaseTimer ∧
    (stationTimed r p b s).pitch.unexpectedUp = s.pitch.unexpectedUp ∧ (stationTimed r p b s).loop.mgmtIn = s.loop.mgmtIn ∧
    (stationTimed r p b s).loop.rollSerial = s.loop.rollSerial ∧ (stationTimed r p b s).loop.returned = s.loop.returned ∧
    (stationTimed r p b s).loop.misses = s.loop.misses ∧ (stationTimed r p b s).loop.ringBreakUp = s.loop.ringBreakUp ∧
    (stationTimed r p b s).loop.lastMask = s.loop.lastMask ∧ (stationTimed r p b s).loop.nodeRecs = s.loop.nodeRecs ∧
    (stationTimed r p b s).loop.lastManager = s.loop.lastManager ∧
    (stationTimed r p b s).loop.noticeMask = s.loop.noticeMask ∧ (stationTimed r p b s).loop.dispatcher = s.loop.dispatcher ∧
    (stationTimed r p b s).tables = s.tables ∧ (stationTimed r p b s).acct.queue = s.acct.queue ∧
    (stationTimed r p b s).acct.halfA = s.acct.halfA ∧ (stationTimed r p b s).acct.tail = s.acct.tail ∧
    (stationTimed r p b s).acct.base = s.acct.base ∧ (stationTimed r p b s).feeders = s.feeders ∧
    (stationTimed r p b s).presort = s.presort ∧ (stationTimed r p b s).line.jammed = s.line.jammed ∧
    (stationTimed r p b s).line.stationLoss = s.line.stationLoss ∧ (stationTimed r p b s).line.retry = s.line.retry ∧
    (stationTimed r p b s).outcomes = s.outcomes ∧ (stationTimed r p b s).draws = s.draws ∧
    (stationTimed r p b s).pending = s.pending := by
  simp only [stationTimed]
  split
  all_goals simp

@[simp] theorem resultMark_frame (r : PlanResult) (p : Nat) :
    (resultMark r p s).pins = s.pins ∧ (resultMark r p s).pitch = s.pitch ∧ (resultMark r p s).loop = s.loop ∧
    (resultMark r p s).tables = s.tables ∧ (resultMark r p s).acct = s.acct ∧ (resultMark r p s).stage = s.stage ∧
    (resultMark r p s).feeders = s.feeders ∧ (resultMark r p s).presort = s.presort ∧ (resultMark r p s).line = s.line ∧
    (resultMark r p s).outcomes = s.outcomes ∧ (resultMark r p s).draws = s.draws ∧ (resultMark r p s).pending = s.pending := by
  simp only [resultMark]
  split
  all_goals simp

@[simp] theorem matchedDone_frame (n : NodeEntry) (r : Role) (a : Awaited) (x t : Nat) :
    (matchedDone n r a x t s).pins = s.pins ∧ (matchedDone n r a x t s).pitch.counter = s.pitch.counter ∧
    (matchedDone n r a x t s).pitch.counterValid = s.pitch.counterValid ∧
    (matchedDone n r a x t s).pitch.indexPending = s.pitch.indexPending ∧
    (matchedDone n r a x t s).pitch.phase = s.pitch.phase ∧ (matchedDone n r a x t s).pitch.lastSpan = s.pitch.lastSpan ∧
    (matchedDone n r a x t s).pitch.estopAsserted = s.pitch.estopAsserted ∧
    (matchedDone n r a x t s).pitch.releaseTimer = s.pitch.releaseTimer ∧
    (matchedDone n r a x t s).pitch.unexpectedUp = s.pitch.unexpectedUp ∧
    (matchedDone n r a x t s).loop.mgmtIn = s.loop.mgmtIn ∧ (matchedDone n r a x t s).loop.rollSerial = s.loop.rollSerial ∧
    (matchedDone n r a x t s).loop.returned = s.loop.returned ∧ (matchedDone n r a x t s).loop.misses = s.loop.misses ∧
    (matchedDone n r a x t s).loop.ringBreakUp = s.loop.ringBreakUp ∧
    (matchedDone n r a x t s).loop.lastMask = s.loop.lastMask ∧ (matchedDone n r a x t s).loop.nodeRecs = s.loop.nodeRecs ∧
    (matchedDone n r a x t s).loop.lastManager = s.loop.lastManager ∧
    (matchedDone n r a x t s).loop.noticeMask = s.loop.noticeMask ∧
    (matchedDone n r a x t s).loop.dispatcher = s.loop.dispatcher ∧ (matchedDone n r a x t s).tables = s.tables ∧
    (matchedDone n r a x t s).acct.queue = s.acct.queue ∧ (matchedDone n r a x t s).acct.halfA = s.acct.halfA ∧
    (matchedDone n r a x t s).acct.tail = s.acct.tail ∧ (matchedDone n r a x t s).acct.base = s.acct.base ∧
    (matchedDone n r a x t s).presort = s.presort ∧ (matchedDone n r a x t s).line.jammed = s.line.jammed ∧
    (matchedDone n r a x t s).line.stationLoss = s.line.stationLoss ∧ (matchedDone n r a x t s).line.retry = s.line.retry ∧
    (matchedDone n r a x t s).outcomes = s.outcomes ∧ (matchedDone n r a x t s).draws = s.draws ∧
    (matchedDone n r a x t s).pending = s.pending := by
  simp only [matchedDone]
  repeat' split
  all_goals simp

@[simp] theorem trackDone_frame (n : NodeEntry) (r : Role) (p u x t b : Nat) :
    (trackDone n r p u x t b s).pins = s.pins ∧ (trackDone n r p u x t b s).pitch.counter = s.pitch.counter ∧
    (trackDone n r p u x t b s).pitch.counterValid = s.pitch.counterValid ∧
    (trackDone n r p u x t b s).pitch.indexPending = s.pitch.indexPending ∧
    (trackDone n r p u x t b s).pitch.phase = s.pitch.phase ∧ (trackDone n r p u x t b s).pitch.lastSpan = s.pitch.lastSpan ∧
    (trackDone n r p u x t b s).pitch.estopAsserted = s.pitch.estopAsserted ∧
    (trackDone n r p u x t b s).pitch.releaseTimer = s.pitch.releaseTimer ∧
    (trackDone n r p u x t b s).pitch.unexpectedUp = s.pitch.unexpectedUp ∧
    (trackDone n r p u x t b s).loop.mgmtIn = s.loop.mgmtIn ∧
    (trackDone n r p u x t b s).loop.rollSerial = s.loop.rollSerial ∧
    (trackDone n r p u x t b s).loop.returned = s.loop.returned ∧ (trackDone n r p u x t b s).loop.misses = s.loop.misses ∧
    (trackDone n r p u x t b s).loop.ringBreakUp = s.loop.ringBreakUp ∧
    (trackDone n r p u x t b s).loop.lastMask = s.loop.lastMask ∧
    (trackDone n r p u x t b s).loop.nodeRecs = s.loop.nodeRecs ∧
    (trackDone n r p u x t b s).loop.lastManager = s.loop.lastManager ∧
    (trackDone n r p u x t b s).loop.noticeMask = s.loop.noticeMask ∧
    (trackDone n r p u x t b s).loop.dispatcher = s.loop.dispatcher ∧ (trackDone n r p u x t b s).tables = s.tables ∧
    (trackDone n r p u x t b s).acct.queue = s.acct.queue ∧ (trackDone n r p u x t b s).acct.halfA = s.acct.halfA ∧
    (trackDone n r p u x t b s).acct.tail = s.acct.tail ∧ (trackDone n r p u x t b s).acct.base = s.acct.base ∧
    (trackDone n r p u x t b s).presort = s.presort ∧ (trackDone n r p u x t b s).line.jammed = s.line.jammed ∧
    (trackDone n r p u x t b s).line.stationLoss = s.line.stationLoss ∧
    (trackDone n r p u x t b s).line.retry = s.line.retry ∧ (trackDone n r p u x t b s).draws = s.draws ∧
    (trackDone n r p u x t b s).pending = s.pending := by
  simp only [trackDone]
  split
  all_goals simp

@[simp] theorem trackEnvread_frame (n : NodeEntry) (p : Nat) (k : Option Nat) :
    (trackEnvread n p k s).pins = s.pins ∧ (trackEnvread n p k s).pitch = s.pitch ∧ (trackEnvread n p k s).loop = s.loop ∧
    (trackEnvread n p k s).tables = s.tables ∧ (trackEnvread n p k s).acct = s.acct ∧
    (trackEnvread n p k s).stage = s.stage ∧ (trackEnvread n p k s).feeders = s.feeders ∧
    (trackEnvread n p k s).presort = s.presort ∧ (trackEnvread n p k s).line = s.line ∧
    (trackEnvread n p k s).draws = s.draws ∧ (trackEnvread n p k s).pending = s.pending := by
  simp only [trackEnvread]
  repeat' split
  all_goals simp

@[simp] theorem clearAwaited_frame :
    (clearAwaited s).pins = s.pins ∧ (clearAwaited s).pitch = s.pitch ∧ (clearAwaited s).loop = s.loop ∧
    (clearAwaited s).tables = s.tables ∧ (clearAwaited s).acct = s.acct ∧ (clearAwaited s).stage = s.stage ∧
    (clearAwaited s).feeders = s.feeders ∧ (clearAwaited s).presort = s.presort ∧ (clearAwaited s).line = s.line ∧
    (clearAwaited s).outcomes = s.outcomes ∧ (clearAwaited s).draws = s.draws ∧ (clearAwaited s).pending = s.pending := by simp [clearAwaited]

@[simp] theorem purgeAt_frame (p : Nat) :
    (purgeAt s p).pins = s.pins ∧ (purgeAt s p).pitch = s.pitch ∧ (purgeAt s p).loop.mgmtIn = s.loop.mgmtIn ∧
    (purgeAt s p).loop.rollSerial = s.loop.rollSerial ∧ (purgeAt s p).loop.returned = s.loop.returned ∧
    (purgeAt s p).loop.misses = s.loop.misses ∧ (purgeAt s p).loop.ringBreakUp = s.loop.ringBreakUp ∧
    (purgeAt s p).loop.lastMask = s.loop.lastMask ∧ (purgeAt s p).loop.nodeRecs = s.loop.nodeRecs ∧
    (purgeAt s p).loop.lastManager = s.loop.lastManager ∧ (purgeAt s p).loop.noticeMask = s.loop.noticeMask ∧
    (purgeAt s p).loop.dispatcher = s.loop.dispatcher ∧ (purgeAt s p).tables = s.tables ∧ (purgeAt s p).acct = s.acct ∧
    (purgeAt s p).stage = s.stage ∧ (purgeAt s p).feeders = s.feeders ∧ (purgeAt s p).presort = s.presort ∧
    (purgeAt s p).line = s.line ∧ (purgeAt s p).draws = s.draws ∧ (purgeAt s p).pending = s.pending := by
  simp only [purgeAt]
  repeat' split
  all_goals simp

@[simp] theorem trackRunClear_frame :
    (trackRunClear s).pins = s.pins ∧ (trackRunClear s).pitch = s.pitch ∧ (trackRunClear s).loop.mgmtIn = s.loop.mgmtIn ∧
    (trackRunClear s).loop.rollSerial = s.loop.rollSerial ∧ (trackRunClear s).loop.returned = s.loop.returned ∧
    (trackRunClear s).loop.misses = s.loop.misses ∧ (trackRunClear s).loop.ringBreakUp = s.loop.ringBreakUp ∧
    (trackRunClear s).loop.lastMask = s.loop.lastMask ∧ (trackRunClear s).loop.nodeRecs = s.loop.nodeRecs ∧
    (trackRunClear s).loop.lastManager = s.loop.lastManager ∧ (trackRunClear s).loop.noticeMask = s.loop.noticeMask ∧
    (trackRunClear s).loop.dispatcher = s.loop.dispatcher ∧ (trackRunClear s).tables = s.tables ∧
    (trackRunClear s).acct = s.acct ∧ (trackRunClear s).stage = s.stage ∧ (trackRunClear s).feeders = s.feeders ∧
    (trackRunClear s).presort = s.presort ∧ (trackRunClear s).line = s.line ∧ (trackRunClear s).draws = s.draws ∧
    (trackRunClear s).pending = s.pending := by
  unfold trackRunClear
  exact ⟨foldl_keeps (fun t : State => t.pins) _ (by simp) _ _,
    foldl_keeps (fun t : State => t.pitch) _ (by simp) _ _,
    foldl_keeps (fun t : State => t.loop.mgmtIn) _ (by simp) _ _,
    foldl_keeps (fun t : State => t.loop.rollSerial) _ (by simp) _ _,
    foldl_keeps (fun t : State => t.loop.returned) _ (by simp) _ _,
    foldl_keeps (fun t : State => t.loop.misses) _ (by simp) _ _,
    foldl_keeps (fun t : State => t.loop.ringBreakUp) _ (by simp) _ _,
    foldl_keeps (fun t : State => t.loop.lastMask) _ (by simp) _ _,
    foldl_keeps (fun t : State => t.loop.nodeRecs) _ (by simp) _ _,
    foldl_keeps (fun t : State => t.loop.lastManager) _ (by simp) _ _,
    foldl_keeps (fun t : State => t.loop.noticeMask) _ (by simp) _ _,
    foldl_keeps (fun t : State => t.loop.dispatcher) _ (by simp) _ _,
    foldl_keeps (fun t : State => t.tables) _ (by simp) _ _,
    foldl_keeps (fun t : State => t.acct) _ (by simp) _ _,
    foldl_keeps (fun t : State => t.stage) _ (by simp) _ _,
    foldl_keeps (fun t : State => t.feeders) _ (by simp) _ _,
    foldl_keeps (fun t : State => t.presort) _ (by simp) _ _,
    foldl_keeps (fun t : State => t.line) _ (by simp) _ _,
    foldl_keeps (fun t : State => t.draws) _ (by simp) _ _,
    foldl_keeps (fun t : State => t.pending) _ (by simp) _ _⟩

end Sys2Proof.Machine
end

