-- ==== Sys2Proof/Laws/StageFrames.lean ====
section
/-! SUPPORT. What the operations of the stage, the take and the pitch notice leave as it was. -/

namespace Sys2Proof.Machine

variable (s : State)

@[simp] theorem closeBins_frame (c : TrayCause) (f : Nat → State → Bool) (l : List Nat) :
    (closeBins c f l s).1.pins = s.pins ∧
    (closeBins c f l s).1.pitch = s.pitch ∧
    (closeBins c f l s).1.loop.mgmtIn = s.loop.mgmtIn ∧
    (closeBins c f l s).1.loop.rollSerial = s.loop.rollSerial ∧
    (closeBins c f l s).1.loop.returned = s.loop.returned ∧
    (closeBins c f l s).1.loop.misses = s.loop.misses ∧
    (closeBins c f l s).1.loop.ringBreakUp = s.loop.ringBreakUp ∧
    (closeBins c f l s).1.loop.lastMask = s.loop.lastMask ∧
    (closeBins c f l s).1.loop.nodeRecs = s.loop.nodeRecs ∧
    (closeBins c f l s).1.loop.lastManager = s.loop.lastManager ∧
    (closeBins c f l s).1.loop.noticeMask = s.loop.noticeMask ∧
    (closeBins c f l s).1.loop.dispatcher = s.loop.dispatcher ∧
    (closeBins c f l s).1.tables = s.tables ∧
    (closeBins c f l s).1.acct = s.acct ∧
    (closeBins c f l s).1.stage = s.stage ∧
    (closeBins c f l s).1.track = s.track ∧
    (closeBins c f l s).1.feeders = s.feeders ∧
    (closeBins c f l s).1.line = s.line ∧
    (closeBins c f l s).1.draws = s.draws ∧
    (closeBins c f l s).1.pending = s.pending := by
  induction l generalizing s with
  | nil => simp [closeBins]
  | cons b bs ih =>
    simp only [closeBins]
    split
    · simpa using ih (closeTray b c .full s)
    · simpa using ih s

@[simp] theorem groupsIntoUse_frame (e : List (List Byte)) :
    (groupsIntoUse e s).pins = s.pins ∧ (groupsIntoUse e s).pitch = s.pitch ∧ (groupsIntoUse e s).loop = s.loop ∧
    (groupsIntoUse e s).tables = s.tables ∧ (groupsIntoUse e s).acct = s.acct ∧ (groupsIntoUse e s).stage = s.stage ∧
    (groupsIntoUse e s).track = s.track ∧ (groupsIntoUse e s).feeders = s.feeders ∧
    (groupsIntoUse e s).line.jammed = s.line.jammed ∧ (groupsIntoUse e s).line.stationLoss = s.line.stationLoss ∧
    (groupsIntoUse e s).line.retry = s.line.retry ∧ (groupsIntoUse e s).outcomes = s.outcomes ∧
    (groupsIntoUse e s).draws = s.draws ∧ (groupsIntoUse e s).pending = s.pending := by simp [groupsIntoUse]

@[simp] theorem groupsOutOfUse_frame :
    (groupsOutOfUse s).pins = s.pins ∧ (groupsOutOfUse s).pitch = s.pitch ∧ (groupsOutOfUse s).loop = s.loop ∧
    (groupsOutOfUse s).tables = s.tables ∧ (groupsOutOfUse s).acct = s.acct ∧ (groupsOutOfUse s).stage = s.stage ∧
    (groupsOutOfUse s).track = s.track ∧ (groupsOutOfUse s).feeders = s.feeders ∧
    (groupsOutOfUse s).line.jammed = s.line.jammed ∧ (groupsOutOfUse s).line.stationLoss = s.line.stationLoss ∧
    (groupsOutOfUse s).line.retry = s.line.retry ∧ (groupsOutOfUse s).outcomes = s.outcomes ∧
    (groupsOutOfUse s).draws = s.draws ∧ (groupsOutOfUse s).pending = s.pending := by simp [groupsOutOfUse]

@[simp] theorem presortRunClear_frame :
    ((presortRunClear s).1).pins = s.pins ∧ ((presortRunClear s).1).pitch = s.pitch ∧
    ((presortRunClear s).1).loop.mgmtIn = s.loop.mgmtIn ∧ ((presortRunClear s).1).loop.rollSerial = s.loop.rollSerial ∧
    ((presortRunClear s).1).loop.returned = s.loop.returned ∧ ((presortRunClear s).1).loop.misses = s.loop.misses ∧
    ((presortRunClear s).1).loop.ringBreakUp = s.loop.ringBreakUp ∧ ((presortRunClear s).1).loop.lastMask = s.loop.lastMask ∧
    ((presortRunClear s).1).loop.nodeRecs = s.loop.nodeRecs ∧ ((presortRunClear s).1).loop.lastManager = s.loop.lastManager ∧
    ((presortRunClear s).1).loop.noticeMask = s.loop.noticeMask ∧
    ((presortRunClear s).1).loop.dispatcher = s.loop.dispatcher ∧ ((presortRunClear s).1).tables = s.tables ∧
    ((presortRunClear s).1).acct = s.acct ∧ ((presortRunClear s).1).stage = s.stage ∧
    ((presortRunClear s).1).track = s.track ∧ ((presortRunClear s).1).feeders = s.feeders ∧
    ((presortRunClear s).1).line.jammed = s.line.jammed ∧ ((presortRunClear s).1).line.stationLoss = s.line.stationLoss ∧
    ((presortRunClear s).1).line.retry = s.line.retry ∧ ((presortRunClear s).1).draws = s.draws ∧
    ((presortRunClear s).1).pending = s.pending := by simp [presortRunClear]

@[simp] theorem pullSearch_frame (k : Nat) :
    ((pullSearch k s).1).pins = s.pins ∧ ((pullSearch k s).1).pitch = s.pitch ∧ ((pullSearch k s).1).loop = s.loop ∧
    ((pullSearch k s).1).tables.profile = s.tables.profile ∧ ((pullSearch k s).1).tables.node = s.tables.node ∧
    ((pullSearch k s).1).tables.job = s.tables.job ∧ ((pullSearch k s).1).tables.defect = s.tables.defect ∧
    ((pullSearch k s).1).tables.scheme = s.tables.scheme ∧ ((pullSearch k s).1).tables.group = s.tables.group ∧
    ((pullSearch k s).1).tables.bin = s.tables.bin ∧ ((pullSearch k s).1).tables.work = s.tables.work ∧
    ((pullSearch k s).1).tables.lastFold = s.tables.lastFold ∧ ((pullSearch k s).1).tables.staged = s.tables.staged ∧
    ((pullSearch k s).1).tables.hold = s.tables.hold ∧ ((pullSearch k s).1).tables.settling = s.tables.settling ∧
    ((pullSearch k s).1).acct = s.acct ∧ ((pullSearch k s).1).stage = s.stage ∧ ((pullSearch k s).1).track = s.track ∧
    ((pullSearch k s).1).feeders = s.feeders ∧ ((pullSearch k s).1).presort = s.presort ∧
    ((pullSearch k s).1).line = s.line ∧ ((pullSearch k s).1).outcomes = s.outcomes ∧ ((pullSearch k s).1).draws = s.draws ∧
    ((pullSearch k s).1).pending = s.pending := by
  simp only [pullSearch]
  split
  all_goals simp

@[simp] theorem bindRecord_frame (r : Account) :
    ((bindRecord r s).1).pins = s.pins ∧ ((bindRecord r s).1).pitch = s.pitch ∧ ((bindRecord r s).1).loop = s.loop ∧
    ((bindRecord r s).1).tables.profile = s.tables.profile ∧ ((bindRecord r s).1).tables.node = s.tables.node ∧
    ((bindRecord r s).1).tables.job = s.tables.job ∧ ((bindRecord r s).1).tables.defect = s.tables.defect ∧
    ((bindRecord r s).1).tables.scheme = s.tables.scheme ∧ ((bindRecord r s).1).tables.group = s.tables.group ∧
    ((bindRecord r s).1).tables.bin = s.tables.bin ∧ ((bindRecord r s).1).tables.work = s.tables.work ∧
    ((bindRecord r s).1).tables.lastFold = s.tables.lastFold ∧ ((bindRecord r s).1).tables.staged = s.tables.staged ∧
    ((bindRecord r s).1).tables.hold = s.tables.hold ∧ ((bindRecord r s).1).tables.settling = s.tables.settling ∧
    ((bindRecord r s).1).acct = s.acct ∧ ((bindRecord r s).1).stage = s.stage ∧ ((bindRecord r s).1).track = s.track ∧
    ((bindRecord r s).1).feeders = s.feeders ∧ ((bindRecord r s).1).presort = s.presort ∧
    ((bindRecord r s).1).line = s.line ∧ ((bindRecord r s).1).outcomes = s.outcomes ∧ ((bindRecord r s).1).draws = s.draws ∧
    ((bindRecord r s).1).pending = s.pending := by simp [bindRecord]

@[simp] theorem orderSet_frame (q : Nat) (f : AcctFields) (b : Bool) (w : Working) :
    (orderSet q f b w s).pins = s.pins ∧ (orderSet q f b w s).pitch = s.pitch ∧
    (orderSet q f b w s).loop.mgmtIn = s.loop.mgmtIn ∧ (orderSet q f b w s).loop.rollSerial = s.loop.rollSerial ∧
    (orderSet q f b w s).loop.returned = s.loop.returned ∧ (orderSet q f b w s).loop.misses = s.loop.misses ∧
    (orderSet q f b w s).loop.ringBreakUp = s.loop.ringBreakUp ∧ (orderSet q f b w s).loop.lastMask = s.loop.lastMask ∧
    (orderSet q f b w s).loop.nodeRecs = s.loop.nodeRecs ∧ (orderSet q f b w s).loop.lastManager = s.loop.lastManager ∧
    (orderSet q f b w s).loop.noticeMask = s.loop.noticeMask ∧ (orderSet q f b w s).loop.dispatcher = s.loop.dispatcher ∧
    (orderSet q f b w s).tables = s.tables ∧ (orderSet q f b w s).acct = s.acct ∧ (orderSet q f b w s).track = s.track ∧
    (orderSet q f b w s).feeders = s.feeders ∧ (orderSet q f b w s).presort = s.presort ∧
    (orderSet q f b w s).line = s.line ∧ (orderSet q f b w s).outcomes = s.outcomes ∧ (orderSet q f b w s).draws = s.draws ∧
    (orderSet q f b w s).pending = s.pending := by simp [orderSet]

@[simp] theorem assembleSheet_frame (r : SheetRead) (x : SetRec) :
    (assembleSheet r x s).pins = s.pins ∧ (assembleSheet r x s).pitch = s.pitch ∧ (assembleSheet r x s).loop = s.loop ∧
    (assembleSheet r x s).tables = s.tables ∧ (assembleSheet r x s).acct = s.acct ∧ (assembleSheet r x s).track = s.track ∧
    (assembleSheet r x s).feeders = s.feeders ∧ (assembleSheet r x s).presort = s.presort ∧
    (assembleSheet r x s).line = s.line ∧ (assembleSheet r x s).outcomes = s.outcomes ∧
    (assembleSheet r x s).draws = s.draws ∧ (assembleSheet r x s).pending = s.pending := by simp [assembleSheet]

@[simp] theorem strayFirst_frame (n : Nat) (r : SheetRead) (x : SetRec) :
    (strayFirst n r x s).pins = s.pins ∧ (strayFirst n r x s).pitch = s.pitch ∧
    (strayFirst n r x s).loop.mgmtIn = s.loop.mgmtIn ∧ (strayFirst n r x s).loop.rollSerial = s.loop.rollSerial ∧
    (strayFirst n r x s).loop.returned = s.loop.returned ∧ (strayFirst n r x s).loop.misses = s.loop.misses ∧
    (strayFirst n r x s).loop.ringBreakUp = s.loop.ringBreakUp ∧ (strayFirst n r x s).loop.lastMask = s.loop.lastMask ∧
    (strayFirst n r x s).loop.nodeRecs = s.loop.nodeRecs ∧ (strayFirst n r x s).loop.lastManager = s.loop.lastManager ∧
    (strayFirst n r x s).loop.noticeMask = s.loop.noticeMask ∧ (strayFirst n r x s).loop.dispatcher = s.loop.dispatcher ∧
    (strayFirst n r x s).tables = s.tables ∧ (strayFirst n r x s).acct = s.acct ∧ (strayFirst n r x s).track = s.track ∧
    (strayFirst n r x s).feeders = s.feeders ∧ (strayFirst n r x s).presort = s.presort ∧
    (strayFirst n r x s).line = s.line ∧ (strayFirst n r x s).draws = s.draws ∧ (strayFirst n r x s).pending = s.pending := by simp [strayFirst]

theorem rebindRecord_frame {t : Nat} {u : State} {f : AcctFields} (h : rebindRecord t s = some (u, f)) :
    u.pins = s.pins ∧
    u.pitch = s.pitch ∧
    u.loop = s.loop ∧
    u.tables.profile = s.tables.profile ∧
    u.tables.node = s.tables.node ∧
    u.tables.job = s.tables.job ∧
    u.tables.defect = s.tables.defect ∧
    u.tables.scheme = s.tables.scheme ∧
    u.tables.group = s.tables.group ∧
    u.tables.bin = s.tables.bin ∧
    u.tables.work = s.tables.work ∧
    u.tables.lastFold = s.tables.lastFold ∧
    u.tables.staged = s.tables.staged ∧
    u.tables.hold = s.tables.hold ∧
    u.tables.settling = s.tables.settling ∧
    u.acct.halfA = s.acct.halfA ∧
    u.acct.tail = s.acct.tail ∧
    u.acct.base = s.acct.base ∧
    u.stage = s.stage ∧
    u.track = s.track ∧
    u.feeders = s.feeders ∧
    u.presort = s.presort ∧
    u.line = s.line ∧
    u.draws = s.draws ∧
    u.pending = s.pending := by
  unfold rebindRecord at h
  split at h
  · simp at h
  · simp only [Option.some.injEq] at h
    have h1 := congrArg Prod.fst h
    simp only at h1
    subst h1
    simp

@[simp] theorem rebindFirst_frame (n t : Nat) (r : SheetRead) (x : SetRec) :
    (rebindFirst n t r x s).pins = s.pins ∧ (rebindFirst n t r x s).pitch = s.pitch ∧
    (rebindFirst n t r x s).loop.mgmtIn = s.loop.mgmtIn ∧ (rebindFirst n t r x s).loop.rollSerial = s.loop.rollSerial ∧
    (rebindFirst n t r x s).loop.returned = s.loop.returned ∧ (rebindFirst n t r x s).loop.misses = s.loop.misses ∧
    (rebindFirst n t r x s).loop.ringBreakUp = s.loop.ringBreakUp ∧ (rebindFirst n t r x s).loop.lastMask = s.loop.lastMask ∧
    (rebindFirst n t r x s).loop.nodeRecs = s.loop.nodeRecs ∧ (rebindFirst n t r x s).loop.lastManager = s.loop.lastManager ∧
    (rebindFirst n t r x s).loop.noticeMask = s.loop.noticeMask ∧
    (rebindFirst n t r x s).loop.dispatcher = s.loop.dispatcher ∧ (rebindFirst n t r x s).tables.profile = s.tables.profile ∧
    (rebindFirst n t r x s).tables.node = s.tables.node ∧ (rebindFirst n t r x s).tables.job = s.tables.job ∧
    (rebindFirst n t r x s).tables.defect = s.tables.defect ∧ (rebindFirst n t r x s).tables.scheme = s.tables.scheme ∧
    (rebindFirst n t r x s).tables.group = s.tables.group ∧ (rebindFirst n t r x s).tables.bin = s.tables.bin ∧
    (rebindFirst n t r x s).tables.work = s.tables.work ∧ (rebindFirst n t r x s).tables.lastFold = s.tables.lastFold ∧
    (rebindFirst n t r x s).tables.staged = s.tables.staged ∧ (rebindFirst n t r x s).tables.hold = s.tables.hold ∧
    (rebindFirst n t r x s).tables.settling = s.tables.settling ∧ (rebindFirst n t r x s).acct.halfA = s.acct.halfA ∧
    (rebindFirst n t r x s).acct.tail = s.acct.tail ∧ (rebindFirst n t r x s).acct.base = s.acct.base ∧
    (rebindFirst n t r x s).track = s.track ∧ (rebindFirst n t r x s).feeders = s.feeders ∧
    (rebindFirst n t r x s).presort = s.presort ∧ (rebindFirst n t r x s).line = s.line ∧
    (rebindFirst n t r x s).draws = s.draws ∧ (rebindFirst n t r x s).pending = s.pending := by
  unfold rebindFirst
  split
  · rename_i h
    simp [rebindRecord_frame s h]
  · simp

@[simp] theorem firstSheet_frame (n : Nat) (r : SheetRead) (x : SetRec) :
    (firstSheet n r x s).pins = s.pins ∧ (firstSheet n r x s).pitch = s.pitch ∧
    (firstSheet n r x s).loop.mgmtIn = s.loop.mgmtIn ∧ (firstSheet n r x s).loop.rollSerial = s.loop.rollSerial ∧
    (firstSheet n r x s).loop.returned = s.loop.returned ∧ (firstSheet n r x s).loop.misses = s.loop.misses ∧
    (firstSheet n r x s).loop.ringBreakUp = s.loop.ringBreakUp ∧ (firstSheet n r x s).loop.lastMask = s.loop.lastMask ∧
    (firstSheet n r x s).loop.nodeRecs = s.loop.nodeRecs ∧ (firstSheet n r x s).loop.lastManager = s.loop.lastManager ∧
    (firstSheet n r x s).loop.noticeMask = s.loop.noticeMask ∧ (firstSheet n r x s).loop.dispatcher = s.loop.dispatcher ∧
    (firstSheet n r x s).tables.profile = s.tables.profile ∧ (firstSheet n r x s).tables.node = s.tables.node ∧
    (firstSheet n r x s).tables.job = s.tables.job ∧ (firstSheet n r x s).tables.defect = s.tables.defect ∧
    (firstSheet n r x s).tables.scheme = s.tables.scheme ∧ (firstSheet n r x s).tables.group = s.tables.group ∧
    (firstSheet n r x s).tables.bin = s.tables.bin ∧ (firstSheet n r x s).tables.work = s.tables.work ∧
    (firstSheet n r x s).tables.lastFold = s.tables.lastFold ∧ (firstSheet n r x s).tables.staged = s.tables.staged ∧
    (firstSheet n r x s).tables.hold = s.tables.hold ∧ (firstSheet n r x s).tables.settling = s.tables.settling ∧
    (firstSheet n r x s).acct.halfA = s.acct.halfA ∧ (firstSheet n r x s).acct.tail = s.acct.tail ∧
    (firstSheet n r x s).acct.base = s.acct.base ∧ (firstSheet n r x s).track = s.track ∧
    (firstSheet n r x s).feeders = s.feeders ∧ (firstSheet n r x s).presort = s.presort ∧
    (firstSheet n r x s).line = s.line ∧ (firstSheet n r x s).draws = s.draws ∧ (firstSheet n r x s).pending = s.pending := by
  simp only [firstSheet]
  repeat' split
  all_goals simp

@[simp] theorem sheetToSet_frame (r : SheetRead) (x : SetRec) :
    (sheetToSet r x s).pins = s.pins ∧ (sheetToSet r x s).pitch = s.pitch ∧ (sheetToSet r x s).loop.mgmtIn = s.loop.mgmtIn ∧
    (sheetToSet r x s).loop.rollSerial = s.loop.rollSerial ∧ (sheetToSet r x s).loop.returned = s.loop.returned ∧
    (sheetToSet r x s).loop.misses = s.loop.misses ∧ (sheetToSet r x s).loop.ringBreakUp = s.loop.ringBreakUp ∧
    (sheetToSet r x s).loop.lastMask = s.loop.lastMask ∧ (sheetToSet r x s).loop.nodeRecs = s.loop.nodeRecs ∧
    (sheetToSet r x s).loop.lastManager = s.loop.lastManager ∧ (sheetToSet r x s).loop.noticeMask = s.loop.noticeMask ∧
    (sheetToSet r x s).loop.dispatcher = s.loop.dispatcher ∧ (sheetToSet r x s).tables.profile = s.tables.profile ∧
    (sheetToSet r x s).tables.node = s.tables.node ∧ (sheetToSet r x s).tables.job = s.tables.job ∧
    (sheetToSet r x s).tables.defect = s.tables.defect ∧ (sheetToSet r x s).tables.scheme = s.tables.scheme ∧
    (sheetToSet r x s).tables.group = s.tables.group ∧ (sheetToSet r x s).tables.bin = s.tables.bin ∧
    (sheetToSet r x s).tables.work = s.tables.work ∧ (sheetToSet r x s).tables.lastFold = s.tables.lastFold ∧
    (sheetToSet r x s).tables.staged = s.tables.staged ∧ (sheetToSet r x s).tables.hold = s.tables.hold ∧
    (sheetToSet r x s).tables.settling = s.tables.settling ∧ (sheetToSet r x s).acct.halfA = s.acct.halfA ∧
    (sheetToSet r x s).acct.tail = s.acct.tail ∧ (sheetToSet r x s).acct.base = s.acct.base ∧
    (sheetToSet r x s).track = s.track ∧ (sheetToSet r x s).feeders = s.feeders ∧ (sheetToSet r x s).presort = s.presort ∧
    (sheetToSet r x s).line = s.line ∧ (sheetToSet r x s).draws = s.draws ∧ (sheetToSet r x s).pending = s.pending := by
  simp only [sheetToSet]
  split
  all_goals simp

@[simp] theorem sheetAlone_frame (n : Nat) (r : SheetRead) :
    (sheetAlone n r s).pins = s.pins ∧ (sheetAlone n r s).pitch.counter = s.pitch.counter ∧
    (sheetAlone n r s).pitch.counterValid = s.pitch.counterValid ∧
    (sheetAlone n r s).pitch.indexPending = s.pitch.indexPending ∧ (sheetAlone n r s).pitch.phase = s.pitch.phase ∧
    (sheetAlone n r s).pitch.lastSpan = s.pitch.lastSpan ∧ (sheetAlone n r s).pitch.estopAsserted = s.pitch.estopAsserted ∧
    (sheetAlone n r s).pitch.releaseTimer = s.pitch.releaseTimer ∧
    (sheetAlone n r s).pitch.unexpectedUp = s.pitch.unexpectedUp ∧ (sheetAlone n r s).loop.mgmtIn = s.loop.mgmtIn ∧
    (sheetAlone n r s).loop.rollSerial = s.loop.rollSerial ∧ (sheetAlone n r s).loop.returned = s.loop.returned ∧
    (sheetAlone n r s).loop.misses = s.loop.misses ∧ (sheetAlone n r s).loop.ringBreakUp = s.loop.ringBreakUp ∧
    (sheetAlone n r s).loop.lastMask = s.loop.lastMask ∧ (sheetAlone n r s).loop.nodeRecs = s.loop.nodeRecs ∧
    (sheetAlone n r s).loop.lastManager = s.loop.lastManager ∧ (sheetAlone n r s).loop.noticeMask = s.loop.noticeMask ∧
    (sheetAlone n r s).loop.dispatcher = s.loop.dispatcher ∧ (sheetAlone n r s).tables = s.tables ∧
    (sheetAlone n r s).acct.queue = s.acct.queue ∧ (sheetAlone n r s).acct.halfA = s.acct.halfA ∧
    (sheetAlone n r s).acct.tail = s.acct.tail ∧ (sheetAlone n r s).acct.base = s.acct.base ∧
    (sheetAlone n r s).feeders = s.feeders ∧ (sheetAlone n r s).presort = s.presort ∧
    (sheetAlone n r s).line.jammed = s.line.jammed ∧ (sheetAlone n r s).line.stationLoss = s.line.stationLoss ∧
    (sheetAlone n r s).line.retry = s.line.retry ∧ (sheetAlone n r s).draws = s.draws ∧ (sheetAlone n r s).pending = s.pending := by
  simp only [sheetAlone]
  split
  all_goals simp

@[simp] theorem putAssembly_frame (x : Option SetRec) :
    (putAssembly x s).pins = s.pins ∧ (putAssembly x s).pitch = s.pitch ∧ (putAssembly x s).loop = s.loop ∧
    (putAssembly x s).tables = s.tables ∧ (putAssembly x s).acct = s.acct ∧ (putAssembly x s).track = s.track ∧
    (putAssembly x s).feeders = s.feeders ∧ (putAssembly x s).presort = s.presort ∧ (putAssembly x s).line = s.line ∧
    (putAssembly x s).outcomes = s.outcomes ∧ (putAssembly x s).draws = s.draws ∧ (putAssembly x s).pending = s.pending := by simp [putAssembly]

@[simp] theorem sheetLate_frame (n : Nat) (r : SheetRead) :
    (sheetLate n r s).pins = s.pins ∧ (sheetLate n r s).pitch.counter = s.pitch.counter ∧
    (sheetLate n r s).pitch.counterValid = s.pitch.counterValid ∧
    (sheetLate n r s).pitch.indexPending = s.pitch.indexPending ∧ (sheetLate n r s).pitch.phase = s.pitch.phase ∧
    (sheetLate n r s).pitch.lastSpan = s.pitch.lastSpan ∧ (sheetLate n r s).pitch.estopAsserted = s.pitch.estopAsserted ∧
    (sheetLate n r s).pitch.releaseTimer = s.pitch.releaseTimer ∧
    (sheetLate n r s).pitch.unexpectedUp = s.pitch.unexpectedUp ∧ (sheetLate n r s).loop.mgmtIn = s.loop.mgmtIn ∧
    (sheetLate n r s).loop.rollSerial = s.loop.rollSerial ∧ (sheetLate n r s).loop.returned = s.loop.returned ∧
    (sheetLate n r s).loop.misses = s.loop.misses ∧ (sheetLate n r s).loop.ringBreakUp = s.loop.ringBreakUp ∧
    (sheetLate n r s).loop.lastMask = s.loop.lastMask ∧ (sheetLate n r s).loop.nodeRecs = s.loop.nodeRecs ∧
    (sheetLate n r s).loop.lastManager = s.loop.lastManager ∧ (sheetLate n r s).loop.noticeMask = s.loop.noticeMask ∧
    (sheetLate n r s).loop.dispatcher = s.loop.dispatcher ∧ (sheetLate n r s).tables = s.tables ∧
    (sheetLate n r s).acct.queue = s.acct.queue ∧ (sheetLate n r s).acct.halfA = s.acct.halfA ∧
    (sheetLate n r s).acct.tail = s.acct.tail ∧ (sheetLate n r s).acct.base = s.acct.base ∧
    (sheetLate n r s).feeders = s.feeders ∧ (sheetLate n r s).presort = s.presort ∧
    (sheetLate n r s).line.jammed = s.line.jammed ∧ (sheetLate n r s).line.stationLoss = s.line.stationLoss ∧
    (sheetLate n r s).line.retry = s.line.retry ∧ (sheetLate n r s).draws = s.draws ∧ (sheetLate n r s).pending = s.pending := by
  simp only [sheetLate]
  repeat' split
  all_goals simp

@[simp] theorem routeSheet_frame (n : Nat) (r : SheetRead) :
    (routeSheet n r s).pins = s.pins ∧ (routeSheet n r s).pitch.counter = s.pitch.counter ∧
    (routeSheet n r s).pitch.counterValid = s.pitch.counterValid ∧
    (routeSheet n r s).pitch.indexPending = s.pitch.indexPending ∧ (routeSheet n r s).pitch.phase = s.pitch.phase ∧
    (routeSheet n r s).pitch.lastSpan = s.pitch.lastSpan ∧ (routeSheet n r s).pitch.estopAsserted = s.pitch.estopAsserted ∧
    (routeSheet n r s).pitch.releaseTimer = s.pitch.releaseTimer ∧
    (routeSheet n r s).pitch.unexpectedUp = s.pitch.unexpectedUp ∧ (routeSheet n r s).loop.mgmtIn = s.loop.mgmtIn ∧
    (routeSheet n r s).loop.rollSerial = s.loop.rollSerial ∧ (routeSheet n r s).loop.returned = s.loop.returned ∧
    (routeSheet n r s).loop.misses = s.loop.misses ∧ (routeSheet n r s).loop.ringBreakUp = s.loop.ringBreakUp ∧
    (routeSheet n r s).loop.lastMask = s.loop.lastMask ∧ (routeSheet n r s).loop.nodeRecs = s.loop.nodeRecs ∧
    (routeSheet n r s).loop.lastManager = s.loop.lastManager ∧ (routeSheet n r s).loop.noticeMask = s.loop.noticeMask ∧
    (routeSheet n r s).loop.dispatcher = s.loop.dispatcher ∧ (routeSheet n r s).tables.profile = s.tables.profile ∧
    (routeSheet n r s).tables.node = s.tables.node ∧ (routeSheet n r s).tables.job = s.tables.job ∧
    (routeSheet n r s).tables.defect = s.tables.defect ∧ (routeSheet n r s).tables.scheme = s.tables.scheme ∧
    (routeSheet n r s).tables.group = s.tables.group ∧ (routeSheet n r s).tables.bin = s.tables.bin ∧
    (routeSheet n r s).tables.work = s.tables.work ∧ (routeSheet n r s).tables.lastFold = s.tables.lastFold ∧
    (routeSheet n r s).tables.staged = s.tables.staged ∧ (routeSheet n r s).tables.hold = s.tables.hold ∧
    (routeSheet n r s).tables.settling = s.tables.settling ∧ (routeSheet n r s).acct.halfA = s.acct.halfA ∧
    (routeSheet n r s).acct.tail = s.acct.tail ∧ (routeSheet n r s).acct.base = s.acct.base ∧
    (routeSheet n r s).feeders = s.feeders ∧ (routeSheet n r s).presort = s.presort ∧
    (routeSheet n r s).line.jammed = s.line.jammed ∧ (routeSheet n r s).line.stationLoss = s.line.stationLoss ∧
    (routeSheet n r s).line.retry = s.line.retry ∧ (routeSheet n r s).draws = s.draws ∧ (routeSheet n r s).pending = s.pending := by
  simp only [routeSheet]
  repeat' split
  all_goals simp

@[simp] theorem issueRelease_frame (p : Nat) :
    (issueRelease p s).pins = s.pins ∧ (issueRelease p s).pitch = s.pitch ∧ (issueRelease p s).loop.mgmtIn = s.loop.mgmtIn ∧
    (issueRelease p s).loop.rollSerial = s.loop.rollSerial ∧ (issueRelease p s).loop.returned = s.loop.returned ∧
    (issueRelease p s).loop.misses = s.loop.misses ∧ (issueRelease p s).loop.ringBreakUp = s.loop.ringBreakUp ∧
    (issueRelease p s).loop.lastMask = s.loop.lastMask ∧ (issueRelease p s).loop.nodeRecs = s.loop.nodeRecs ∧
    (issueRelease p s).loop.lastManager = s.loop.lastManager ∧ (issueRelease p s).loop.noticeMask = s.loop.noticeMask ∧
    (issueRelease p s).loop.dispatcher = s.loop.dispatcher ∧ (issueRelease p s).tables = s.tables ∧
    (issueRelease p s).acct = s.acct ∧ (issueRelease p s).track = s.track ∧ (issueRelease p s).feeders = s.feeders ∧
    (issueRelease p s).presort = s.presort ∧ (issueRelease p s).line = s.line ∧ (issueRelease p s).outcomes = s.outcomes ∧
    (issueRelease p s).draws = s.draws ∧ (issueRelease p s).pending = s.pending := by simp [issueRelease]

@[simp] theorem releaseInto_frame (p : Nat) :
    (releaseInto p s).pins = s.pins ∧ (releaseInto p s).pitch.counter = s.pitch.counter ∧
    (releaseInto p s).pitch.counterValid = s.pitch.counterValid ∧
    (releaseInto p s).pitch.indexPending = s.pitch.indexPending ∧ (releaseInto p s).pitch.phase = s.pitch.phase ∧
    (releaseInto p s).pitch.lastSpan = s.pitch.lastSpan ∧ (releaseInto p s).pitch.estopAsserted = s.pitch.estopAsserted ∧
    (releaseInto p s).pitch.releaseTimer = s.pitch.releaseTimer ∧
    (releaseInto p s).pitch.unexpectedUp = s.pitch.unexpectedUp ∧ (releaseInto p s).loop.mgmtIn = s.loop.mgmtIn ∧
    (releaseInto p s).loop.rollSerial = s.loop.rollSerial ∧ (releaseInto p s).loop.returned = s.loop.returned ∧
    (releaseInto p s).loop.misses = s.loop.misses ∧ (releaseInto p s).loop.ringBreakUp = s.loop.ringBreakUp ∧
    (releaseInto p s).loop.lastMask = s.loop.lastMask ∧ (releaseInto p s).loop.nodeRecs = s.loop.nodeRecs ∧
    (releaseInto p s).loop.lastManager = s.loop.lastManager ∧ (releaseInto p s).loop.noticeMask = s.loop.noticeMask ∧
    (releaseInto p s).loop.dispatcher = s.loop.dispatcher ∧ (releaseInto p s).tables = s.tables ∧
    (releaseInto p s).acct.queue = s.acct.queue ∧ (releaseInto p s).acct.halfA = s.acct.halfA ∧
    (releaseInto p s).acct.tail = s.acct.tail ∧ (releaseInto p s).acct.base = s.acct.base ∧
    (releaseInto p s).line.jammed = s.line.jammed ∧ (releaseInto p s).line.stationLoss = s.line.stationLoss ∧
    (releaseInto p s).line.retry = s.line.retry ∧ (releaseInto p s).draws = s.draws ∧ (releaseInto p s).pending = s.pending := by
  simp only [releaseInto]
  repeat' split
  all_goals simp

@[simp] theorem tryRelease_frame :
    (tryRelease s).pins = s.pins ∧ (tryRelease s).pitch.counter = s.pitch.counter ∧
    (tryRelease s).pitch.counterValid = s.pitch.counterValid ∧ (tryRelease s).pitch.indexPending = s.pitch.indexPending ∧
    (tryRelease s).pitch.phase = s.pitch.phase ∧ (tryRelease s).pitch.lastSpan = s.pitch.lastSpan ∧
    (tryRelease s).pitch.estopAsserted = s.pitch.estopAsserted ∧ (tryRelease s).pitch.releaseTimer = s.pitch.releaseTimer ∧
    (tryRelease s).pitch.unexpectedUp = s.pitch.unexpectedUp ∧ (tryRelease s).loop.mgmtIn = s.loop.mgmtIn ∧
    (tryRelease s).loop.rollSerial = s.loop.rollSerial ∧ (tryRelease s).loop.returned = s.loop.returned ∧
    (tryRelease s).loop.misses = s.loop.misses ∧ (tryRelease s).loop.ringBreakUp = s.loop.ringBreakUp ∧
    (tryRelease s).loop.lastMask = s.loop.lastMask ∧ (tryRelease s).loop.nodeRecs = s.loop.nodeRecs ∧
    (tryRelease s).loop.lastManager = s.loop.lastManager ∧ (tryRelease s).loop.noticeMask = s.loop.noticeMask ∧
    (tryRelease s).loop.dispatcher = s.loop.dispatcher ∧ (tryRelease s).tables = s.tables ∧
    (tryRelease s).acct.queue = s.acct.queue ∧ (tryRelease s).acct.halfA = s.acct.halfA ∧
    (tryRelease s).acct.tail = s.acct.tail ∧ (tryRelease s).acct.base = s.acct.base ∧
    (tryRelease s).line.jammed = s.line.jammed ∧ (tryRelease s).line.stationLoss = s.line.stationLoss ∧
    (tryRelease s).line.retry = s.line.retry ∧ (tryRelease s).draws = s.draws ∧ (tryRelease s).pending = s.pending := by
  simp only [tryRelease]
  split
  all_goals simp

@[simp] theorem judgeHeld_frame :
    (judgeHeld s).pins = s.pins ∧ (judgeHeld s).pitch.counter = s.pitch.counter ∧
    (judgeHeld s).pitch.counterValid = s.pitch.counterValid ∧ (judgeHeld s).pitch.indexPending = s.pitch.indexPending ∧
    (judgeHeld s).pitch.phase = s.pitch.phase ∧ (judgeHeld s).pitch.lastSpan = s.pitch.lastSpan ∧
    (judgeHeld s).pitch.estopAsserted = s.pitch.estopAsserted ∧ (judgeHeld s).pitch.releaseTimer = s.pitch.releaseTimer ∧
    (judgeHeld s).pitch.unexpectedUp = s.pitch.unexpectedUp ∧ (judgeHeld s).loop.mgmtIn = s.loop.mgmtIn ∧
    (judgeHeld s).loop.rollSerial = s.loop.rollSerial ∧ (judgeHeld s).loop.returned = s.loop.returned ∧
    (judgeHeld s).loop.misses = s.loop.misses ∧ (judgeHeld s).loop.ringBreakUp = s.loop.ringBreakUp ∧
    (judgeHeld s).loop.lastMask = s.loop.lastMask ∧ (judgeHeld s).loop.nodeRecs = s.loop.nodeRecs ∧
    (judgeHeld s).loop.lastManager = s.loop.lastManager ∧ (judgeHeld s).loop.noticeMask = s.loop.noticeMask ∧
    (judgeHeld s).loop.dispatcher = s.loop.dispatcher ∧ (judgeHeld s).tables = s.tables ∧
    (judgeHeld s).acct.queue = s.acct.queue ∧ (judgeHeld s).acct.halfA = s.acct.halfA ∧
    (judgeHeld s).acct.tail = s.acct.tail ∧ (judgeHeld s).acct.base = s.acct.base ∧ (judgeHeld s).stage = s.stage ∧
    (judgeHeld s).track = s.track ∧ (judgeHeld s).feeders = s.feeders ∧ (judgeHeld s).presort = s.presort ∧
    (judgeHeld s).line.jammed = s.line.jammed ∧ (judgeHeld s).line.stationLoss = s.line.stationLoss ∧
    (judgeHeld s).line.retry = s.line.retry ∧ (judgeHeld s).outcomes = s.outcomes ∧ (judgeHeld s).draws = s.draws ∧
    (judgeHeld s).pending = s.pending := by
  simp only [judgeHeld]
  split
  all_goals simp

@[simp] theorem settle_frame :
    (settle s).pins = s.pins ∧ (settle s).pitch.counter = s.pitch.counter ∧
    (settle s).pitch.counterValid = s.pitch.counterValid ∧ (settle s).pitch.indexPending = s.pitch.indexPending ∧
    (settle s).pitch.phase = s.pitch.phase ∧ (settle s).pitch.lastSpan = s.pitch.lastSpan ∧
    (settle s).pitch.estopAsserted = s.pitch.estopAsserted ∧ (settle s).pitch.releaseTimer = s.pitch.releaseTimer ∧
    (settle s).pitch.unexpectedUp = s.pitch.unexpectedUp ∧ (settle s).loop.mgmtIn = s.loop.mgmtIn ∧
    (settle s).loop.rollSerial = s.loop.rollSerial ∧ (settle s).loop.returned = s.loop.returned ∧
    (settle s).loop.misses = s.loop.misses ∧ (settle s).loop.ringBreakUp = s.loop.ringBreakUp ∧
    (settle s).loop.lastMask = s.loop.lastMask ∧ (settle s).loop.nodeRecs = s.loop.nodeRecs ∧
    (settle s).loop.lastManager = s.loop.lastManager ∧ (settle s).loop.noticeMask = s.loop.noticeMask ∧
    (settle s).loop.dispatcher = s.loop.dispatcher ∧ (settle s).tables = s.tables ∧ (settle s).acct.queue = s.acct.queue ∧
    (settle s).acct.halfA = s.acct.halfA ∧ (settle s).acct.tail = s.acct.tail ∧ (settle s).acct.base = s.acct.base ∧
    (settle s).line.jammed = s.line.jammed ∧ (settle s).line.stationLoss = s.line.stationLoss ∧
    (settle s).line.retry = s.line.retry ∧ (settle s).draws = s.draws ∧ (settle s).pending = s.pending := by simp [settle]

@[simp] theorem judgeGap_frame :
    (judgeGap s).pins = s.pins ∧ (judgeGap s).pitch = s.pitch ∧ (judgeGap s).loop = s.loop ∧ (judgeGap s).tables = s.tables ∧
    (judgeGap s).acct = s.acct ∧ (judgeGap s).stage = s.stage ∧ (judgeGap s).track = s.track ∧
    (judgeGap s).feeders = s.feeders ∧ (judgeGap s).presort = s.presort ∧ (judgeGap s).line = s.line ∧
    (judgeGap s).draws = s.draws ∧ (judgeGap s).pending = s.pending := by
  simp only [judgeGap]
  split
  all_goals simp

@[simp] theorem unconfirmedRelease_frame :
    (unconfirmedRelease s).pins = s.pins ∧ (unconfirmedRelease s).pitch.counter = s.pitch.counter ∧
    (unconfirmedRelease s).pitch.counterValid = s.pitch.counterValid ∧
    (unconfirmedRelease s).pitch.indexPending = s.pitch.indexPending ∧ (unconfirmedRelease s).pitch.phase = s.pitch.phase ∧
    (unconfirmedRelease s).pitch.lastSpan = s.pitch.lastSpan ∧
    (unconfirmedRelease s).pitch.estopAsserted = s.pitch.estopAsserted ∧
    (unconfirmedRelease s).pitch.releaseTimer = s.pitch.releaseTimer ∧
    (unconfirmedRelease s).pitch.unexpectedUp = s.pitch.unexpectedUp ∧ (unconfirmedRelease s).loop.mgmtIn = s.loop.mgmtIn ∧
    (unconfirmedRelease s).loop.rollSerial = s.loop.rollSerial ∧ (unconfirmedRelease s).loop.returned = s.loop.returned ∧
    (unconfirmedRelease s).loop.misses = s.loop.misses ∧ (unconfirmedRelease s).loop.ringBreakUp = s.loop.ringBreakUp ∧
    (unconfirmedRelease s).loop.lastMask = s.loop.lastMask ∧ (unconfirmedRelease s).loop.nodeRecs = s.loop.nodeRecs ∧
    (unconfirmedRelease s).loop.lastManager = s.loop.lastManager ∧
    (unconfirmedRelease s).loop.noticeMask = s.loop.noticeMask ∧ (unconfirmedRelease s).loop.dispatcher = s.loop.dispatcher ∧
    (unconfirmedRelease s).tables = s.tables ∧ (unconfirmedRelease s).acct.queue = s.acct.queue ∧
    (unconfirmedRelease s).acct.halfA = s.acct.halfA ∧ (unconfirmedRelease s).acct.tail = s.acct.tail ∧
    (unconfirmedRelease s).acct.base = s.acct.base ∧ (unconfirmedRelease s).feeders = s.feeders ∧
    (unconfirmedRelease s).presort = s.presort ∧ (unconfirmedRelease s).line.jammed = s.line.jammed ∧
    (unconfirmedRelease s).line.stationLoss = s.line.stationLoss ∧ (unconfirmedRelease s).line.retry = s.line.retry ∧
    (unconfirmedRelease s).outcomes = s.outcomes ∧ (unconfirmedRelease s).draws = s.draws ∧
    (unconfirmedRelease s).pending = s.pending := by
  simp only [unconfirmedRelease]
  repeat' split
  all_goals simp

@[simp] theorem judgeDeadline_frame :
    (judgeDeadline s).pins = s.pins ∧ (judgeDeadline s).pitch = s.pitch ∧ (judgeDeadline s).loop = s.loop ∧
    (judgeDeadline s).tables = s.tables ∧ (judgeDeadline s).acct = s.acct ∧ (judgeDeadline s).track = s.track ∧
    (judgeDeadline s).feeders = s.feeders ∧ (judgeDeadline s).presort = s.presort ∧ (judgeDeadline s).line = s.line ∧
    (judgeDeadline s).outcomes = s.outcomes ∧ (judgeDeadline s).draws = s.draws ∧ (judgeDeadline s).pending = s.pending := by
  simp only [judgeDeadline]
  repeat' split
  all_goals simp

@[simp] theorem countPitch_frame :
    (countPitch s).pins = s.pins ∧ (countPitch s).pitch = s.pitch ∧ (countPitch s).loop = s.loop ∧
    (countPitch s).tables = s.tables ∧ (countPitch s).acct = s.acct ∧ (countPitch s).track = s.track ∧
    (countPitch s).feeders = s.feeders ∧ (countPitch s).presort = s.presort ∧ (countPitch s).line = s.line ∧
    (countPitch s).outcomes = s.outcomes ∧ (countPitch s).draws = s.draws ∧ (countPitch s).pending = s.pending := by simp [countPitch]

@[simp] theorem deadlineNotice_frame (b : Bool) :
    (deadlineNotice b s).pins = s.pins ∧ (deadlineNotice b s).pitch = s.pitch ∧ (deadlineNotice b s).loop = s.loop ∧
    (deadlineNotice b s).tables = s.tables ∧ (deadlineNotice b s).acct = s.acct ∧ (deadlineNotice b s).track = s.track ∧
    (deadlineNotice b s).feeders = s.feeders ∧ (deadlineNotice b s).presort = s.presort ∧
    (deadlineNotice b s).line = s.line ∧ (deadlineNotice b s).outcomes = s.outcomes ∧ (deadlineNotice b s).draws = s.draws ∧
    (deadlineNotice b s).pending = s.pending := by
  simp only [deadlineNotice]
  split
  all_goals simp

@[simp] theorem collationNotice_frame (n : Notice) :
    (collationNotice n s).pins = s.pins ∧ (collationNotice n s).pitch.counter = s.pitch.counter ∧
    (collationNotice n s).pitch.counterValid = s.pitch.counterValid ∧
    (collationNotice n s).pitch.indexPending = s.pitch.indexPending ∧ (collationNotice n s).pitch.phase = s.pitch.phase ∧
    (collationNotice n s).pitch.lastSpan = s.pitch.lastSpan ∧
    (collationNotice n s).pitch.estopAsserted = s.pitch.estopAsserted ∧
    (collationNotice n s).pitch.releaseTimer = s.pitch.releaseTimer ∧
    (collationNotice n s).pitch.unexpectedUp = s.pitch.unexpectedUp ∧ (collationNotice n s).loop.mgmtIn = s.loop.mgmtIn ∧
    (collationNotice n s).loop.rollSerial = s.loop.rollSerial ∧ (collationNotice n s).loop.returned = s.loop.returned ∧
    (collationNotice n s).loop.misses = s.loop.misses ∧ (collationNotice n s).loop.ringBreakUp = s.loop.ringBreakUp ∧
    (collationNotice n s).loop.lastMask = s.loop.lastMask ∧ (collationNotice n s).loop.nodeRecs = s.loop.nodeRecs ∧
    (collationNotice n s).loop.lastManager = s.loop.lastManager ∧ (collationNotice n s).loop.noticeMask = s.loop.noticeMask ∧
    (collationNotice n s).loop.dispatcher = s.loop.dispatcher ∧ (collationNotice n s).tables = s.tables ∧
    (collationNotice n s).acct.queue = s.acct.queue ∧ (collationNotice n s).acct.halfA = s.acct.halfA ∧
    (collationNotice n s).acct.tail = s.acct.tail ∧ (collationNotice n s).acct.base = s.acct.base ∧
    (collationNotice n s).feeders = s.feeders ∧ (collationNotice n s).presort = s.presort ∧
    (collationNotice n s).line.jammed = s.line.jammed ∧ (collationNotice n s).line.stationLoss = s.line.stationLoss ∧
    (collationNotice n s).line.retry = s.line.retry ∧ (collationNotice n s).draws = s.draws ∧
    (collationNotice n s).pending = s.pending := by simp [collationNotice]

@[simp] theorem releaseDone_frame (p : Nat) :
    (releaseDone p s).pins = s.pins ∧ (releaseDone p s).pitch = s.pitch ∧ (releaseDone p s).loop = s.loop ∧
    (releaseDone p s).tables = s.tables ∧ (releaseDone p s).acct = s.acct ∧ (releaseDone p s).track = s.track ∧
    (releaseDone p s).feeders = s.feeders ∧ (releaseDone p s).presort = s.presort ∧ (releaseDone p s).line = s.line ∧
    (releaseDone p s).draws = s.draws ∧ (releaseDone p s).pending = s.pending := by
  simp only [releaseDone]
  split
  all_goals simp

@[simp] theorem purgeSlot_frame (x : Option SetRec) :
    (purgeSlot x s).pins = s.pins ∧ (purgeSlot x s).pitch = s.pitch ∧ (purgeSlot x s).loop.mgmtIn = s.loop.mgmtIn ∧
    (purgeSlot x s).loop.rollSerial = s.loop.rollSerial ∧ (purgeSlot x s).loop.returned = s.loop.returned ∧
    (purgeSlot x s).loop.misses = s.loop.misses ∧ (purgeSlot x s).loop.ringBreakUp = s.loop.ringBreakUp ∧
    (purgeSlot x s).loop.lastMask = s.loop.lastMask ∧ (purgeSlot x s).loop.nodeRecs = s.loop.nodeRecs ∧
    (purgeSlot x s).loop.lastManager = s.loop.lastManager ∧ (purgeSlot x s).loop.noticeMask = s.loop.noticeMask ∧
    (purgeSlot x s).loop.dispatcher = s.loop.dispatcher ∧ (purgeSlot x s).tables = s.tables ∧ (purgeSlot x s).acct = s.acct ∧
    (purgeSlot x s).stage = s.stage ∧ (purgeSlot x s).track = s.track ∧ (purgeSlot x s).feeders = s.feeders ∧
    (purgeSlot x s).presort = s.presort ∧ (purgeSlot x s).line = s.line ∧ (purgeSlot x s).draws = s.draws ∧
    (purgeSlot x s).pending = s.pending := by
  simp only [purgeSlot]
  split
  all_goals simp

@[simp] theorem stageRunClear_frame :
    (stageRunClear s).pins = s.pins ∧ (stageRunClear s).pitch = s.pitch ∧ (stageRunClear s).loop.mgmtIn = s.loop.mgmtIn ∧
    (stageRunClear s).loop.rollSerial = s.loop.rollSerial ∧ (stageRunClear s).loop.returned = s.loop.returned ∧
    (stageRunClear s).loop.misses = s.loop.misses ∧ (stageRunClear s).loop.ringBreakUp = s.loop.ringBreakUp ∧
    (stageRunClear s).loop.lastMask = s.loop.lastMask ∧ (stageRunClear s).loop.nodeRecs = s.loop.nodeRecs ∧
    (stageRunClear s).loop.lastManager = s.loop.lastManager ∧ (stageRunClear s).loop.noticeMask = s.loop.noticeMask ∧
    (stageRunClear s).loop.dispatcher = s.loop.dispatcher ∧ (stageRunClear s).tables = s.tables ∧
    (stageRunClear s).acct = s.acct ∧ (stageRunClear s).track = s.track ∧ (stageRunClear s).feeders = s.feeders ∧
    (stageRunClear s).presort = s.presort ∧ (stageRunClear s).line = s.line ∧ (stageRunClear s).draws = s.draws ∧
    (stageRunClear s).pending = s.pending := by simp [stageRunClear]

@[simp] theorem putStaged_frame (g : Staged) :
    (putStaged g s).pins = s.pins ∧ (putStaged g s).pitch = s.pitch ∧ (putStaged g s).loop = s.loop ∧
    (putStaged g s).tables.profile = s.tables.profile ∧ (putStaged g s).tables.node = s.tables.node ∧
    (putStaged g s).tables.job = s.tables.job ∧ (putStaged g s).tables.defect = s.tables.defect ∧
    (putStaged g s).tables.scheme = s.tables.scheme ∧ (putStaged g s).tables.group = s.tables.group ∧
    (putStaged g s).tables.bin = s.tables.bin ∧ (putStaged g s).acct = s.acct ∧ (putStaged g s).stage = s.stage ∧
    (putStaged g s).track = s.track ∧ (putStaged g s).feeders = s.feeders ∧ (putStaged g s).presort = s.presort ∧
    (putStaged g s).line = s.line ∧ (putStaged g s).outcomes = s.outcomes ∧ (putStaged g s).draws = s.draws ∧
    (putStaged g s).pending = s.pending := by simp [putStaged]

@[simp] theorem putHold_frame (b : Bool) :
    (putHold b s).pins = s.pins ∧ (putHold b s).pitch = s.pitch ∧ (putHold b s).loop = s.loop ∧
    (putHold b s).tables.profile = s.tables.profile ∧ (putHold b s).tables.node = s.tables.node ∧
    (putHold b s).tables.job = s.tables.job ∧ (putHold b s).tables.defect = s.tables.defect ∧
    (putHold b s).tables.scheme = s.tables.scheme ∧ (putHold b s).tables.group = s.tables.group ∧
    (putHold b s).tables.bin = s.tables.bin ∧ (putHold b s).acct = s.acct ∧ (putHold b s).stage = s.stage ∧
    (putHold b s).track = s.track ∧ (putHold b s).feeders = s.feeders ∧ (putHold b s).presort = s.presort ∧
    (putHold b s).line = s.line ∧ (putHold b s).outcomes = s.outcomes ∧ (putHold b s).draws = s.draws ∧
    (putHold b s).pending = s.pending := by simp [putHold]

@[simp] theorem applyStaged_frame :
    (applyStaged s).pins = s.pins ∧ (applyStaged s).pitch.counter = s.pitch.counter ∧
    (applyStaged s).pitch.counterValid = s.pitch.counterValid ∧ (applyStaged s).pitch.indexPending = s.pitch.indexPending ∧
    (applyStaged s).pitch.phase = s.pitch.phase ∧ (applyStaged s).pitch.lastSpan = s.pitch.lastSpan ∧
    (applyStaged s).pitch.estopAsserted = s.pitch.estopAsserted ∧ (applyStaged s).pitch.releaseTimer = s.pitch.releaseTimer ∧
    (applyStaged s).pitch.unexpectedUp = s.pitch.unexpectedUp ∧ (applyStaged s).loop.mgmtIn = s.loop.mgmtIn ∧
    (applyStaged s).loop.rollSerial = s.loop.rollSerial ∧ (applyStaged s).loop.returned = s.loop.returned ∧
    (applyStaged s).loop.misses = s.loop.misses ∧ (applyStaged s).loop.ringBreakUp = s.loop.ringBreakUp ∧
    (applyStaged s).loop.lastMask = s.loop.lastMask ∧ (applyStaged s).loop.nodeRecs = s.loop.nodeRecs ∧
    (applyStaged s).loop.lastManager = s.loop.lastManager ∧ (applyStaged s).loop.noticeMask = s.loop.noticeMask ∧
    (applyStaged s).loop.dispatcher = s.loop.dispatcher ∧ (applyStaged s).tables.profile = s.tables.profile ∧
    (applyStaged s).tables.node = s.tables.node ∧ (applyStaged s).tables.job = s.tables.job ∧
    (applyStaged s).tables.defect = s.tables.defect ∧ (applyStaged s).tables.scheme = s.tables.scheme ∧
    (applyStaged s).tables.group = s.tables.group ∧ (applyStaged s).tables.bin = s.tables.bin ∧
    (applyStaged s).acct.queue = s.acct.queue ∧ (applyStaged s).acct.halfA = s.acct.halfA ∧
    (applyStaged s).acct.tail = s.acct.tail ∧ (applyStaged s).acct.base = s.acct.base ∧ (applyStaged s).presort = s.presort ∧
    (applyStaged s).line.jammed = s.line.jammed ∧ (applyStaged s).line.stationLoss = s.line.stationLoss ∧
    (applyStaged s).line.retry = s.line.retry ∧ (applyStaged s).outcomes = s.outcomes ∧ (applyStaged s).draws = s.draws ∧
    (applyStaged s).pending = s.pending := by
  simp only [applyStaged]
  repeat' split
  all_goals simp [applyTables]

@[simp] theorem settlingAnswer_frame :
    ((settlingAnswer s).1).pins = s.pins ∧ ((settlingAnswer s).1).pitch = s.pitch ∧ ((settlingAnswer s).1).loop = s.loop ∧
    ((settlingAnswer s).1).tables.profile = s.tables.profile ∧ ((settlingAnswer s).1).tables.node = s.tables.node ∧
    ((settlingAnswer s).1).tables.job = s.tables.job ∧ ((settlingAnswer s).1).tables.defect = s.tables.defect ∧
    ((settlingAnswer s).1).tables.scheme = s.tables.scheme ∧ ((settlingAnswer s).1).tables.group = s.tables.group ∧
    ((settlingAnswer s).1).tables.bin = s.tables.bin ∧ ((settlingAnswer s).1).acct = s.acct ∧
    ((settlingAnswer s).1).stage = s.stage ∧ ((settlingAnswer s).1).track = s.track ∧
    ((settlingAnswer s).1).feeders = s.feeders ∧ ((settlingAnswer s).1).presort = s.presort ∧
    ((settlingAnswer s).1).line = s.line ∧ ((settlingAnswer s).1).outcomes = s.outcomes ∧
    ((settlingAnswer s).1).draws = s.draws ∧ ((settlingAnswer s).1).pending = s.pending := by simp [settlingAnswer]

@[simp] theorem releaseSkipped_frame (n : Nat) :
    (releaseSkipped n s).pins = s.pins ∧
    (releaseSkipped n s).pitch = s.pitch ∧
    (releaseSkipped n s).loop.mgmtIn = s.loop.mgmtIn ∧
    (releaseSkipped n s).loop.rollSerial = s.loop.rollSerial ∧
    (releaseSkipped n s).loop.returned = s.loop.returned ∧
    (releaseSkipped n s).loop.misses = s.loop.misses ∧
    (releaseSkipped n s).loop.ringBreakUp = s.loop.ringBreakUp ∧
    (releaseSkipped n s).loop.lastMask = s.loop.lastMask ∧
    (releaseSkipped n s).loop.nodeRecs = s.loop.nodeRecs ∧
    (releaseSkipped n s).loop.lastManager = s.loop.lastManager ∧
    (releaseSkipped n s).loop.noticeMask = s.loop.noticeMask ∧
    (releaseSkipped n s).loop.dispatcher = s.loop.dispatcher ∧
    (releaseSkipped n s).tables = s.tables ∧
    (releaseSkipped n s).acct.halfA = s.acct.halfA ∧
    (releaseSkipped n s).acct.tail = s.acct.tail ∧
    (releaseSkipped n s).acct.base = s.acct.base ∧
    (releaseSkipped n s).stage = s.stage ∧
    (releaseSkipped n s).track = s.track ∧
    (releaseSkipped n s).feeders = s.feeders ∧
    (releaseSkipped n s).presort = s.presort ∧
    (releaseSkipped n s).line = s.line ∧
    (releaseSkipped n s).draws = s.draws ∧
    (releaseSkipped n s).pending = s.pending := by
  induction n generalizing s with
  | zero => simp [releaseSkipped]
  | succ n ih =>
    simp only [releaseSkipped]
    split
    · simp
    · rename_i r rest _
      split
      · simpa using ih (bumpRun 1 (writeRecord (.missing r.seq .skippedRelease) (putAcct { s.acct with queue := rest } s)))
      · simp

@[simp] theorem beginHold_frame (r : HoldReason) :
    (beginHold r s).pins = s.pins ∧ (beginHold r s).pitch = s.pitch ∧ (beginHold r s).loop.mgmtIn = s.loop.mgmtIn ∧
    (beginHold r s).loop.rollSerial = s.loop.rollSerial ∧ (beginHold r s).loop.returned = s.loop.returned ∧
    (beginHold r s).loop.misses = s.loop.misses ∧ (beginHold r s).loop.ringBreakUp = s.loop.ringBreakUp ∧
    (beginHold r s).loop.lastMask = s.loop.lastMask ∧ (beginHold r s).loop.nodeRecs = s.loop.nodeRecs ∧
    (beginHold r s).loop.lastManager = s.loop.lastManager ∧ (beginHold r s).loop.noticeMask = s.loop.noticeMask ∧
    (beginHold r s).loop.dispatcher = s.loop.dispatcher ∧ (beginHold r s).tables = s.tables ∧ (beginHold r s).acct = s.acct ∧
    (beginHold r s).stage = s.stage ∧ (beginHold r s).track = s.track ∧ (beginHold r s).feeders = s.feeders ∧
    (beginHold r s).presort = s.presort ∧ (beginHold r s).line = s.line ∧ (beginHold r s).outcomes = s.outcomes ∧
    (beginHold r s).draws = s.draws ∧ (beginHold r s).pending = s.pending := by simp [beginHold]

@[simp] theorem feedHold_frame (r : Option HoldReason) :
    (feedHold r s).pins = s.pins ∧ (feedHold r s).pitch = s.pitch ∧ (feedHold r s).loop.mgmtIn = s.loop.mgmtIn ∧
    (feedHold r s).loop.rollSerial = s.loop.rollSerial ∧ (feedHold r s).loop.returned = s.loop.returned ∧
    (feedHold r s).loop.misses = s.loop.misses ∧ (feedHold r s).loop.ringBreakUp = s.loop.ringBreakUp ∧
    (feedHold r s).loop.lastMask = s.loop.lastMask ∧ (feedHold r s).loop.nodeRecs = s.loop.nodeRecs ∧
    (feedHold r s).loop.lastManager = s.loop.lastManager ∧ (feedHold r s).loop.noticeMask = s.loop.noticeMask ∧
    (feedHold r s).loop.dispatcher = s.loop.dispatcher ∧ (feedHold r s).tables = s.tables ∧
    (feedHold r s).acct.queue = s.acct.queue ∧ (feedHold r s).acct.halfA = s.acct.halfA ∧
    (feedHold r s).acct.tail = s.acct.tail ∧ (feedHold r s).acct.base = s.acct.base ∧ (feedHold r s).stage = s.stage ∧
    (feedHold r s).track = s.track ∧ (feedHold r s).feeders = s.feeders ∧ (feedHold r s).presort = s.presort ∧
    (feedHold r s).line = s.line ∧ (feedHold r s).outcomes = s.outcomes ∧ (feedHold r s).draws = s.draws ∧
    (feedHold r s).pending = s.pending := by
  simp only [feedHold]
  repeat' split
  all_goals simp

@[simp] theorem takeRecord_frame (r : Account) (q : List Account) :
    (takeRecord r q s).pins = s.pins ∧ (takeRecord r q s).pitch.counter = s.pitch.counter ∧
    (takeRecord r q s).pitch.counterValid = s.pitch.counterValid ∧
    (takeRecord r q s).pitch.indexPending = s.pitch.indexPending ∧ (takeRecord r q s).pitch.phase = s.pitch.phase ∧
    (takeRecord r q s).pitch.lastSpan = s.pitch.lastSpan ∧ (takeRecord r q s).pitch.estopAsserted = s.pitch.estopAsserted ∧
    (takeRecord r q s).pitch.releaseTimer = s.pitch.releaseTimer ∧
    (takeRecord r q s).pitch.unexpectedUp = s.pitch.unexpectedUp ∧ (takeRecord r q s).loop.mgmtIn = s.loop.mgmtIn ∧
    (takeRecord r q s).loop.rollSerial = s.loop.rollSerial ∧ (takeRecord r q s).loop.returned = s.loop.returned ∧
    (takeRecord r q s).loop.misses = s.loop.misses ∧ (takeRecord r q s).loop.ringBreakUp = s.loop.ringBreakUp ∧
    (takeRecord r q s).loop.lastMask = s.loop.lastMask ∧ (takeRecord r q s).loop.nodeRecs = s.loop.nodeRecs ∧
    (takeRecord r q s).loop.lastManager = s.loop.lastManager ∧ (takeRecord r q s).loop.noticeMask = s.loop.noticeMask ∧
    (takeRecord r q s).loop.dispatcher = s.loop.dispatcher ∧ (takeRecord r q s).tables.profile = s.tables.profile ∧
    (takeRecord r q s).tables.node = s.tables.node ∧ (takeRecord r q s).tables.job = s.tables.job ∧
    (takeRecord r q s).tables.defect = s.tables.defect ∧ (takeRecord r q s).tables.scheme = s.tables.scheme ∧
    (takeRecord r q s).tables.group = s.tables.group ∧ (takeRecord r q s).tables.bin = s.tables.bin ∧
    (takeRecord r q s).acct.halfA = s.acct.halfA ∧ (takeRecord r q s).acct.tail = s.acct.tail ∧
    (takeRecord r q s).acct.base = s.acct.base ∧ (takeRecord r q s).presort = s.presort ∧
    (takeRecord r q s).line.jammed = s.line.jammed ∧ (takeRecord r q s).line.stationLoss = s.line.stationLoss ∧
    (takeRecord r q s).line.retry = s.line.retry ∧ (takeRecord r q s).draws = s.draws ∧ (takeRecord r q s).pending = s.pending := by
  simp only [takeRecord]
  split
  all_goals simp

@[simp] theorem considerTake_frame :
    (considerTake s).pins = s.pins ∧ (considerTake s).pitch.counter = s.pitch.counter ∧
    (considerTake s).pitch.counterValid = s.pitch.counterValid ∧ (considerTake s).pitch.indexPending = s.pitch.indexPending ∧
    (considerTake s).pitch.phase = s.pitch.phase ∧ (considerTake s).pitch.lastSpan = s.pitch.lastSpan ∧
    (considerTake s).pitch.estopAsserted = s.pitch.estopAsserted ∧
    (considerTake s).pitch.releaseTimer = s.pitch.releaseTimer ∧ (considerTake s).pitch.unexpectedUp = s.pitch.unexpectedUp ∧
    (considerTake s).loop.mgmtIn = s.loop.mgmtIn ∧ (considerTake s).loop.rollSerial = s.loop.rollSerial ∧
    (considerTake s).loop.returned = s.loop.returned ∧ (considerTake s).loop.misses = s.loop.misses ∧
    (considerTake s).loop.ringBreakUp = s.loop.ringBreakUp ∧ (considerTake s).loop.lastMask = s.loop.lastMask ∧
    (considerTake s).loop.nodeRecs = s.loop.nodeRecs ∧ (considerTake s).loop.lastManager = s.loop.lastManager ∧
    (considerTake s).loop.noticeMask = s.loop.noticeMask ∧ (considerTake s).loop.dispatcher = s.loop.dispatcher ∧
    (considerTake s).tables.profile = s.tables.profile ∧ (considerTake s).tables.node = s.tables.node ∧
    (considerTake s).tables.job = s.tables.job ∧ (considerTake s).tables.defect = s.tables.defect ∧
    (considerTake s).tables.scheme = s.tables.scheme ∧ (considerTake s).tables.group = s.tables.group ∧
    (considerTake s).tables.bin = s.tables.bin ∧ (considerTake s).acct.halfA = s.acct.halfA ∧
    (considerTake s).acct.tail = s.acct.tail ∧ (considerTake s).acct.base = s.acct.base ∧
    (considerTake s).presort = s.presort ∧ (considerTake s).line.jammed = s.line.jammed ∧
    (considerTake s).line.stationLoss = s.line.stationLoss ∧ (considerTake s).line.retry = s.line.retry ∧
    (considerTake s).draws = s.draws ∧ (considerTake s).pending = s.pending := by
  simp only [considerTake]
  split
  all_goals simp

@[simp] theorem accountNotice_frame (n : Notice) :
    (accountNotice n s).pins = s.pins ∧ (accountNotice n s).pitch.counter = s.pitch.counter ∧
    (accountNotice n s).pitch.counterValid = s.pitch.counterValid ∧
    (accountNotice n s).pitch.indexPending = s.pitch.indexPending ∧ (accountNotice n s).pitch.phase = s.pitch.phase ∧
    (accountNotice n s).pitch.lastSpan = s.pitch.lastSpan ∧ (accountNotice n s).pitch.estopAsserted = s.pitch.estopAsserted ∧
    (accountNotice n s).pitch.releaseTimer = s.pitch.releaseTimer ∧
    (accountNotice n s).pitch.unexpectedUp = s.pitch.unexpectedUp ∧ (accountNotice n s).loop.mgmtIn = s.loop.mgmtIn ∧
    (accountNotice n s).loop.rollSerial = s.loop.rollSerial ∧ (accountNotice n s).loop.returned = s.loop.returned ∧
    (accountNotice n s).loop.misses = s.loop.misses ∧ (accountNotice n s).loop.ringBreakUp = s.loop.ringBreakUp ∧
    (accountNotice n s).loop.lastMask = s.loop.lastMask ∧ (accountNotice n s).loop.nodeRecs = s.loop.nodeRecs ∧
    (accountNotice n s).loop.lastManager = s.loop.lastManager ∧ (accountNotice n s).loop.noticeMask = s.loop.noticeMask ∧
    (accountNotice n s).loop.dispatcher = s.loop.dispatcher ∧ (accountNotice n s).tables.profile = s.tables.profile ∧
    (accountNotice n s).tables.node = s.tables.node ∧ (accountNotice n s).tables.job = s.tables.job ∧
    (accountNotice n s).tables.defect = s.tables.defect ∧ (accountNotice n s).tables.scheme = s.tables.scheme ∧
    (accountNotice n s).tables.group = s.tables.group ∧ (accountNotice n s).tables.bin = s.tables.bin ∧
    (accountNotice n s).acct.halfA = s.acct.halfA ∧ (accountNotice n s).acct.tail = s.acct.tail ∧
    (accountNotice n s).acct.base = s.acct.base ∧ (accountNotice n s).presort = s.presort ∧
    (accountNotice n s).line.jammed = s.line.jammed ∧ (accountNotice n s).line.stationLoss = s.line.stationLoss ∧
    (accountNotice n s).line.retry = s.line.retry ∧ (accountNotice n s).draws = s.draws ∧
    (accountNotice n s).pending = s.pending := by
  simp only [accountNotice]
  repeat' split
  all_goals simp

@[simp] theorem cleanPitch_frame :
    (cleanPitch s).pins = s.pins ∧ (cleanPitch s).pitch = s.pitch ∧ (cleanPitch s).loop = s.loop ∧
    (cleanPitch s).tables = s.tables ∧ (cleanPitch s).acct = s.acct ∧ (cleanPitch s).stage = s.stage ∧
    (cleanPitch s).track = s.track ∧ (cleanPitch s).feeders = s.feeders ∧ (cleanPitch s).presort = s.presort ∧
    (cleanPitch s).outcomes = s.outcomes ∧ (cleanPitch s).draws = s.draws ∧ (cleanPitch s).pending = s.pending := by
  simp only [cleanPitch]
  split
  all_goals simp

@[simp] theorem lineNotice_frame (n : Notice) :
    (lineNotice n s).pins = s.pins ∧ (lineNotice n s).pitch.counter = s.pitch.counter ∧
    (lineNotice n s).pitch.counterValid = s.pitch.counterValid ∧ (lineNotice n s).pitch.indexPending = s.pitch.indexPending ∧
    (lineNotice n s).pitch.phase = s.pitch.phase ∧ (lineNotice n s).pitch.lastSpan = s.pitch.lastSpan ∧
    (lineNotice n s).pitch.estopAsserted = s.pitch.estopAsserted ∧
    (lineNotice n s).pitch.releaseTimer = s.pitch.releaseTimer ∧ (lineNotice n s).pitch.unexpectedUp = s.pitch.unexpectedUp ∧
    (lineNotice n s).loop.mgmtIn = s.loop.mgmtIn ∧ (lineNotice n s).loop.rollSerial = s.loop.rollSerial ∧
    (lineNotice n s).loop.returned = s.loop.returned ∧ (lineNotice n s).loop.misses = s.loop.misses ∧
    (lineNotice n s).loop.ringBreakUp = s.loop.ringBreakUp ∧ (lineNotice n s).loop.lastMask = s.loop.lastMask ∧
    (lineNotice n s).loop.nodeRecs = s.loop.nodeRecs ∧ (lineNotice n s).loop.lastManager = s.loop.lastManager ∧
    (lineNotice n s).loop.noticeMask = s.loop.noticeMask ∧ (lineNotice n s).loop.dispatcher = s.loop.dispatcher ∧
    (lineNotice n s).tables = s.tables ∧ (lineNotice n s).acct.queue = s.acct.queue ∧
    (lineNotice n s).acct.halfA = s.acct.halfA ∧ (lineNotice n s).acct.tail = s.acct.tail ∧
    (lineNotice n s).acct.base = s.acct.base ∧ (lineNotice n s).stage = s.stage ∧ (lineNotice n s).track = s.track ∧
    (lineNotice n s).feeders = s.feeders ∧ (lineNotice n s).presort = s.presort ∧ (lineNotice n s).outcomes = s.outcomes ∧
    (lineNotice n s).draws = s.draws ∧ (lineNotice n s).pending = s.pending := by
  simp only [lineNotice]
  split
  all_goals simp

@[simp] theorem judgeRoll_frame :
    (judgeRoll s).pins = s.pins ∧ (judgeRoll s).pitch.counter = s.pitch.counter ∧
    (judgeRoll s).pitch.counterValid = s.pitch.counterValid ∧ (judgeRoll s).pitch.indexPending = s.pitch.indexPending ∧
    (judgeRoll s).pitch.phase = s.pitch.phase ∧ (judgeRoll s).pitch.lastSpan = s.pitch.lastSpan ∧
    (judgeRoll s).pitch.estopAsserted = s.pitch.estopAsserted ∧ (judgeRoll s).pitch.releaseTimer = s.pitch.releaseTimer ∧
    (judgeRoll s).pitch.unexpectedUp = s.pitch.unexpectedUp ∧ (judgeRoll s).loop.mgmtIn = s.loop.mgmtIn ∧
    (judgeRoll s).loop.nodeRecs = s.loop.nodeRecs ∧ (judgeRoll s).loop.lastManager = s.loop.lastManager ∧
    (judgeRoll s).loop.noticeMask = s.loop.noticeMask ∧ (judgeRoll s).loop.dispatcher = s.loop.dispatcher ∧
    (judgeRoll s).tables = s.tables ∧ (judgeRoll s).acct.queue = s.acct.queue ∧ (judgeRoll s).acct.halfA = s.acct.halfA ∧
    (judgeRoll s).acct.tail = s.acct.tail ∧ (judgeRoll s).acct.base = s.acct.base ∧ (judgeRoll s).feeders = s.feeders ∧
    (judgeRoll s).presort = s.presort ∧ (judgeRoll s).line.jammed = s.line.jammed ∧
    (judgeRoll s).line.stationLoss = s.line.stationLoss ∧ (judgeRoll s).line.retry = s.line.retry ∧
    (judgeRoll s).outcomes = s.outcomes ∧ (judgeRoll s).draws = s.draws ∧ (judgeRoll s).pending = s.pending := by
  simp only [judgeRoll]
  repeat' split
  all_goals simp

@[simp] theorem makeRoll_keeps (l : LoopIf) :
    (makeRoll l).mgmtIn = l.mgmtIn ∧ (makeRoll l).nodeRecs = l.nodeRecs ∧ (makeRoll l).lastManager = l.lastManager ∧
    (makeRoll l).noticeMask = l.noticeMask ∧ (makeRoll l).dispatcher = l.dispatcher := by simp [makeRoll]

@[simp] theorem rollDue_frame :
    (rollDue s).pins = s.pins ∧ (rollDue s).pitch.counter = s.pitch.counter ∧
    (rollDue s).pitch.counterValid = s.pitch.counterValid ∧ (rollDue s).pitch.indexPending = s.pitch.indexPending ∧
    (rollDue s).pitch.phase = s.pitch.phase ∧ (rollDue s).pitch.lastSpan = s.pitch.lastSpan ∧
    (rollDue s).pitch.estopAsserted = s.pitch.estopAsserted ∧ (rollDue s).pitch.releaseTimer = s.pitch.releaseTimer ∧
    (rollDue s).pitch.unexpectedUp = s.pitch.unexpectedUp ∧ (rollDue s).loop.mgmtIn = s.loop.mgmtIn ∧
    (rollDue s).loop.nodeRecs = s.loop.nodeRecs ∧ (rollDue s).loop.lastManager = s.loop.lastManager ∧
    (rollDue s).loop.noticeMask = s.loop.noticeMask ∧ (rollDue s).loop.dispatcher = s.loop.dispatcher ∧
    (rollDue s).tables = s.tables ∧ (rollDue s).acct.queue = s.acct.queue ∧ (rollDue s).acct.halfA = s.acct.halfA ∧
    (rollDue s).acct.tail = s.acct.tail ∧ (rollDue s).acct.base = s.acct.base ∧ (rollDue s).feeders = s.feeders ∧
    (rollDue s).presort = s.presort ∧ (rollDue s).line.jammed = s.line.jammed ∧
    (rollDue s).line.stationLoss = s.line.stationLoss ∧ (rollDue s).line.retry = s.line.retry ∧
    (rollDue s).outcomes = s.outcomes ∧ (rollDue s).draws = s.draws ∧ (rollDue s).pending = s.pending := by simp [rollDue]

@[simp] theorem receive_frame (n : Notice) (r : Receiver) :
    (receive n s r).pins = s.pins ∧ (receive n s r).pitch.counter = s.pitch.counter ∧
    (receive n s r).pitch.counterValid = s.pitch.counterValid ∧ (receive n s r).pitch.indexPending = s.pitch.indexPending ∧
    (receive n s r).pitch.phase = s.pitch.phase ∧ (receive n s r).pitch.lastSpan = s.pitch.lastSpan ∧
    (receive n s r).pitch.estopAsserted = s.pitch.estopAsserted ∧ (receive n s r).pitch.releaseTimer = s.pitch.releaseTimer ∧
    (receive n s r).pitch.unexpectedUp = s.pitch.unexpectedUp ∧ (receive n s r).loop.mgmtIn = s.loop.mgmtIn ∧
    (receive n s r).loop.nodeRecs = s.loop.nodeRecs ∧ (receive n s r).loop.lastManager = s.loop.lastManager ∧
    (receive n s r).loop.noticeMask = s.loop.noticeMask ∧ (receive n s r).loop.dispatcher = s.loop.dispatcher ∧
    (receive n s r).tables.profile = s.tables.profile ∧ (receive n s r).tables.node = s.tables.node ∧
    (receive n s r).tables.job = s.tables.job ∧ (receive n s r).tables.defect = s.tables.defect ∧
    (receive n s r).tables.scheme = s.tables.scheme ∧ (receive n s r).tables.group = s.tables.group ∧
    (receive n s r).tables.bin = s.tables.bin ∧ (receive n s r).acct.halfA = s.acct.halfA ∧
    (receive n s r).acct.tail = s.acct.tail ∧ (receive n s r).acct.base = s.acct.base ∧ (receive n s r).draws = s.draws ∧
    (receive n s r).pending = s.pending := by
  cases r <;> simp only [receive] <;> (repeat' split) <;> simp

@[simp] theorem handOn_frame (n : Notice) (l : List Receiver) :
    (handOn n l s).pins = s.pins ∧ (handOn n l s).pitch.counter = s.pitch.counter ∧
    (handOn n l s).pitch.counterValid = s.pitch.counterValid ∧ (handOn n l s).pitch.indexPending = s.pitch.indexPending ∧
    (handOn n l s).pitch.phase = s.pitch.phase ∧ (handOn n l s).pitch.lastSpan = s.pitch.lastSpan ∧
    (handOn n l s).pitch.estopAsserted = s.pitch.estopAsserted ∧ (handOn n l s).pitch.releaseTimer = s.pitch.releaseTimer ∧
    (handOn n l s).pitch.unexpectedUp = s.pitch.unexpectedUp ∧ (handOn n l s).loop.mgmtIn = s.loop.mgmtIn ∧
    (handOn n l s).loop.nodeRecs = s.loop.nodeRecs ∧ (handOn n l s).loop.lastManager = s.loop.lastManager ∧
    (handOn n l s).loop.noticeMask = s.loop.noticeMask ∧ (handOn n l s).loop.dispatcher = s.loop.dispatcher ∧
    (handOn n l s).tables.profile = s.tables.profile ∧ (handOn n l s).tables.node = s.tables.node ∧
    (handOn n l s).tables.job = s.tables.job ∧ (handOn n l s).tables.defect = s.tables.defect ∧
    (handOn n l s).tables.scheme = s.tables.scheme ∧ (handOn n l s).tables.group = s.tables.group ∧
    (handOn n l s).tables.bin = s.tables.bin ∧ (handOn n l s).acct.halfA = s.acct.halfA ∧
    (handOn n l s).acct.tail = s.acct.tail ∧ (handOn n l s).acct.base = s.acct.base ∧ (handOn n l s).draws = s.draws ∧
    (handOn n l s).pending = s.pending := by
  unfold handOn
  exact ⟨foldl_keeps (fun t : State => t.pins) _ (by simp) _ _,
    foldl_keeps (fun t : State => t.pitch.counter) _ (by simp) _ _,
    foldl_keeps (fun t : State => t.pitch.counterValid) _ (by simp) _ _,
    foldl_keeps (fun t : State => t.pitch.indexPending) _ (by simp) _ _,
    foldl_keeps (fun t : State => t.pitch.phase) _ (by simp) _ _,
    foldl_keeps (fun t : State => t.pitch.lastSpan) _ (by simp) _ _,
    foldl_keeps (fun t : State => t.pitch.estopAsserted) _ (by simp) _ _,
    foldl_keeps (fun t : State => t.pitch.releaseTimer) _ (by simp) _ _,
    foldl_keeps (fun t : State => t.pitch.unexpectedUp) _ (by simp) _ _,
    foldl_keeps (fun t : State => t.loop.mgmtIn) _ (by simp) _ _,
    foldl_keeps (fun t : State => t.loop.nodeRecs) _ (by simp) _ _,
    foldl_keeps (fun t : State => t.loop.lastManager) _ (by simp) _ _,
    foldl_keeps (fun t : State => t.loop.noticeMask) _ (by simp) _ _,
    foldl_keeps (fun t : State => t.loop.dispatcher) _ (by simp) _ _,
    foldl_keeps (fun t : State => t.tables.profile) _ (by simp) _ _,
    foldl_keeps (fun t : State => t.tables.node) _ (by simp) _ _,
    foldl_keeps (fun t : State => t.tables.job) _ (by simp) _ _,
    foldl_keeps (fun t : State => t.tables.defect) _ (by simp) _ _,
    foldl_keeps (fun t : State => t.tables.scheme) _ (by simp) _ _,
    foldl_keeps (fun t : State => t.tables.group) _ (by simp) _ _,
    foldl_keeps (fun t : State => t.tables.bin) _ (by simp) _ _,
    foldl_keeps (fun t : State => t.acct.halfA) _ (by simp) _ _,
    foldl_keeps (fun t : State => t.acct.tail) _ (by simp) _ _,
    foldl_keeps (fun t : State => t.acct.base) _ (by simp) _ _,
    foldl_keeps (fun t : State => t.draws) _ (by simp) _ _,
    foldl_keeps (fun t : State => t.pending) _ (by simp) _ _⟩

end Sys2Proof.Machine
end

