-- ==== Sys2Proof/Laws/Drive.lean ====
section
/-! SUPPORT. The drive outputs follow the line state (R13): what each operation does to the pair. -/

namespace Sys2Proof.Machine

variable (s : State)

@[simp] theorem takeRaising_state (k : LatchKind) (a b : Nat) : (takeRaising k a b s).line.state = s.line.state := by
  simp [takeRaising]

@[simp] theorem endWait_state (b : State) : (endWait b s).line.state = s.line.state := by simp only [endWait]; split <;> simp

@[simp] theorem lower_state (k : LatchKind) : (lower k s).line.state = s.line.state := by
  simp only [lower]; split <;> simp

@[simp] theorem lowerTiming_state (o n : LineState) : (lowerTiming o n s).line.state = s.line.state := by
  simp only [lowerTiming]; split <;> simp

@[simp] theorem startSearch_drive (n : LineState) :
    (startSearch n s).pitch.driveEn = s.pitch.driveEn ∧ (startSearch n s).pitch.driveCrawl = s.pitch.driveCrawl := by
  simp only [startSearch]; split <;> simp

theorem driveOutputs_drive :
    (driveOutputs s).pitch.driveEn = wantEn s ∧ (driveOutputs s).pitch.driveCrawl = wantCrawl s ∧
    (driveOutputs s).line.state = s.line.state := by
  unfold driveOutputs
  dsimp only
  repeat' split
  all_goals simp

@[simp] theorem lowerDriveRate_drive (b : Bool) :
    (lowerDriveRate b s).pitch.driveEn = s.pitch.driveEn ∧ (lowerDriveRate b s).pitch.driveCrawl = s.pitch.driveCrawl ∧
    (lowerDriveRate b s).line.state = s.line.state := by
  simp only [lowerDriveRate]; split <;> simp

/-- The Pitch Unit's outputs after it takes the line state and the ESTOP_N level (R13). -/
@[simp] theorem updateDrive_drive :
    (updateDrive s).pitch.driveEn = wantEn s ∧ (updateDrive s).pitch.driveCrawl = wantCrawl s ∧
    (updateDrive s).line.state = s.line.state := by
  simp [updateDrive, driveOutputs_drive]

/-- A change of line state leaves the new state, and the outputs that R13 asks for (R13, R145). -/
@[simp] theorem setLine_drive (n : LineState) (c : Nat) :
    (setLine n c s).line.state = n ∧ (setLine n c s).pitch.driveEn = (driveState n && !s.pitch.estopAsserted) ∧
    (setLine n c s).pitch.driveCrawl = (driveState n && !s.pitch.estopAsserted && n == .priming) := by
  simp only [setLine]
  split <;> simp [wantEn, wantCrawl]

theorem driveOk_updateDrive : DriveFollowsLine (updateDrive s) := by
  simp [driveOk, wantEn, wantCrawl]

theorem driveOk_setLine (n : LineState) (c : Nat) : DriveFollowsLine (setLine n c s) := by simp [driveOk]

variable {s}

@[simp] theorem enterRecovery_ok (c : Nat) (h : DriveFollowsLine s) : DriveFollowsLine (enterRecovery c s) := by
  simp [enterRecovery, driveOk]

@[simp] theorem endPriming_ok (h : DriveFollowsLine s) : DriveFollowsLine (endPriming s) := by
  simp only [endPriming]
  repeat' split
  all_goals simp_all [driveOk]

@[simp] theorem takeReports_ok (h : DriveFollowsLine s) : DriveFollowsLine (takeReports s) := by
  simp only [takeReports]
  exact endPriming_ok (by simpa using h)

@[simp] theorem respondRecovery_ok (c : Nat) (h : DriveFollowsLine s) : DriveFollowsLine (respondRecovery c s) := by
  simp only [respondRecovery]
  split
  · exact enterRecovery_ok _ h
  · exact h

@[simp] theorem respondEstop_ok (h : DriveFollowsLine s) : DriveFollowsLine (respondEstop s) := by
  simp only [respondEstop]
  repeat' split
  all_goals simp_all [driveOk]

@[simp] theorem respondEssential_ok (h : DriveFollowsLine s) : DriveFollowsLine (respondEssential s) := by
  simp only [respondEssential]
  repeat' split
  all_goals simp_all [driveOk]

@[simp] theorem respondGroup_ok (h : DriveFollowsLine s) : DriveFollowsLine (respondGroup s) := by
  simp only [respondGroup]
  repeat' split
  all_goals simp_all [driveOk]

end Sys2Proof.Machine
end

