-- ==== Sys2Proof/Laws/Latches.lean ====
section
/-! SUPPORT. What each operation of the line does to each latch (R153): the get and put lemma, and which latches an operation leaves. -/

namespace Sys2Proof.Machine

variable (s : State)

theorem latchIdx_lt (k : LatchKind) : latchIdx k < 14 := by cases k <;> decide

theorem latchIdx_inj (k j : LatchKind) : latchIdx k = latchIdx j ↔ k = j := by cases k <;> cases j <;> decide

/-- Reading a latch after one was replaced. -/
@[simp] theorem latch_putLatch (j k : LatchKind) (l : Latch) : latch j (putLatch k l s) = if j = k then l else latch j s := by
  simp only [latch, putLatch, vget, vset, latchIdx_lt, dif_pos]
  rw [Vector.getElem_setIfInBounds]
  simp only [latchIdx_inj, eq_comm]

/-- A latch depends on the latch table only. -/
theorem latch_of {s t : State} (k : LatchKind) (h : t.line.latches = s.line.latches) : latch k t = latch k s := by
  simp only [latch, h]

@[simp] theorem latch_notice (j : LatchKind) (c : Nat) (d : List Byte) : latch j (notice c d s) = latch j s :=
  latch_of j (by simp)

@[simp] theorem latch_endWait (b : State) (j : LatchKind) : latch j (endWait b s) = latch j s := by
  simp only [endWait]
  split <;> rfl

/-- A lowering makes an ACTIVE latch LATCHED and touches no other (R153). -/
theorem latch_lower (j k : LatchKind) :
    latch j (lower k s) = if j = k ∧ up k s = true then { latch k s with state := .latched } else latch j s := by
  simp only [lower]
  split
  · rename_i h
    simp only [latch_putLatch, h, and_true]
  · rename_i h
    simp [h]

@[simp] theorem latch_lower_of_ne {j k : LatchKind} (h : j ≠ k) : latch j (lower k s) = latch j s := by
  rw [latch_lower, if_neg (fun e => h e.1)]

/-- A raising makes its latch ACTIVE with the next occurrence and touches no other (R153). -/
@[simp] theorem latch_takeRaising (j k : LatchKind) (a b : Nat) :
    latch j (takeRaising k a b s) = if j = k then (latch k s).raised a b else latch j s := by
  simp only [takeRaising, latch_notice]
  exact latch_putLatch s j k _

@[simp] theorem latch_driveOutputs (j : LatchKind) : latch j (driveOutputs s) = latch j s := by
  refine latch_of j ?_
  simp only [driveOutputs]
  split <;> rfl

theorem latch_updateDrive {j : LatchKind} (h : j ≠ .driveRate) : latch j (updateDrive s) = latch j s := by
  simp only [updateDrive, lowerDriveRate]
  split
  · rw [latch_lower_of_ne _ h]
    exact latch_driveOutputs s j
  · exact latch_driveOutputs s j

theorem latch_lowerTiming {j : LatchKind} (o n : LineState) (h : j ≠ .stationTiming) : latch j (lowerTiming o n s) = latch j s := by
  simp only [lowerTiming]
  split
  · exact latch_lower_of_ne s h
  · rfl

@[simp] theorem latch_endFeedHold (j : LatchKind) : latch j (endFeedHold s) = latch j s := by
  simp only [endFeedHold]
  split
  · exact latch_notice _ j _ _
  · rfl

@[simp] theorem latch_startSearch (j : LatchKind) (n : LineState) : latch j (startSearch n s) = latch j s := by
  simp only [startSearch]
  split <;> rfl

/-- A change of line state touches no latch but DRIVE RATE and STATION TIMING, which it may lower (R12, R145). -/
theorem latch_setLine {j : LatchKind} (n : LineState) (c : Nat) (h : j ≠ .driveRate) (k : j ≠ .stationTiming) :
    latch j (setLine n c s) = latch j s := by
  simp only [setLine, latch_notice]
  split
  · rw [latch_endFeedHold, latch_startSearch, latch_updateDrive _ h, latch_lowerTiming _ _ _ k]
    rfl
  · rw [latch_startSearch, latch_updateDrive _ h, latch_lowerTiming _ _ _ k]
    rfl

@[simp] theorem latch_suspectAll (j : LatchKind) : latch j (suspectAll s) = latch j s := rfl

theorem latch_enterRecovery {j : LatchKind} (c : Nat) (h : j ≠ .driveRate) (k : j ≠ .stationTiming) :
    latch j (enterRecovery c s) = latch j s := by
  simp only [enterRecovery]
  exact latch_setLine s .recovery c h k

/-- The line's response to a raising touches no latch but DRIVE RATE and STATION TIMING (R155). -/
theorem latch_respond {j : LatchKind} (i : LatchKind) (r : Option Role) (h : j ≠ .driveRate) (k : j ≠ .stationTiming) :
    latch j (respond i r s) = latch j s := by
  have recov : ∀ c : Nat, latch j (respondRecovery c s) = latch j s := by
    intro c
    simp only [respondRecovery]
    split
    · exact latch_enterRecovery s c h k
    · rfl
  cases i <;> simp only [respond]
  case estop =>
    simp only [respondEstop]
    split <;> first | rw [latch_setLine _ _ _ h k, latch_suspectAll] | rw [latch_setLine _ _ _ h k] | exact latch_of j rfl
  case nodeLost =>
    split
    · exact recov _
    · rfl
  case essentialLost =>
    simp only [respondEssential]
    repeat' split
    all_goals first | rw [latch_setLine _ _ _ h k] | exact latch_of j rfl
  case retriesExhausted =>
    split
    · exact latch_setLine _ _ _ h k
    · rfl
  case groupExhausted =>
    simp only [respondGroup]
    split
    all_goals first | rw [latch_setLine _ _ _ h k] | exact latch_of j rfl
  all_goals exact recov _

/-- A raising of a kind other than DRIVE RATE and STATION TIMING: its latch is ACTIVE with the next occurrence; no other latch but
those two changes (R153, R155). -/
theorem latch_raiseFor {i j : LatchKind} (r : Option Role) (a b : Nat) (h : j ≠ .driveRate) (k : j ≠ .stationTiming) :
    latch j (raiseFor r i a b s) = if j = i then (latch i s).raised a b else latch j s := by
  simp only [raiseFor]
  split
  · rw [latch_lower_of_ne _ (by rename_i e; rw [e.1]; exact k), latch_respond _ _ _ h k, latch_takeRaising]
  · rw [latch_respond _ _ _ h k, latch_takeRaising]

theorem latch_raise {i j : LatchKind} (a b : Nat) (h : j ≠ .driveRate) (k : j ≠ .stationTiming) :
    latch j (raise i a b s) = if j = i then (latch i s).raised a b else latch j s :=
  latch_raiseFor s none a b h k

/-- The loop after a lowering. -/
theorem lower_loop (k : LatchKind) : (lower k s).loop = s.loop := by simp

/-- The outputs' change touches the loop in the roll timer only (R21). -/
theorem updateDrive_loop : ∃ t, (updateDrive s).loop = { s.loop with rollTimer := t } := by
  refine ⟨(driveOutputs s).loop.rollTimer, ?_⟩
  simp only [updateDrive, lowerDriveRate]
  split
  · rw [lower_loop]; rfl
  · rfl

end Sys2Proof.Machine
end

