-- ==== Sys2Proof/Laws/LineMove.lean ====
section
/-! SUPPORT. A change of line state, field by field (R11, R12, R13, R145, R162). -/

namespace Sys2Proof.Machine

variable (s : State)

/-- A lowering leaves the line's own record (R153). -/
theorem lower_line (k : LatchKind) :
    (lower k s).line.prev = s.line.prev ∧ (lower k s).line.lastCause = s.line.lastCause ∧
    (lower k s).line.drainPending = s.line.drainPending ∧ (lower k s).line.clean = s.line.clean ∧
    (lower k s).line.counterValid = s.line.counterValid ∧ (lower k s).line.meterValid = s.line.meterValid ∧
    (lower k s).line.phase = s.line.phase ∧ (lower k s).line.holdLeft = s.line.holdLeft := by
  simp only [lower]
  split <;> exact ⟨rfl, rfl, rfl, rfl, rfl, rfl, rfl, rfl⟩

/-- The judgement of WAIT leaves the line's own record but for the recovery phase and its hold (R158). -/
theorem endWait_line (b : State) :
    (endWait b s).line.prev = s.line.prev ∧ (endWait b s).line.lastCause = s.line.lastCause ∧
    (endWait b s).line.drainPending = s.line.drainPending ∧ (endWait b s).line.clean = s.line.clean ∧
    (endWait b s).line.counterValid = s.line.counterValid ∧ (endWait b s).line.meterValid = s.line.meterValid := by
  simp only [endWait]
  split <;> exact ⟨rfl, rfl, rfl, rfl, rfl, rfl⟩

/-- Outside WAIT, or where the event has left the recovery conditions as they were, nothing is judged (R158). -/
theorem endWait_none (b : State) (h : s.line.phase ≠ .wait ∨ recoveryCondition s = recoveryCondition b) : endWait b s = s := by
  simp only [endWait]
  rw [if_neg]
  rintro ⟨w, c, d⟩
  rcases h with h | h
  · exact h w
  · rw [d, c] at h
    cases h

/-- The outputs' change: what it does to the meter, the roll timer and the reported meter validity (R11, R21). -/
theorem driveOutputs_meter :
    (driveOutputs s).pitch.meter =
      (if s.pitch.driveEn != wantEn s || (wantEn s && s.pitch.driveCrawl != wantCrawl s) then [] else s.pitch.meter) ∧
    (driveOutputs s).pitch.driveRateUp = s.pitch.driveRateUp ∧
    (driveOutputs s).line.prev = s.line.prev ∧ (driveOutputs s).line.lastCause = s.line.lastCause ∧
    (driveOutputs s).line.drainPending = s.line.drainPending ∧ (driveOutputs s).line.clean = s.line.clean ∧
    (driveOutputs s).line.phase = s.line.phase ∧ (driveOutputs s).line.holdLeft = s.line.holdLeft ∧
    (driveOutputs s).line.latches = s.line.latches := by
  simp only [driveOutputs]
  split <;> simp

/-- The search count is not the outputs' (R7). -/
theorem updateDrive_searchCount : (updateDrive s).pitch.searchCount = s.pitch.searchCount := by
  have h : (driveOutputs s).pitch.searchCount = s.pitch.searchCount := by
    simp only [driveOutputs]
    split <;> rfl
  simp only [updateDrive, lowerDriveRate]
  split
  · rw [(lower_frame _ _).2.1]
    exact h
  · exact h

/-- The outputs' change as the Pitch Unit takes it: the line's own record is left, DRIVE RATE is lowered with the drive going off
(R12). -/
theorem updateDrive_line :
    (updateDrive s).line.prev = s.line.prev ∧ (updateDrive s).line.lastCause = s.line.lastCause ∧
    (updateDrive s).line.drainPending = s.line.drainPending ∧ (updateDrive s).line.clean = s.line.clean ∧
    (updateDrive s).pitch.meter =
      (if s.pitch.driveEn != wantEn s || (wantEn s && s.pitch.driveCrawl != wantCrawl s) then [] else s.pitch.meter) ∧
    (updateDrive s).pitch.driveRateUp = (s.pitch.driveRateUp && !(s.pitch.driveEn && !wantEn s)) ∧
    (updateDrive s).line.phase = s.line.phase ∧ (updateDrive s).line.holdLeft = s.line.holdLeft := by
  obtain ⟨m1, m2, m3, m4, m5, m6, m7, m8, -⟩ := driveOutputs_meter s
  have en := (driveOutputs_drive s).1
  simp only [updateDrive, lowerDriveRate]
  split
  · rename_i h
    obtain ⟨l1, l2, l3, l4, -, -, l7, l8⟩ :=
      lower_line { driveOutputs s with pitch := { (driveOutputs s).pitch with driveRateUp := false } } .driveRate
    refine ⟨l1.trans m3, l2.trans m4, l3.trans m5, l4.trans m6, ?_, ?_, l7.trans m7, l8.trans m8⟩
    · rw [(lower_frame _ _).2.1]
      exact m1
    · rw [(lower_frame _ _).2.1]
      simp only [Bool.and_eq_true, en, Bool.not_eq_true'] at h
      simp [h]
  · rename_i h
    refine ⟨m3, m4, m5, m6, m1, ?_, m7, m8⟩
    rw [m2]
    simp only [Bool.and_eq_true, en, m2, Bool.not_eq_true', not_and, Bool.not_eq_true] at h
    cases a : s.pitch.driveEn <;> cases b : wantEn s <;> simp_all

/-- A change of line state, field by field: the record of the change (R145, R162), and the meter, which is emptied when an output
changes (R11). -/
theorem setLine_record (n : LineState) (c : Nat) :
    (setLine n c s).line.prev = s.line.state ∧ (setLine n c s).line.lastCause = c ∧
    (setLine n c s).line.drainPending = (if stoppedLine n || n == .lockout then false else s.line.drainPending) ∧
    (setLine n c s).line.clean = (if n = .running then 0 else s.line.clean) ∧
    (n ≠ .recovery → (setLine n c s).line.phase = .none ∧ (setLine n c s).line.holdLeft = 0) ∧
    (setLine n c s).pitch.meter =
      (let en := driveState n && !s.pitch.estopAsserted
       let crawl := en && n == .priming
       if s.pitch.driveEn != en || (en && s.pitch.driveCrawl != crawl) then [] else s.pitch.meter) ∧
    (setLine n c s).pitch.driveRateUp =
      (s.pitch.driveRateUp && !(s.pitch.driveEn && !(driveState n && !s.pitch.estopAsserted))) ∧
    (setLine n c s).pitch.searchCount = (if n = .priming then 0 else s.pitch.searchCount) := by
  let a : State := { s with line := lineChanged n c s.line }
  let b := lowerTiming s.line.state n a
  have lt : b.line.prev = s.line.state ∧ b.line.lastCause = c ∧
      b.line.drainPending = (if stoppedLine n || n == .lockout then false else s.line.drainPending) ∧
      b.line.clean = (if n = .running then 0 else s.line.clean) ∧
      (n ≠ .recovery → b.line.phase = .none ∧ b.line.holdLeft = 0) ∧ b.pitch = s.pitch ∧ b.line.state = n := by
    have base : n ≠ .recovery → a.line.phase = .none ∧ a.line.holdLeft = 0 := fun h => by simp [a, lineChanged, h]
    simp only [b, lowerTiming]
    split
    · obtain ⟨l1, l2, l3, l4, -, -, l7, l8⟩ := lower_line a .stationTiming
      exact ⟨l1, l2, l3, l4, fun h => ⟨l7.trans (base h).1, l8.trans (base h).2⟩, by simp; rfl, by simp; rfl⟩
    · exact ⟨rfl, rfl, rfl, rfl, base, rfl, rfl⟩
  obtain ⟨b1, b2, b3, b4, b5, b6, b7⟩ := lt
  obtain ⟨u1, u2, u3, u4, u5, u6, u7, u8⟩ := updateDrive_line b
  have we : wantEn b = (driveState n && !s.pitch.estopAsserted) := by simp [wantEn, b6, b7]
  have wc : wantCrawl b = (driveState n && !s.pitch.estopAsserted && n == .priming) := by simp [wantCrawl, we, b7]
  have sc : (updateDrive b).pitch.searchCount = s.pitch.searchCount := by
    rw [updateDrive_searchCount, b6]
  let d := startSearch n (updateDrive b)
  have dl : d.line = (updateDrive b).line ∧ d.pitch.meter = (updateDrive b).pitch.meter ∧
      d.pitch.driveRateUp = (updateDrive b).pitch.driveRateUp ∧
      d.pitch.searchCount = (if n = .priming then 0 else s.pitch.searchCount) := by
    simp only [d, startSearch]
    split <;> simp_all
  obtain ⟨d1, d2, d3, d4⟩ := dl
  have key : (setLine n c s).line = d.line ∧ (setLine n c s).pitch = d.pitch := by
    simp only [setLine]
    split
    · simp [d, b, a]
    · simp [d, b, a]
  rw [key.1, key.2, d1, d2, d3, d4, u1, u2, u3, u4, u5, u6, b1, b2, b3, b4, b6, we, wc]
  exact ⟨rfl, rfl, rfl, rfl, fun h => ⟨u7.trans (b5 h).1, u8.trans (b5 h).2⟩, rfl, rfl, rfl⟩

/-- After a lowering the condition is not up. -/
theorem up_lower (k : LatchKind) : up k (lower k s) = false := by
  simp only [up]
  rw [latch_lower]
  split
  · rfl
  · rename_i h
    simpa [up] using h

/-- When the drive goes off with DRIVE RATE up, the condition is lowered (R12). -/
theorem up_driveRate_updateDrive (h1 : s.pitch.driveEn = true) (h2 : s.pitch.driveRateUp = true) (h3 : wantEn s = false) :
    up .driveRate (updateDrive s) = false := by
  have en := (driveOutputs_drive s).1
  have du := (driveOutputs_meter s).2.1
  simp only [updateDrive, lowerDriveRate, h1, en, h3, du, h2]
  exact up_lower _ _

theorem up_driveRate_setLine (n : LineState) (c : Nat) (h1 : s.pitch.driveEn = true) (h2 : s.pitch.driveRateUp = true)
    (h3 : driveState n = false) : up .driveRate (setLine n c s) = false := by
  have k : up .driveRate (updateDrive (lowerTiming s.line.state n { s with line := lineChanged n c s.line })) = false := by
    have e : (lowerTiming s.line.state n { s with line := lineChanged n c s.line }).pitch = s.pitch := by
      simp only [lowerTiming]
      split <;> simp
    refine up_driveRate_updateDrive _ (by rw [e]; exact h1) (by rw [e]; exact h2) ?_
    simp [wantEn, lineChanged, h3]
  simp only [up] at k ⊢
  simp only [setLine, latch_notice]
  split
  · simpa using k
  · simpa using k

end Sys2Proof.Machine
end

