-- ==== Sys2Proof/Laws/LoopFrames.lean ====
section
/-! SUPPORT. What the presence check and the bookkeeping of station reports leave (R19, R22, R23). -/

namespace Sys2Proof.Machine

variable (s : State)

/-- A field the presence check leaves, as one predicate: t keeps what s holds of the roll tracker, the tables, the queue of accounts. -/
structure PresenceKeeps (s t : State) : Prop where
  pins : t.pins = s.pins
  returned : t.loop.returned = s.loop.returned
  lastMask : t.loop.lastMask = s.loop.lastMask
  misses : t.loop.misses = s.loop.misses
  ringBreakUp : t.loop.ringBreakUp = s.loop.ringBreakUp
  rollSerial : t.loop.rollSerial = s.loop.rollSerial
  mgmtIn : t.loop.mgmtIn = s.loop.mgmtIn
  tables : t.tables = s.tables
  queue : t.acct.queue = s.acct.queue
  presort : t.presort = s.presort
  outcomes : t.outcomes = s.outcomes
  pending : t.pending = s.pending

theorem PresenceKeeps.refl : PresenceKeeps s s := ⟨rfl, rfl, rfl, rfl, rfl, rfl, rfl, rfl, rfl, rfl, rfl, rfl⟩

variable {s}

theorem PresenceKeeps.trans {t u : State} (h : PresenceKeeps s t) (k : PresenceKeeps t u) : PresenceKeeps s u :=
  ⟨k.pins.trans h.pins, k.returned.trans h.returned, k.lastMask.trans h.lastMask, k.misses.trans h.misses,
    k.ringBreakUp.trans h.ringBreakUp, k.rollSerial.trans h.rollSerial, k.mgmtIn.trans h.mgmtIn, k.tables.trans h.tables,
    k.queue.trans h.queue, k.presort.trans h.presort, k.outcomes.trans h.outcomes, k.pending.trans h.pending⟩

variable (s)

theorem feederBecomes_presence (k : Nat) (t : FeederState) : PresenceKeeps s (feederBecomes k t s) := by
  constructor <;> simp

theorem lower_presence (k : LatchKind) : PresenceKeeps s (lower k s) := by constructor <;> simp

theorem raiseFor_presence (r : Option Role) (k : LatchKind) (a b : Nat) : PresenceKeeps s (raiseFor r k a b s) := by
  constructor <;> simp

theorem nodeSeen_presence (n : NodeEntry) : PresenceKeeps s (nodeSeen n s) := by
  have h1 : PresenceKeeps s (stationSeen n s) := ⟨rfl, rfl, rfl, rfl, rfl, rfl, rfl, rfl, rfl, rfl, rfl, rfl⟩
  have h2 : ∀ u, PresenceKeeps u (feederNodeSeen n.feeder u) := by
    intro u
    simp only [feederNodeSeen]
    split
    · exact feederBecomes_presence u _ _
    · exact PresenceKeeps.refl u
  simp only [nodeSeen]
  repeat' split
  · exact h1.trans (h2 _)
  · exact (h1.trans (h2 _)).trans (lower_presence _ _)
  · exact h1
  · exact h1.trans (lower_presence _ _)

theorem nodeGone_presence (n : NodeEntry) : PresenceKeeps s (nodeGone n s) := by
  have h2 : ∀ u, PresenceKeeps u (feederNodeLost n.feeder u) := by
    intro u
    simp only [feederNodeLost]
    split
    · exact PresenceKeeps.refl u
    · exact feederBecomes_presence u _ _
  have h1 : ∀ l, PresenceKeeps s { s with line := l } := fun l => ⟨rfl, rfl, rfl, rfl, rfl, rfl, rfl, rfl, rfl, rfl, rfl, rfl⟩
  simp only [nodeGone]
  repeat' split
  · exact ((h1 _).trans (raiseFor_presence _ _ _ _ _)).trans (h2 _)
  · exact (raiseFor_presence _ _ _ _ _).trans (h2 _)
  · exact (h1 _).trans (raiseFor_presence _ _ _ _ _)
  · exact raiseFor_presence _ _ _ _ _

theorem judgeNode_presence (i : Nat) (n : NodeEntry) (b : Bool) : PresenceKeeps s (judgeNode i n b s) := by
  have h1 : ∀ r, PresenceKeeps s (putNodeRec i r s) := fun r => ⟨rfl, rfl, rfl, rfl, rfl, rfl, rfl, rfl, rfl, rfl, rfl, rfl⟩
  simp only [judgeNode]
  repeat' split
  · exact PresenceKeeps.refl s
  · exact (h1 _).trans (nodeSeen_presence _ _)
  · exact h1 _
  · exact (h1 _).trans (nodeGone_presence _ _)
  · exact h1 _

theorem checkPresence_presence (m : BitVec 64) (i : Nat) (l : List NodeEntry) : PresenceKeeps s (checkPresence m i l s) := by
  induction l generalizing i s with
  | nil => exact PresenceKeeps.refl s
  | cons n l ih => exact (judgeNode_presence s i n _).trans (ih _ _)

/-- The raising of NODE LOST and the seeing of a node leave the node records. -/
theorem nodeSeen_nodeRecs (n : NodeEntry) : (nodeSeen n s).loop.nodeRecs = s.loop.nodeRecs := by
  have h1 : (stationSeen n s).loop.nodeRecs = s.loop.nodeRecs := rfl
  simp only [nodeSeen]
  repeat' split
  all_goals simp [h1]

theorem nodeGone_nodeRecs (n : NodeEntry) : (nodeGone n s).loop.nodeRecs = s.loop.nodeRecs := by
  simp only [nodeGone]
  repeat' split
  all_goals simp

/-- What one judging does to the node records: the judged record alone changes, to what R23 states. -/
theorem judgeNode_nodeRecs (i : Nat) (n : NodeEntry) (seen : Bool) : (judgeNode i n seen s).loop.nodeRecs =
    s.loop.nodeRecs.modify i fun r =>
      if seen then { r with absent := 0, lost := false }
      else if satInc 3 r.absent = 3 ∧ r.lost = false then { absent := 3, lost := true, status := none }
      else { r with absent := satInc 3 r.absent } := by
  simp only [judgeNode]
  cases h : s.loop.nodeRecs[i]? with
  | none => rw [List.modify_eq_self (List.getElem?_eq_none_iff.1 h)]
  | some r =>
    obtain ⟨hl, rfl⟩ := List.getElem?_eq_some_iff.1 h
    have e : ∀ f : NodeRec → NodeRec, s.loop.nodeRecs.modify i f = s.loop.nodeRecs.set i (f s.loop.nodeRecs[i]) := by
      intro f
      apply List.ext_getElem?
      intro j
      rw [List.getElem?_modify, List.getElem?_set]
      split
      · rename_i q; subst q; simp [hl]
      · simp
    rw [e]
    dsimp only
    split
    · split
      · rw [nodeSeen_nodeRecs]; rfl
      · rfl
    · split
      · rename_i q
        rw [nodeGone_nodeRecs, q.1]
        rfl
      · rfl

/-- The presence check judges the entries one by one, in table order (R23, log 27). -/
theorem checkPresence_fold (m : BitVec 64) (i : Nat) (l : List NodeEntry) :
    checkPresence m i l s = (l.zipIdx i).foldl (fun v p => judgeNode p.2 p.1 (m.getLsbD p.1.addr) v) s := by
  induction l generalizing i s with
  | nil => rfl
  | cons n l ih => rw [List.zipIdx_cons, List.foldl_cons]; exact ih _ _

/-- Each node record after the presence check: as judged against its own bit (R23). -/
theorem checkPresence_nodeRecs (m : BitVec 64) (i : Nat) (l : List NodeEntry) (j : Nat) :
    (checkPresence m i l s).loop.nodeRecs[j]? =
      (match l[j - i]? with
       | some n => if i ≤ j then (judgeNode j n (m.getLsbD n.addr) s).loop.nodeRecs[j]? else s.loop.nodeRecs[j]?
       | none => s.loop.nodeRecs[j]?) := by
  induction l generalizing i s with
  | nil => simp [checkPresence]
  | cons n l ih =>
    rw [checkPresence, ih]
    rcases Nat.lt_trichotomy j i with a | a | a
    · have z : j - (i + 1) = 0 := by omega
      have y : j - i = 0 := by omega
      rw [y, z]
      cases l[0]? <;> simp [judgeNode_nodeRecs, List.getElem?_modify, show ¬ i + 1 ≤ j by omega, show ¬ i ≤ j by omega, show i ≠ j by omega]
    · subst a
      simp only [Nat.sub_self, List.getElem?_cons_zero, Nat.le_refl, if_true]
      cases l[j - (j + 1)]? <;> simp
    · have y : j - i = (j - (i + 1)) + 1 := by omega
      rw [y, List.getElem?_cons_succ]
      cases l[j - (i + 1)]? <;>
        simp [judgeNode_nodeRecs, List.getElem?_modify, show i + 1 ≤ j by omega, show i ≤ j by omega, show i ≠ j by omega]

end Sys2Proof.Machine
end

