-- ==== Sys2Proof/Laws/Keeps.lean ====
section
/-! SUPPORT. One closure property for invariants: what every operation of the part is made of. A property closed under the updates below
is kept by every operation and by every command. -/

namespace Sys2Proof.Machine

/-- P is kept by the updates every operation is made of. Where an update is unrestricted in one part of the state, its side condition
names what every use of it keeps there. -/
structure Closed (P : State → Prop) : Prop where
  pins : ∀ s x, P s → P { s with pins := x }
  stage : ∀ s x, P s → P { s with stage := x }
  track : ∀ s x, P s → P { s with track := x }
  feeders : ∀ s x, P s → P { s with feeders := x }
  presort : ∀ s x, P s → P { s with presort := x }
  outcomes : ∀ s x, P s → P { s with outcomes := x }
  draws : ∀ s x, P s → P { s with draws := x }
  /-- the Pitch Unit but for its outputs and ESTOP_N as taken -/
  pitch : ∀ (s : State) p, p.driveEn = s.pitch.driveEn → p.driveCrawl = s.pitch.driveCrawl →
    p.estopAsserted = s.pitch.estopAsserted → P s → P { s with pitch := p }
  /-- the Line Controller but for its state and the latches -/
  line : ∀ (s : State) l, l.state = s.line.state → l.latches = s.line.latches → P s → P { s with line := l }
  raised : ∀ (s : State) k a b, P s → P (putLatch k ((latch k s).raised a b) s)
  lowered : ∀ (s : State) k, up k s = true → P s → P (putLatch k { latch k s with state := .latched } s)
  cleared : ∀ (s : State) k n, P s → P (putLatch k (clearLatch (latch k s) n) s)
  /-- the new line state with the outputs that follow it -/
  moved : ∀ (s : State) n c, P s → P (updateDrive (lowerTiming s.line.state n { s with line := lineChanged n c s.line }))
  estop : ∀ (s : State) b t, P s → P (updateDrive (putPitch { s.pitch with estopAsserted := b, releaseTimer := t } s))
  loop : ∀ (s : State) l, (s.loop.Bounded → l.Bounded) → P s → P { s with loop := l }
  /-- the Table Store but for the pull list; the tables' entries stay in canonical form -/
  tables : ∀ (s : State) t, t.pull = s.tables.pull →
    (∀ i, Memory.wf (s.tables.get i).entries → Memory.wf (t.get i).entries) → P s → P { s with tables := t }
  pull : ∀ (s : State) l, (pullOk s.tables.pull → pullOk l) → P s → P (putPull l s)
  acct : ∀ (s : State) a, (Accounts s.acct.queue s.acct.halfA s.acct.tail s.acct.base →
    Accounts a.queue a.halfA a.tail a.base) → P s → P { s with acct := a }

variable {P : State → Prop} (hP : Closed P) {s : State}


/-! ### The loop's queues -/

theorem bump_bounded (n : Nat) {l : LoopIf} (h : l.Bounded) : (l.bump n).Bounded :=
  ⟨h.forward, h.mgmtIn, h.orders, h.replies, h.notices, h.dropped⟩

theorem ownNext_bounded {l m : LoopIf} {c : Cell} (h : l.Bounded) (e : l.ownNext = some (c, m)) :
    m.Bounded ∧ m.forward = l.forward := by
  obtain ⟨h1, h2, h3, h4, h5, h6⟩ := h
  unfold LoopIf.ownNext at e
  split at e <;> simp only [Option.some.injEq, Prod.mk.injEq, reduceCtorEq] at e
  · obtain ⟨-, rfl⟩ := e; exact ⟨⟨h1, h2, h3, h4, h5, h6⟩, rfl⟩
  all_goals
    obtain ⟨-, rfl⟩ := e
    refine ⟨⟨h1, h2, ?_, ?_, ?_, h6⟩, rfl⟩ <;> simp_all <;> omega

theorem choose_bounded {l : LoopIf} (h : l.Bounded) : l.choose.Bounded := by
  unfold LoopIf.choose
  split
  · exact ⟨h.forward, h.mgmtIn, h.orders, h.replies, h.notices, h.dropped⟩
  · rename_i e
    have k := (ownNext_bounded h e).1
    exact ⟨k.forward, k.mgmtIn, k.orders, k.replies, k.notices, k.dropped⟩
  · rename_i e _
    exact ⟨by have := h.forward; simp_all; omega, h.mgmtIn, h.orders, h.replies, h.notices, h.dropped⟩
  · rename_i c cs o m e1 e2
    have k := (ownNext_bounded h e2).1
    split
    · exact ⟨by have := h.forward; simp_all; omega, h.mgmtIn, h.orders, h.replies, h.notices, h.dropped⟩
    · exact ⟨k.forward, k.mgmtIn, k.orders, k.replies, k.notices, k.dropped⟩

theorem start_bounded {l : LoopIf} (h : l.Bounded) : l.start.Bounded := by
  unfold LoopIf.start
  split
  · exact choose_bounded h
  · exact h

theorem order_bounded (c : Cell) {l : LoopIf} (h : l.Bounded) : (l.order c).Bounded := by
  unfold LoopIf.order
  split
  · rename_i k
    exact start_bounded ⟨h.forward, h.mgmtIn, by simp; omega, h.replies, h.notices, h.dropped⟩
  · exact bump_bounded _ h

theorem reply_bounded (c : Cell) {l : LoopIf} (k : l.replies.length < Config.replyCapacity) (h : l.Bounded) :
    (l.reply c).Bounded :=
  start_bounded ⟨h.forward, h.mgmtIn, h.orders, by simp; omega, h.notices, h.dropped⟩

theorem placeNotice_bounded (n : Nat) (d : List Byte) (t : Nat) {l : LoopIf} (h : l.Bounded) :
    (LoopIf.placeNotice n d l t).Bounded := by
  unfold LoopIf.placeNotice
  split
  · exact start_bounded ⟨h.forward, h.mgmtIn, h.orders, h.replies, by simp; omega, by simp⟩
  · refine ⟨h.forward, h.mgmtIn, h.orders, h.replies, h.notices, ?_⟩
    have := h.dropped
    simp only [satInc]
    split <;> omega

theorem placeReplies_bounded (cs : List Cell) {l : LoopIf} (h : l.Bounded) : (placeReplies cs l).1.Bounded := by
  induction cs generalizing l with
  | nil => exact h
  | cons c cs ih =>
    simp only [placeReplies]
    split
    · exact ih (reply_bounded c (by assumption) h)
    · exact h

theorem makeRoll_bounded {l : LoopIf} (h : l.Bounded) : (makeRoll l).Bounded :=
  start_bounded ⟨h.forward, h.mgmtIn, h.orders, h.replies, h.notices, h.dropped⟩

theorem sent_bounded {l : LoopIf} (h : l.Bounded) : l.sent.Bounded := by
  unfold LoopIf.sent
  split
  · exact h
  · split <;> exact choose_bounded ⟨h.forward, h.mgmtIn, h.orders, h.replies, h.notices, h.dropped⟩

/-- An update of the loop that leaves its queues and its dropped count keeps the bounds. -/
theorem bounded_of_eq {l m : LoopIf} (h : l.Bounded) (e1 : m.forward = l.forward) (e2 : m.mgmtIn = l.mgmtIn)
    (e3 : m.orders = l.orders) (e4 : m.replies = l.replies) (e5 : m.notices = l.notices) (e6 : m.dropped = l.dropped) :
    m.Bounded :=
  ⟨e1 ▸ h.forward, e2 ▸ h.mgmtIn, e3 ▸ h.orders, e4 ▸ h.replies, e5 ▸ h.notices, e6 ▸ h.dropped⟩

/-! ### What each operation keeps -/

include hP

theorem pitchLoopLine_keeps (p : PitchUnit) (l : LoopIf) (k : LineCtl) (e1 : p.driveEn = s.pitch.driveEn)
    (e2 : p.driveCrawl = s.pitch.driveCrawl) (e3 : p.estopAsserted = s.pitch.estopAsserted) (b : s.loop.Bounded → l.Bounded)
    (e4 : k.state = s.line.state) (e5 : k.latches = s.line.latches) (h : P s) :
    P { s with pitch := p, loop := l, line := k } :=
  hP.line { s with pitch := p, loop := l } k e4 e5 (hP.loop { s with pitch := p } l b (hP.pitch s p e1 e2 e3 h))

theorem trackStage_keeps (t : TrackUnit) (g : Stage) (h : P s) : P { s with track := t, stage := g } :=
  hP.stage { s with track := t } g (hP.track s t h)

theorem pitchLineTrack_keeps (p : PitchUnit) (k : LineCtl) (t : TrackUnit) (e1 : p.driveEn = s.pitch.driveEn)
    (e2 : p.driveCrawl = s.pitch.driveCrawl) (e3 : p.estopAsserted = s.pitch.estopAsserted)
    (e4 : k.state = s.line.state) (e5 : k.latches = s.line.latches) (h : P s) :
    P { s with pitch := p, line := k, track := t } :=
  hP.track { s with pitch := p, line := k } t (pitchLoopLine_keeps hP p s.loop k e1 e2 e3 id e4 e5 h)

theorem acctTablesLine_keeps (a : AccountQueue) (t : TableStore) (k : LineCtl)
    (ha : Accounts s.acct.queue s.acct.halfA s.acct.tail s.acct.base → Accounts a.queue a.halfA a.tail a.base)
    (e : t.pull = s.tables.pull) (w : ∀ i, Memory.wf (s.tables.get i).entries → Memory.wf (t.get i).entries)
    (e4 : k.state = s.line.state) (e5 : k.latches = s.line.latches) (h : P s) :
    P { s with acct := a, tables := t, line := k } :=
  hP.line { s with acct := a, tables := t } k e4 e5 (hP.tables { s with acct := a } t e w (hP.acct s a ha h))

theorem outcomesLoop_keeps (o : Outcomes) (l : LoopIf) (b : s.loop.Bounded → l.Bounded) (h : P s) :
    P { s with outcomes := o, loop := l } :=
  hP.loop { s with outcomes := o } l b (hP.outcomes s o h)

theorem notice_keeps (c : Nat) (d : List Byte) (h : P s) : P (notice c d s) := by
  simp only [notice]
  split
  · exact hP.loop _ _ (fun b => foldl_pres _ _ (fun l t k => placeNotice_bounded c d t k) _ _ b) h
  · exact h

theorem issueOrder_keeps (n : Option NodeEntry) (p : List Byte) (h : P s) : P (issueOrder n p s) := by
  simp only [issueOrder]
  split
  · exact hP.loop _ _ (order_bounded _) h
  · exact h

theorem bumpLoop_keeps (n : Nat) (h : P s) : P (bumpLoop n s) := hP.loop _ _ (bump_bounded n) h

theorem bumpRun_keeps (n : Nat) (h : P s) : P (bumpRun n s) := hP.outcomes _ _ h

theorem modPocket_keeps (p : Nat) (f : PocketRec → PocketRec) (h : P s) : P (modPocket p f s) := hP.track _ _ h

theorem writeRecord_keeps (r : Record) (h : P s) : P (writeRecord r s) := by
  simp only [writeRecord]
  rw [bumps_eq]
  split
  · exact notice_keeps hP _ _ (hP.outcomes _ _ (hP.outcomes _ _ h))
  · exact hP.outcomes _ _ (hP.outcomes _ _ h)

theorem takeRaising_keeps (k : LatchKind) (a b : Nat) (h : P s) : P (takeRaising k a b s) := by
  simp only [takeRaising]
  exact notice_keeps hP _ _ (hP.line _ _ rfl rfl (hP.raised _ _ _ _ h))

theorem endWait_keeps (b : State) (h : P s) : P (endWait b s) := by
  simp only [endWait]
  split
  · exact hP.line _ _ rfl rfl h
  · exact h

theorem lower_keeps (k : LatchKind) (h : P s) : P (lower k s) := by
  simp only [lower]
  split
  · exact hP.lowered _ _ (by assumption) h
  · exact h

theorem startSearch_keeps (n : LineState) (h : P s) : P (startSearch n s) := by
  simp only [startSearch]
  split
  · exact hP.pitch _ _ rfl rfl rfl h
  · exact h

theorem endFeedHold_keeps (h : P s) : P (endFeedHold s) := by
  simp only [endFeedHold]
  split
  · exact notice_keeps hP _ _ (hP.acct _ _ id h)
  · exact h

theorem setLine_keeps (n : LineState) (c : Nat) (h : P s) : P (setLine n c s) := by
  simp only [setLine]
  apply notice_keeps hP
  split
  · exact endFeedHold_keeps hP (startSearch_keeps hP n (hP.moved _ _ _ h))
  · exact startSearch_keeps hP n (hP.moved _ _ _ h)

theorem suspectStage_keeps (h : P s) : P (suspectStage s) := hP.stage _ _ h

theorem suspectTrack_keeps (h : P s) : P (suspectTrack s) := hP.track _ _ h

theorem suspectAll_keeps (h : P s) : P (suspectAll s) := by
  simp only [suspectAll]
  all_goals apply_rules [suspectTrack_keeps hP, suspectStage_keeps hP, hP.stage, hP.track, hP.feeders, hP.presort, hP.outcomes, hP.draws, h, rfl]

theorem enterRecovery_keeps (c : Nat) (h : P s) : P (enterRecovery c s) := by
  simp only [enterRecovery]
  repeat' with_reducible first
    | exact h
    | apply suspectAll_keeps hP
    | apply setLine_keeps hP
    | split
    | refine hP.line _ _ rfl rfl ?_

theorem endPriming_keeps (h : P s) : P (endPriming s) := by
  simp only [endPriming]
  repeat' with_reducible first
    | exact h
    | apply setLine_keeps hP
    | split
    | refine hP.line _ _ rfl rfl ?_

theorem takeReports_keeps (h : P s) : P (takeReports s) := by
  simp only [takeReports]
  repeat' with_reducible first
    | exact h
    | apply endPriming_keeps hP
    | split
    | refine hP.line _ _ rfl rfl ?_

theorem respondRecovery_keeps (c : Nat) (h : P s) : P (respondRecovery c s) := by
  simp only [respondRecovery]
  repeat' with_reducible first
    | exact h
    | apply enterRecovery_keeps hP
    | split

theorem respondEstop_keeps (h : P s) : P (respondEstop s) := by
  simp only [respondEstop]
  repeat' with_reducible first
    | exact h
    | apply suspectAll_keeps hP
    | apply setLine_keeps hP
    | split

theorem respondEssential_keeps (h : P s) : P (respondEssential s) := by
  simp only [respondEssential]
  repeat' with_reducible first
    | exact h
    | apply setLine_keeps hP
    | split

theorem respondGroup_keeps (h : P s) : P (respondGroup s) := by
  simp only [respondGroup]
  repeat' with_reducible first
    | exact h
    | apply setLine_keeps hP
    | split
    | refine hP.line _ _ rfl rfl ?_

theorem respond_keeps (k : LatchKind) (r : Option Role) (h : P s) : P (respond k r s) := by
  cases k <;> simp only [respond] <;> repeat' split
  all_goals with_reducible apply_rules [h, respondEstop_keeps hP, respondRecovery_keeps hP, respondEssential_keeps hP, respondGroup_keeps hP, setLine_keeps hP]

theorem raiseFor_keeps (r : Option Role) (k : LatchKind) (a b : Nat) (h : P s) : P (raiseFor r k a b s) := by
  simp only [raiseFor]
  repeat' with_reducible first
    | exact h
    | apply respond_keeps hP
    | apply takeRaising_keeps hP
    | apply lower_keeps hP
    | split

theorem raise_keeps (k : LatchKind) (a b : Nat) (h : P s) : P (raise k a b s) := by
  simp only [raise]
  repeat' with_reducible first
    | exact h
    | apply raiseFor_keeps hP

theorem pulse_keeps (k : LatchKind) (h : P s) : P (pulse k s) := by
  simp only [pulse]
  repeat' with_reducible first
    | exact h
    | apply lower_keeps hP
    | apply raise_keeps hP

theorem putBin_keeps (b : Nat) (r : BinRec) (h : P s) : P (putBin b r s) := hP.presort _ _ h

theorem modGroup_keeps (g : Nat) (f : GroupRec → GroupRec) (h : P s) : P (modGroup g f s) := hP.presort _ _ h

theorem evalExhausted_keeps (h : P s) : P (evalExhausted s) := by
  simp only [evalExhausted]
  repeat' with_reducible first
    | exact h
    | apply lower_keeps hP
    | split

theorem openTray_keeps (g b n : Nat) (h : P s) : P (openTray g b n s) := by
  simp only [openTray]
  repeat' with_reducible first
    | exact h
    | apply putBin_keeps hP
    | apply modGroup_keeps hP

theorem closeTray_keeps (b : Nat) (c : TrayCause) (a : BinState) (h : P s) : P (closeTray b c a s) := by
  simp only [closeTray]
  repeat' with_reducible first
    | exact h
    | apply writeRecord_keeps hP
    | apply putBin_keeps hP

theorem exhaust_keeps (g : Nat) (h : P s) : P (exhaust g s) := by
  simp only [exhaust]
  repeat' with_reducible first
    | exact h
    | apply modGroup_keeps hP
    | apply raise_keeps hP
    | split

theorem advanceIndex_keeps (g : Nat) (h : P s) : P (advanceIndex g s) := by
  simp only [advanceIndex]
  repeat' with_reducible first
    | exact h
    | apply modGroup_keeps hP
    | apply exhaust_keeps hP
    | split

theorem placePiece_keeps (g b n : Nat) (h : P s) : P ((placePiece g b n s).1) := by
  simp only [placePiece]
  repeat' with_reducible first
    | exact h
    | apply openTray_keeps hP
    | apply putBin_keeps hP
    | apply advanceIndex_keeps hP
    | apply closeTray_keeps hP
    | split

theorem overflowPiece_keeps (g : Nat) (w : HeldReason) (h : P s) : P ((overflowPiece g w s).1) := by
  simp only [overflowPiece]
  repeat' with_reducible first
    | exact h
    | apply notice_keeps hP
    | split
    | refine hP.presort _ _ ?_

theorem exitDecision_keeps (g n : Nat) (h : P s) : P ((exitDecision g n s).1) := by
  simp only [exitDecision]
  repeat' with_reducible first
    | exact h
    | apply overflowPiece_keeps hP
    | apply placePiece_keeps hP
    | apply modGroup_keeps hP
    | apply exhaust_keeps hP
    | split

theorem reactivate_keeps (b : Nat) (h : P s) : P (reactivate b s) := by
  simp only [reactivate]
  repeat' with_reducible first
    | exact h
    | apply evalExhausted_keeps hP
    | apply modGroup_keeps hP
    | split

theorem binEmptied_keeps (b : Nat) (h : P s) : P (binEmptied b s) := by
  simp only [binEmptied]
  repeat' with_reducible first
    | exact h
    | apply reactivate_keeps hP
    | apply closeTray_keeps hP
    | apply putBin_keeps hP
    | split

theorem binOffline_keeps (b : Nat) (h : P s) : P (binOffline b s) := by
  simp only [binOffline]
  repeat' with_reducible first
    | exact h
    | apply putBin_keeps hP
    | apply closeTray_keeps hP
    | split

theorem binOnline_keeps (b : Nat) (h : P s) : P (binOnline b s) := by
  simp only [binOnline]
  repeat' with_reducible first
    | exact h
    | apply reactivate_keeps hP
    | apply putBin_keeps hP
    | split

theorem sorterStatus_keeps (t : StationState) (d : Byte) (h : P s) : P (sorterStatus t d s) := by
  simp only [sorterStatus]
  repeat' with_reducible first
    | exact h
    | split
    | refine hP.presort _ _ ?_

theorem putFeeder_keeps (k : Nat) (r : FeederRec) (h : P s) : P (putFeeder k r s) := hP.feeders _ _ h

theorem evalPairs_keeps (h : P s) : P (evalPairs s) := by
  simp only [evalPairs]
  repeat' with_reducible first
    | exact h
    | apply raise_keeps hP
    | apply lower_keeps hP
    | split
    | refine hP.feeders _ _ ?_

theorem evalFault_keeps (h : P s) : P (evalFault s) := by
  simp only [evalFault]
  repeat' with_reducible first
    | exact h
    | apply lower_keeps hP
    | split

theorem feederBecomes_keeps (k : Nat) (t : FeederState) (h : P s) : P (feederBecomes k t s) := by
  simp only [feederBecomes]
  repeat' with_reducible first
    | exact h
    | apply putFeeder_keeps hP
    | apply raise_keeps hP
    | apply evalPairs_keeps hP
    | apply evalFault_keeps hP
    | split

theorem feederStatus_keeps (k : Nat) (t : StationState) (h : P s) : P (feederStatus k t s) := by
  simp only [feederStatus]
  repeat' with_reducible first
    | exact h
    | apply feederBecomes_keeps hP
    | split

theorem feederNodeLost_keeps (k : Nat) (h : P s) : P (feederNodeLost k s) := by
  simp only [feederNodeLost]
  repeat' with_reducible first
    | exact h
    | apply feederBecomes_keeps hP
    | split

theorem feederNodeSeen_keeps (k : Nat) (h : P s) : P (feederNodeSeen k s) := by
  simp only [feederNodeSeen]
  repeat' with_reducible first
    | exact h
    | apply feederBecomes_keeps hP
    | split

theorem feedersOutOfUse_keeps (h : P s) : P (feedersOutOfUse s) := by
  simp only [feedersOutOfUse]
  repeat' with_reducible first
    | exact h
    | apply evalPairs_keeps hP
    | apply evalFault_keeps hP
    | split
    | refine hP.feeders _ _ ?_

theorem feedersIntoUse_keeps (h : P s) : P (feedersIntoUse s) := by
  simp only [feedersIntoUse]
  repeat' with_reducible first
    | exact h
    | apply evalPairs_keeps hP
    | apply evalFault_keeps hP
    | split
    | refine hP.feeders _ _ ?_

theorem feedersRunClear_keeps (h : P s) : P (feedersRunClear s) := by
  simp only [feedersRunClear]
  repeat' with_reducible first
    | exact h
    | split
    | refine hP.feeders _ _ ?_

theorem faultIf_keeps (b : Bool) (k : Nat) (h : P s) : P (faultIf b k s) := by
  simp only [faultIf]
  repeat' with_reducible first
    | exact h
    | apply feederBecomes_keeps hP
    | split

theorem feederReport_keeps (k : Nat) (r : PlanResult) (t : Timing) (h : P s) : P (feederReport k r t s) := by
  simp only [feederReport]
  repeat' with_reducible first
    | exact h
    | apply putFeeder_keeps hP
    | apply faultIf_keeps hP

theorem feederMissing_keeps (k : Nat) (h : P s) : P (feederMissing k s) := by
  simp only [feederMissing]
  repeat' with_reducible first
    | exact h
    | apply faultIf_keeps hP
    | apply putFeeder_keeps hP

theorem putTrack_keeps (r : List PocketRec) (h : P s) : P (putTrack r s) := hP.track _ _ h

theorem markPocket_keeps (p : Nat) (w : Reason) (h : P s) : P (markPocket p w s) := by
  simp only [markPocket]
  repeat' with_reducible first
    | exact h
    | apply modPocket_keeps hP
    | split

theorem putCount_keeps (r : Role) (n : Nat) (h : P s) : P (putCount r n s) := by
  cases r <;> simp only [putCount] <;> with_reducible apply_rules [h, hP.track]

theorem timingError_keeps (r : Role) (h : P s) : P (timingError r s) := by
  simp only [timingError]
  repeat' with_reducible first
    | exact h
    | apply raise_keeps hP
    | apply putCount_keeps hP
    | split

theorem missingConfirmation_keeps (r : Role) (h : P s) : P (missingConfirmation r s) := by
  simp only [missingConfirmation]
  repeat' with_reducible first
    | exact h
    | apply raise_keeps hP
    | apply putCount_keeps hP

theorem envelopeCheck_keeps (p : Nat) (k : Option Nat) (h : P s) : P (envelopeCheck p k s) := by
  simp only [envelopeCheck]
  repeat' with_reducible first
    | exact h
    | apply modPocket_keeps hP
    | apply markPocket_keeps hP
    | split

theorem caliperCheck_keeps (p m : Nat) (h : P s) : P (caliperCheck p m s) := by
  simp only [caliperCheck]
  repeat' with_reducible first
    | exact h
    | apply modPocket_keeps hP
    | apply markPocket_keeps hP
    | split

theorem closeAt_keeps (p : Nat) (h : P s) : P (closeAt s p) := by
  simp only [closeAt]
  repeat' with_reducible first
    | exact h
    | apply modPocket_keeps hP
    | apply envelopeCheck_keeps hP
    | apply feederMissing_keeps hP
    | apply markPocket_keeps hP
    | apply missingConfirmation_keeps hP
    | apply timingError_keeps hP
    | split

theorem trackClose_keeps (h : P s) : P (trackClose s) := foldl_pres _ _ (fun _ _ => closeAt_keeps hP _) _ _ h

theorem departGate_keeps (b : Bool) (h : P s) : P (departGate b s) := by
  simp only [departGate]
  repeat' with_reducible first
    | exact h
    | apply writeRecord_keeps hP
    | apply modPocket_keeps hP
    | split

theorem departExit_keeps (b : Bool) (h : P s) : P (departExit b s) := by
  simp only [departExit]
  repeat' with_reducible first
    | exact h
    | apply writeRecord_keeps hP
    | apply modPocket_keeps hP
    | split

theorem trackMove_keeps (e : Option Nat) (h : P s) : P (trackMove e s) := by
  simp only [trackMove]
  repeat' with_reducible first
    | exact h
    | apply putTrack_keeps hP
    | split

theorem await_keeps (p : Nat) (n : NodeEntry) (r : Role) (t : Nat) (h : P s) : P (await p n r t s) := by
  simp only [await]
  repeat' with_reducible first
    | exact h
    | apply modPocket_keeps hP

theorem arriveFeeder_keeps (n : NodeEntry) (r : PocketRec) (x : SetRec) (h : P s) : P (arriveFeeder n r x s) := by
  simp only [arriveFeeder]
  repeat' with_reducible first
    | exact h
    | apply modPocket_keeps hP
    | apply issueOrder_keeps hP
    | apply await_keeps hP
    | split

theorem arriveEnvelope_keeps (n : NodeEntry) (r : PocketRec) (x : SetRec) (h : P s) : P (arriveEnvelope n r x s) := by
  simp only [arriveEnvelope]
  repeat' with_reducible first
    | exact h
    | apply issueOrder_keeps hP
    | apply await_keeps hP

theorem arriveCaliper_keeps (n : NodeEntry) (r : PocketRec) (x : SetRec) (h : P s) : P (arriveCaliper n r x s) := by
  simp only [arriveCaliper]
  repeat' with_reducible first
    | exact h
    | apply modPocket_keeps hP
    | apply issueOrder_keeps hP
    | apply await_keeps hP
    | split

theorem arriveGate_keeps (n : NodeEntry) (r : PocketRec) (h : P s) : P (arriveGate n r s) := by
  simp only [arriveGate]
  repeat' with_reducible first
    | exact h
    | apply modPocket_keeps hP
    | apply issueOrder_keeps hP
    | apply await_keeps hP
    | split

theorem arriveSorter_keeps (n : NodeEntry) (r : PocketRec) (x : SetRec) (h : P s) : P (arriveSorter n r x s) := by
  simp only [arriveSorter]
  repeat' with_reducible first
    | exact h
    | apply exitDecision_keeps hP
    | apply modPocket_keeps hP
    | apply issueOrder_keeps hP
    | apply await_keeps hP

theorem arriveAt_keeps (n : NodeEntry) (h : P s) : P (arriveAt s n) := by
  simp only [arriveAt]
  repeat' with_reducible first
    | exact h
    | apply arriveFeeder_keeps hP
    | apply await_keeps hP
    | apply arriveEnvelope_keeps hP
    | apply arriveCaliper_keeps hP
    | apply arriveGate_keeps hP
    | apply arriveSorter_keeps hP
    | split

theorem arriveOff_keeps (n : NodeEntry) (h : P s) : P (arriveOff s n) := by
  simp only [arriveOff]
  repeat' with_reducible first
    | exact h
    | apply modPocket_keeps hP
    | split

theorem trackArrive_keeps (b : Bool) (h : P s) : P (trackArrive b s) := by
  unfold trackArrive
  cases b
  · exact foldl_pres _ _ (fun _ _ => arriveOff_keeps hP _) _ _ h
  · exact foldl_pres _ _ (fun _ _ => arriveAt_keeps hP _) _ _ h

theorem takePositions_keeps (h : P s) : P (takePositions s) := hP.track _ _ h

theorem trackNotice_keeps (n : Notice) (h : P s) : P (trackNotice n s) := by
  simp only [trackNotice]
  repeat' with_reducible first
    | exact h
    | apply trackArrive_keeps hP
    | apply trackMove_keeps hP
    | apply departExit_keeps hP
    | apply departGate_keeps hP
    | apply trackClose_keeps hP
    | apply takePositions_keeps hP

theorem takeDue_keeps (h : P s) : P (takeDue s) := by
  simp only [takeDue]
  repeat' with_reducible first
    | exact h
    | apply trackNotice_keeps hP
    | split

theorem putSet_keeps (p : Nat) (x : SetRec) (h : P s) : P (putSet p x s) := by
  simp only [putSet]
  repeat' with_reducible first
    | exact h
    | apply modPocket_keeps hP

theorem placeSet_keeps (p : Nat) (x : SetRec) (h : P s) : P (placeSet p x s) := by
  simp only [placeSet]
  split
  · exact putSet_keeps hP _ _ h
  · split
    · exact foldl_pres _ _ (fun _ _ => arriveAt_keeps hP _) _ _ (putSet_keeps hP _ _ h)
    · exact writeRecord_keeps hP _ h

theorem markRelease_keeps (p : Nat) (h : P s) : P (markRelease p s) := by
  simp only [markRelease]
  repeat' with_reducible first
    | exact h
    | apply markPocket_keeps hP
    | split

theorem stationTimed_keeps (r : Role) (p : Nat) (b : Bool) (h : P s) : P (stationTimed r p b s) := by
  simp only [stationTimed]
  repeat' with_reducible first
    | exact h
    | apply putCount_keeps hP
    | apply timingError_keeps hP
    | apply markPocket_keeps hP
    | split

theorem resultMark_keeps (r : PlanResult) (p : Nat) (h : P s) : P (resultMark r p s) := by
  simp only [resultMark]
  repeat' with_reducible first
    | exact h
    | apply markPocket_keeps hP
    | split

theorem matchedDone_keeps (n : NodeEntry) (r : Role) (a : Awaited) (x t : Nat) (h : P s) : P (matchedDone n r a x t s) := by
  simp only [matchedDone]
  repeat' with_reducible first
    | exact h
    | apply modPocket_keeps hP
    | apply resultMark_keeps hP
    | apply markPocket_keeps hP
    | apply feederReport_keeps hP
    | apply stationTimed_keeps hP
    | apply caliperCheck_keeps hP
    | split

theorem trackDone_keeps (n : NodeEntry) (r : Role) (p u x t b : Nat) (h : P s) : P (trackDone n r p u x t b s) := by
  simp only [trackDone]
  repeat' with_reducible first
    | exact h
    | apply matchedDone_keeps hP
    | apply bumpRun_keeps hP
    | split

theorem trackEnvread_keeps (n : NodeEntry) (p : Nat) (k : Option Nat) (h : P s) : P (trackEnvread n p k s) := by
  simp only [trackEnvread]
  repeat' with_reducible first
    | exact h
    | apply bumpRun_keeps hP
    | apply envelopeCheck_keeps hP
    | apply modPocket_keeps hP
    | split

theorem clearAwaited_keeps (h : P s) : P (clearAwaited s) := by
  simp only [clearAwaited]
  repeat' with_reducible first
    | exact h
    | apply putTrack_keeps hP

theorem purgeAt_keeps (p : Nat) (h : P s) : P (purgeAt s p) := by
  simp only [purgeAt]
  repeat' with_reducible first
    | exact h
    | apply modPocket_keeps hP
    | apply writeRecord_keeps hP
    | split

theorem trackRunClear_keeps (h : P s) : P (trackRunClear s) := hP.track _ _ (foldl_pres _ _ (fun _ _ => purgeAt_keeps hP _) _ _ h)

theorem closeBins_keeps (c : TrayCause) (f : Nat → State → Bool) (l : List Nat) (h : P s) : P (closeBins c f l s).1 := by
  induction l generalizing s with
  | nil => exact h
  | cons b bs ih =>
    simp only [closeBins]
    split
    · exact ih (closeTray_keeps hP _ _ _ h)
    · exact ih h

theorem groupsIntoUse_keeps (e : List (List Byte)) (h : P s) : P (groupsIntoUse e s) := by
  simp only [groupsIntoUse]
  repeat' with_reducible first
    | exact h
    | apply lower_keeps hP
    | split
    | refine hP.presort _ _ ?_

theorem groupsOutOfUse_keeps (h : P s) : P (groupsOutOfUse s) := by
  simp only [groupsOutOfUse]
  repeat' with_reducible first
    | exact h
    | apply lower_keeps hP
    | split
    | refine hP.presort _ _ ?_

theorem presortRunClear_keeps (h : P s) : P ((presortRunClear s).1) := by
  simp only [presortRunClear]
  repeat' with_reducible first
    | exact h
    | apply closeBins_keeps hP
    | apply lower_keeps hP
    | split
    | refine hP.presort _ _ ?_

omit hP in
theorem insertBy_mem {α : Type} (key : α → Nat) (x : α) (l : List α) (y : α) : y ∈ insertBy key x l ↔ y = x ∨ y ∈ l := by
  induction l with
  | nil => simp [insertBy]
  | cons z l ih =>
    simp only [insertBy]
    split <;> simp [ih] <;> tauto

omit hP in
theorem insertBy_length {α : Type} (key : α → Nat) (x : α) (l : List α) : (insertBy key x l).length = l.length + 1 := by
  induction l with
  | nil => rfl
  | cons z l ih =>
    simp only [insertBy]
    split <;> simp [ih]

omit hP in
/-- A new key joins the pull list at its place (R66). -/
theorem pullOk_insert {e : PullEntry} {l : List PullEntry} (h : pullOk l) (k : pullFind e.key l = none)
    (n : l.length < Config.pullCapacity) : pullOk (insertBy (·.key) e l) := by
  refine ⟨?_, by rw [insertBy_length]; omega⟩
  have hk : ∀ x ∈ l, x.key ≠ e.key := by simpa [pullFind] using k
  replace h := h.1
  clear n k
  induction l with
  | nil => simp [insertBy]
  | cons z l ih =>
    have hz := List.pairwise_cons.1 h
    have hne : z.key ≠ e.key := hk z (by simp)
    simp only [insertBy]
    split
    · refine List.pairwise_cons.2 ⟨fun a ha => ?_, h⟩
      rcases List.mem_cons.1 ha with rfl | ha
      · omega
      · have := hz.1 a ha; omega
    · refine List.pairwise_cons.2 ⟨fun a ha => ?_, ih (fun x hx => hk x (by simp [hx])) hz.2⟩
      rcases (insertBy_mem _ _ _ _).1 ha with rfl | ha
      · omega
      · exact hz.1 a ha

omit hP in
theorem pullOk_drop {l : List PullEntry} (k : Nat) (h : pullOk l) : pullOk (pullDrop k l) :=
  ⟨h.1.filter _, (List.length_filter_le _ _).trans h.2⟩

omit hP in
theorem pullOk_hit {l : List PullEntry} (e : PullEntry) (h : pullOk l) : pullOk (pullHit e l) := by
  simp only [pullHit]
  split
  · exact pullOk_drop _ h
  · refine ⟨?_, by simpa using h.2⟩
    refine List.pairwise_map.2 (h.1.imp fun {a b} hab => ?_)
    split <;> split <;> simpa using hab

theorem pullSearch_keeps (k : Nat) (h : P s) : P (pullSearch k s).1 := by
  simp only [pullSearch]
  split
  · exact hP.pull _ _ (pullOk_hit _) h
  · exact h

theorem bindRecord_keeps (r : Account) (h : P s) : P ((bindRecord r s).1) := by
  simp only [bindRecord]
  repeat' with_reducible first
    | exact h
    | apply pullSearch_keeps hP

omit hP in
/-- Fewer records of an ordered queue, their seqs unchanged, are an ordered queue (R57, R58). -/
theorem Accounts.shrink {q r : List Account} {a : Option HalfA} {t b : Option Nat} (h : Accounts q a t b)
    (e : (r.map (·.seq)).Sublist (q.map (·.seq))) : Accounts r a t b := by
  obtain ⟨h1, h2, h3, h4, h5, h6⟩ := h
  refine ⟨?_, ?_, ?_, h4, h5, h6⟩
  · have := (List.pairwise_map.2 h1 : (q.map (·.seq)).Pairwise (· < ·)).sublist e
    exact List.pairwise_map.1 this
  · have := e.length_le
    simp only [List.length_map] at this
    omega
  · intro x hx
    obtain ⟨y, hy, e'⟩ := List.mem_map.1 (e.subset (List.mem_map_of_mem hx))
    rw [← e']
    exact h3 y hy

omit hP in
theorem rebindQueue_seqs (t : Nat) (q : List Account) : ((rebindQueue t q).map (·.seq)).Sublist (q.map (·.seq)) := by
  simp only [rebindQueue, List.map_map]
  have : ((fun x : Account => x.seq) ∘ fun r => if r.seq < t then { r with skipped := true } else r) = fun x => x.seq := by
    funext r
    simp only [Function.comp]
    split <;> rfl
  rw [this]
  exact List.filter_sublist.map _

theorem rebindRecord_keeps {t : Nat} {u : State} {f : AcctFields} (e : rebindRecord t s = some (u, f)) (h : P s) : P u := by
  simp only [rebindRecord] at e
  split at e
  · simp at e
  · simp only [Option.some.injEq] at e
    have e1 := congrArg Prod.fst e
    simp only at e1
    subst e1
    exact bindRecord_keeps hP _ (bumpRun_keeps hP _ (hP.acct _ _ (fun k => k.shrink (rebindQueue_seqs _ _)) h))

theorem putStage_keeps (t : Stage) (h : P s) : P (putStage t s) := hP.stage _ _ h

theorem orderSet_keeps (q : Nat) (f : AcctFields) (b : Bool) (w : Working) (h : P s) : P (orderSet q f b w s) := by
  simp only [orderSet]
  repeat' with_reducible first
    | exact h
    | apply putStage_keeps hP
    | apply issueOrder_keeps hP

theorem assembleSheet_keeps (r : SheetRead) (x : SetRec) (h : P s) : P (assembleSheet r x s) := by
  simp only [assembleSheet]
  repeat' with_reducible first
    | exact h
    | apply putStage_keeps hP

theorem strayFirst_keeps (n : Nat) (r : SheetRead) (x : SetRec) (h : P s) : P (strayFirst n r x s) := by
  simp only [strayFirst]
  repeat' with_reducible first
    | exact h
    | apply writeRecord_keeps hP
    | apply assembleSheet_keeps hP

theorem rebindFirst_keeps (n t : Nat) (r : SheetRead) (x : SetRec) (h : P s) : P (rebindFirst n t r x s) := by
  simp only [rebindFirst]
  split
  · rename_i e
    exact writeRecord_keeps hP _ (assembleSheet_keeps hP _ _ (rebindRecord_keeps hP e h))
  · exact strayFirst_keeps hP _ _ _ h

theorem firstSheet_keeps (n : Nat) (r : SheetRead) (x : SetRec) (h : P s) : P (firstSheet n r x s) := by
  simp only [firstSheet]
  repeat' with_reducible first
    | exact h
    | apply assembleSheet_keeps hP
    | apply rebindFirst_keeps hP
    | apply strayFirst_keeps hP
    | split

theorem sheetToSet_keeps (r : SheetRead) (x : SetRec) (h : P s) : P (sheetToSet r x s) := by
  simp only [sheetToSet]
  repeat' with_reducible first
    | exact h
    | apply firstSheet_keeps hP
    | apply assembleSheet_keeps hP
    | split

theorem sheetAlone_keeps (n : Nat) (r : SheetRead) (h : P s) : P (sheetAlone n r s) := by
  simp only [sheetAlone]
  repeat' with_reducible first
    | exact h
    | apply bumpRun_keeps hP
    | apply assembleSheet_keeps hP
    | apply raise_keeps hP
    | apply suspectStage_keeps hP
    | split

theorem putAssembly_keeps (x : Option SetRec) (h : P s) : P (putAssembly x s) := by
  simp only [putAssembly]
  repeat' with_reducible first
    | exact h
    | apply putStage_keeps hP

theorem sheetLate_keeps (n : Nat) (r : SheetRead) (h : P s) : P (sheetLate n r s) := by
  simp only [sheetLate]
  repeat' with_reducible first
    | exact h
    | apply putAssembly_keeps hP
    | apply putStage_keeps hP
    | apply bumpRun_keeps hP
    | apply sheetAlone_keeps hP
    | split

theorem routeSheet_keeps (n : Nat) (r : SheetRead) (h : P s) : P (routeSheet n r s) := by
  simp only [routeSheet]
  repeat' with_reducible first
    | exact h
    | apply sheetToSet_keeps hP
    | apply sheetLate_keeps hP
    | split

theorem issueRelease_keeps (p : Nat) (h : P s) : P (issueRelease p s) := by
  simp only [issueRelease]
  repeat' with_reducible first
    | exact h
    | apply issueOrder_keeps hP
    | apply putStage_keeps hP

theorem releaseInto_keeps (p : Nat) (h : P s) : P (releaseInto p s) := by
  simp only [releaseInto]
  repeat' with_reducible first
    | exact h
    | apply issueRelease_keeps hP
    | apply takeDue_keeps hP
    | apply placeSet_keeps hP
    | apply putStage_keeps hP
    | split

theorem tryRelease_keeps (h : P s) : P (tryRelease s) := by
  simp only [tryRelease]
  repeat' with_reducible first
    | exact h
    | apply releaseInto_keeps hP
    | split

theorem judgeHeld_keeps (h : P s) : P (judgeHeld s) := by
  simp only [judgeHeld]
  repeat' with_reducible first
    | exact h
    | apply setLine_keeps hP
    | split

theorem settle_keeps (h : P s) : P (settle s) := by
  simp only [settle]
  repeat' with_reducible first
    | exact h
    | apply judgeHeld_keeps hP
    | apply tryRelease_keeps hP

theorem judgeGap_keeps (h : P s) : P (judgeGap s) := by
  simp only [judgeGap]
  repeat' with_reducible first
    | exact h
    | apply bumpRun_keeps hP
    | split

theorem unconfirmedRelease_keeps (h : P s) : P (unconfirmedRelease s) := by
  simp only [unconfirmedRelease]
  repeat' with_reducible first
    | exact h
    | apply markRelease_keeps hP
    | apply putStage_keeps hP
    | apply raise_keeps hP
    | split

theorem judgeDeadline_keeps (h : P s) : P (judgeDeadline s) := by
  simp only [judgeDeadline]
  repeat' with_reducible first
    | exact h
    | apply putStage_keeps hP
    | split

theorem countPitch_keeps (h : P s) : P (countPitch s) := by
  simp only [countPitch]
  repeat' with_reducible first
    | exact h
    | apply putAssembly_keeps hP

theorem deadlineNotice_keeps (b : Bool) (h : P s) : P (deadlineNotice b s) := by
  simp only [deadlineNotice]
  repeat' with_reducible first
    | exact h
    | apply judgeDeadline_keeps hP
    | apply countPitch_keeps hP
    | split

theorem collationNotice_keeps (n : Notice) (h : P s) : P (collationNotice n s) := by
  simp only [collationNotice]
  repeat' with_reducible first
    | exact h
    | apply judgeGap_keeps hP
    | apply putStage_keeps hP
    | apply deadlineNotice_keeps hP
    | apply unconfirmedRelease_keeps hP

theorem deadlineExpiry_keeps (h : P s) : P (deadlineExpiry s) := by
  simp only [deadlineExpiry]
  repeat' with_reducible first
    | exact h
    | apply settle_keeps hP
    | apply judgeDeadline_keeps hP
    | split

theorem releaseDone_keeps (p : Nat) (h : P s) : P (releaseDone p s) := by
  simp only [releaseDone]
  repeat' with_reducible first
    | exact h
    | apply putStage_keeps hP
    | apply bumpRun_keeps hP
    | split

theorem purgeSlot_keeps (x : Option SetRec) (h : P s) : P (purgeSlot x s) := by
  simp only [purgeSlot]
  repeat' with_reducible first
    | exact h
    | apply writeRecord_keeps hP
    | split

theorem stageRunClear_keeps (h : P s) : P (stageRunClear s) := by
  simp only [stageRunClear]
  repeat' with_reducible first
    | exact h
    | apply purgeSlot_keeps hP
    | apply putStage_keeps hP

theorem putStaged_keeps (g : Staged) (h : P s) : P (putStaged g s) := hP.tables _ _ rfl (fun i => by cases i <;> exact id) h

theorem putHold_keeps (b : Bool) (h : P s) : P (putHold b s) := hP.tables _ _ rfl (fun i => by cases i <;> exact id) h

theorem applyStaged_keeps (h : P s) : P (applyStaged s) := by
  have k : ∀ w, P { s with tables := applyTables w s.tables } :=
    fun w => hP.tables _ _ rfl (fun i => by cases i <;> exact id) h
  simp only [applyStaged]
  repeat' split
  all_goals with_reducible apply_rules [h, evalPairs_keeps hP, k]

theorem settlingAnswer_keeps (h : P s) : P ((settlingAnswer s).1) := hP.tables _ _ rfl (fun i => by cases i <;> exact id) h

omit hP in
/-- A queue without its head is ordered. -/
theorem Accounts.tail {r : Account} {q : List Account} {a : Option HalfA} {t b : Option Nat} (h : Accounts (r :: q) a t b) :
    Accounts q a t b := h.shrink (by simp)

theorem releaseSkipped_keeps (n : Nat) (h : P s) : P (releaseSkipped n s) := by
  induction n generalizing s with
  | zero => exact h
  | succ n ih =>
    simp only [releaseSkipped]
    split
    · exact h
    · rename_i r rest e
      split
      · exact ih (bumpRun_keeps hP _ (writeRecord_keeps hP _ (hP.acct _ _ (fun k => (e ▸ k).tail) h)))
      · exact h

theorem beginHold_keeps (r : HoldReason) (h : P s) : P (beginHold r s) := by
  simp only [beginHold]
  repeat' with_reducible first
    | exact h
    | apply notice_keeps hP

theorem feedHold_keeps (r : Option HoldReason) (h : P s) : P (feedHold r s) := by
  simp only [feedHold]
  split
  · exact h
  · split
    · exact beginHold_keeps hP _ (hP.acct _ _ id (endFeedHold_keeps hP h))
    · exact endFeedHold_keeps hP h

theorem takeRecord_keeps {r : Account} {rest : List Account} (e : s.acct.queue = r :: rest) (h : P s) :
    P (takeRecord r rest s) := by
  have k : ∀ u : State, u.acct.queue = s.acct.queue → P u → P (bumpRun 1 (putAcct { u.acct with queue := rest } u)) :=
    fun u e' hu => bumpRun_keeps hP _ (hP.acct _ _ (fun q => by rw [e', e] at q; exact q.tail) hu)
  simp only [takeRecord]
  split
  · exact orderSet_keeps hP _ _ _ _ (k _ (by simp) (bindRecord_keeps hP _ (settlingAnswer_keeps hP (applyStaged_keeps hP h))))
  · exact k _ (by simp) (bindRecord_keeps hP _ (settlingAnswer_keeps hP (applyStaged_keeps hP h)))

theorem considerTake_keeps (h : P s) : P (considerTake s) := by
  simp only [considerTake]
  split
  · exact feedHold_keeps hP _ h
  · rename_i e _
    exact takeRecord_keeps hP (by simpa using e) (feedHold_keeps hP _ h)
  · exact h

theorem accountNotice_keeps (n : Notice) (h : P s) : P (accountNotice n s) := by
  simp only [accountNotice]
  repeat' with_reducible first
    | exact h
    | apply considerTake_keeps hP
    | apply releaseSkipped_keeps hP
    | split

theorem cleanPitch_keeps (h : P s) : P (cleanPitch s) := by
  simp only [cleanPitch]
  repeat' with_reducible first
    | exact h
    | split
    | refine hP.line _ _ rfl rfl ?_

theorem lineNotice_keeps (n : Notice) (h : P s) : P (lineNotice n s) := by
  simp only [lineNotice]
  repeat' with_reducible first
    | exact h
    | apply takeReports_keeps hP
    | apply cleanPitch_keeps hP
    | split

theorem cleanExpiry_keeps (h : P s) : P (cleanExpiry s) := by
  simp only [cleanExpiry]
  repeat' with_reducible first
    | exact h
    | apply cleanPitch_keeps hP
    | split

/-- An update of the loop that leaves its queues and its dropped count is kept. -/
theorem loopNotes_keeps {l : LoopIf} (e1 : l.forward = s.loop.forward) (e2 : l.mgmtIn = s.loop.mgmtIn)
    (e3 : l.orders = s.loop.orders) (e4 : l.replies = s.loop.replies) (e5 : l.notices = s.loop.notices)
    (e6 : l.dropped = s.loop.dropped) (h : P s) : P (putLoop l s) :=
  hP.loop _ _ (fun b => bounded_of_eq b e1 e2 e3 e4 e5 e6) h

theorem judgeRoll_keeps (h : P s) : P (judgeRoll s) := by
  simp only [judgeRoll]
  repeat' with_reducible first
    | exact h
    | apply raise_keeps hP
    | refine loopNotes_keeps hP rfl rfl rfl rfl rfl rfl ?_
    | split

theorem rollDue_keeps (h : P s) : P (rollDue s) := by
  simp only [rollDue]
  exact hP.loop _ _ makeRoll_bounded (judgeRoll_keeps hP h)

theorem receive_keeps (n : Notice) (r : Receiver) (h : P s) : P (receive n s r) := by
  cases r
  · exact settle_keeps hP (takeDue_keeps hP h)
  · exact settle_keeps hP (collationNotice_keeps hP _ h)
  · exact settle_keeps hP (accountNotice_keeps hP _ h)
  · exact settle_keeps hP (lineNotice_keeps hP _ h)
  · refine settle_keeps hP (s := if n.driveOn then rollDue s else s) ?_
    split
    · exact rollDue_keeps hP h
    · exact h

theorem handOn_keeps (n : Notice) (l : List Receiver) (h : P s) : P (handOn n l s) := trackStage_keeps hP _ _ (foldl_pres P _ (fun _ r => receive_keeps hP n r) _ _ (hP.track s _ h))

theorem elapse_keeps (n : Nat) (h : P s) : P (elapse n s) := pitchLoopLine_keeps hP _ _ _ rfl rfl rfl (fun b => bounded_of_eq b rfl rfl rfl rfl rfl rfl) rfl rfl h

/-- An update of the Pitch Unit that leaves its outputs and ESTOP_N as taken is kept. -/
theorem putPitch_keeps {p : PitchUnit} (e1 : p.driveEn = s.pitch.driveEn) (e2 : p.driveCrawl = s.pitch.driveCrawl)
    (e3 : p.estopAsserted = s.pitch.estopAsserted) (h : P s) : P (putPitch p s) := hP.pitch _ _ e1 e2 e3 h

theorem speedCheck_keeps (h : P s) : P (speedCheck s) := by
  simp only [speedCheck]
  repeat' with_reducible first
    | exact h
    | apply raise_keeps hP
    | refine putPitch_keeps hP rfl rfl rfl ?_
    | split

theorem unexpectedMotion_keeps (b : Bool) (h : P s) : P (unexpectedMotion b s) := by
  simp only [unexpectedMotion]
  repeat' with_reducible first
    | exact h
    | apply lower_keeps hP
    | apply raise_keeps hP
    | refine putPitch_keeps hP rfl rfl rfl ?_
    | split

theorem markConditions_keeps (a b c : Bool) (h : P s) : P (markConditions a b c s) := by
  simp only [markConditions]
  repeat' with_reducible first
    | exact h
    | apply pulse_keeps hP
    | apply speedCheck_keeps hP
    | apply unexpectedMotion_keeps hP
    | split

omit hP in
/-- A mark leaves the outputs and ESTOP_N as taken. -/
theorem markUnit_keeps : (markUnit s).unit.driveEn = s.pitch.driveEn ∧ (markUnit s).unit.driveCrawl = s.pitch.driveCrawl ∧
    (markUnit s).unit.estopAsserted = s.pitch.estopAsserted := by
  simp only [markUnit, markMeter, markPhase, markCounter, consumeIndex, searchIndex, slipped]
  repeat' split
  all_goals simp

theorem takeMark_keeps (h : P s) : P (takeMark s).1 := by
  simp only [takeMark]
  obtain ⟨e1, e2, e3⟩ := markUnit_keeps (s := s)
  exact markConditions_keeps hP _ _ _ (putPitch_keeps hP e1 e2 e3 h)

theorem pitchMark_keeps (n : Nat) (l : List Receiver) (h : P s) : P (pitchMark n l s) := by
  simp only [pitchMark]
  repeat' with_reducible first
    | exact h
    | apply takeMark_keeps hP
    | apply elapse_keeps hP
    | apply handOn_keeps hP

theorem encoderStep_keeps (a b : Bool) (h : P s) : P (encoderStep a b s) := hP.pitch _ _ rfl rfl rfl h

theorem estopFall_keeps (h : P s) : P (estopFall s) := by
  simp only [estopFall]
  split
  · exact putPitch_keeps hP rfl rfl rfl h
  · exact raise_keeps hP _ _ _ (hP.estop _ _ _ h)

theorem estopRise_keeps (h : P s) : P (estopRise s) := by
  simp only [estopRise]
  repeat' with_reducible first
    | exact h
    | refine putPitch_keeps hP rfl rfl rfl ?_
    | split

theorem estopRelease_keeps (h : P s) : P (estopRelease s) := by
  simp only [estopRelease]
  split
  · exact h
  · exact lower_keeps hP _ (hP.estop _ _ _ (elapse_keeps hP _ h))

theorem readEstop_keeps (h : P s) : P (readEstop s) := by
  simp only [readEstop]
  repeat' with_reducible first
    | exact h
    | apply estopFall_keeps hP
    | split

theorem meterStall_keeps (h : P s) : P (meterStall s) := by
  simp only [meterStall]
  repeat' with_reducible first
    | exact h
    | apply elapse_keeps hP
    | apply settle_keeps hP
    | apply takeReports_keeps hP
    | apply speedCheck_keeps hP
    | refine putPitch_keeps hP rfl rfl rfl ?_
    | split

theorem searchExpiry_keeps (h : P s) : P (searchExpiry s) := by
  simp only [searchExpiry]
  repeat' with_reducible first
    | exact h
    | apply takeReports_keeps hP
    | apply pulse_keeps hP
    | refine putPitch_keeps hP rfl rfl rfl ?_
    | split

theorem rollTimerEnd_keeps (h : P s) : P (rollTimerEnd s) := by
  simp only [rollTimerEnd]
  repeat' with_reducible first
    | exact h
    | apply elapse_keeps hP
    | apply rollDue_keeps hP
    | refine loopNotes_keeps hP rfl rfl rfl rfl rfl rfl ?_
    | split

theorem putLoop_keeps {l : LoopIf} (k : s.loop.Bounded → l.Bounded) (h : P s) : P (putLoop l s) := hP.loop _ _ k h

theorem crcDiscard_keeps (c : Cell) (w : Word16) (h : P s) : P (crcDiscard c w s) := by
  simp only [crcDiscard]
  repeat' with_reducible first
    | exact h
    | apply bumpRun_keeps hP
    | apply bumpLoop_keeps hP
    | split

theorem forwardCell_keeps (c : Cell) (h : P s) : P (forwardCell c s) := by
  simp only [forwardCell]
  repeat' split
  · exact bumpLoop_keeps hP _ h
  · exact bumpRun_keeps hP _ (bumpLoop_keeps hP _ h)
  · rename_i k
    exact hP.loop _ _ (fun b => start_bounded ⟨by simp; omega, b.mgmtIn, b.orders, b.replies, b.notices, b.dropped⟩) h
  · exact bumpLoop_keeps hP _ h

theorem unknownCell_keeps (x : Byte) (h : P s) : P (unknownCell x s) := by
  simp only [unknownCell]
  repeat' with_reducible first
    | exact h
    | apply bumpLoop_keeps hP
    | split

theorem managementArrival_keeps (c : Cell) (h : P s) : P (managementArrival c s) := by
  simp only [managementArrival]
  split
  · exact hP.loop _ _ (fun b => ⟨b.forward, by simp; omega, b.orders, b.replies, b.notices, b.dropped⟩) h
  · exact bumpLoop_keeps hP _ h

theorem stationSeen_keeps (n : NodeEntry) (h : P s) : P (stationSeen n s) := hP.line _ _ rfl rfl h

theorem nodeSeen_keeps (n : NodeEntry) (h : P s) : P (nodeSeen n s) := by
  simp only [nodeSeen]
  repeat' with_reducible first
    | exact h
    | apply stationSeen_keeps hP
    | apply feederNodeSeen_keeps hP
    | apply lower_keeps hP
    | split

theorem nodeGone_keeps (n : NodeEntry) (h : P s) : P (nodeGone n s) := by
  simp only [nodeGone]
  repeat' with_reducible first
    | exact h
    | apply raiseFor_keeps hP
    | apply feederNodeLost_keeps hP
    | split
    | refine hP.line _ _ rfl rfl ?_

theorem putNodeRec_keeps (i : Nat) (r : NodeRec) (h : P s) : P (putNodeRec i r s) := by
  simp only [putNodeRec]
  repeat' with_reducible first
    | exact h
    | refine loopNotes_keeps hP rfl rfl rfl rfl rfl rfl ?_

theorem judgeNode_keeps (i : Nat) (n : NodeEntry) (b : Bool) (h : P s) : P (judgeNode i n b s) := by
  simp only [judgeNode]
  repeat' with_reducible first
    | exact h
    | apply putNodeRec_keeps hP
    | apply nodeSeen_keeps hP
    | apply nodeGone_keeps hP
    | split

theorem checkPresence_keeps (m : BitVec 64) (i : Nat) (l : List NodeEntry) (h : P s) : P (checkPresence m i l s) := by
  induction l generalizing i s with
  | nil => exact h
  | cons n ns ih => exact ih _ (judgeNode_keeps hP _ _ _ h)

theorem endRingBreak_keeps (h : P s) : P (endRingBreak s) := by
  simp only [endRingBreak]
  repeat' with_reducible first
    | exact h
    | apply lower_keeps hP
    | refine loopNotes_keeps hP rfl rfl rfl rfl rfl rfl ?_
    | split

theorem rollReturned_keeps (q : Byte) (m : BitVec 64) (h : P s) : P (rollReturned q m s) := by
  simp only [rollReturned, currentRoll]
  repeat' with_reducible first
    | exact h
    | apply endWait_keeps hP
    | apply checkPresence_keeps hP
    | apply endRingBreak_keeps hP
    | refine loopNotes_keeps hP rfl rfl rfl rfl rfl rfl ?_
    | split

theorem doneReport_keeps (p u x t b : Nat) (n : NodeEntry) (r : Role) (h : P s) : P (doneReport p u x t b n r s) := by
  simp only [doneReport]
  repeat' with_reducible first
    | exact h
    | apply releaseDone_keeps hP
    | apply trackDone_keeps hP
    | split

theorem recordStatus_keeps (a : Nat) (t : StationState) (d : Byte) (h : P s) : P (recordStatus a t d s) := by
  simp only [recordStatus]
  repeat' with_reducible first
    | exact h
    | refine loopNotes_keeps hP rfl rfl rfl rfl rfl rfl ?_
    | split

theorem putJammed_keeps (l : List Nat) (h : P s) : P (putJammed l s) := hP.line _ _ rfl rfl h

theorem jamAdd_keeps (a : Nat) (h : P s) : P (jamAdd a s) := by
  simp only [jamAdd]
  repeat' with_reducible first
    | exact h
    | apply raise_keeps hP
    | apply putJammed_keeps hP
    | split

theorem jamRemove_keeps (a : Nat) (h : P s) : P (jamRemove a s) := by
  simp only [jamRemove]
  repeat' with_reducible first
    | exact h
    | apply putJammed_keeps hP
    | apply lower_keeps hP
    | split

theorem lineStatus_keeps (a : Nat) (r : Role) (t : StationState) (h : P s) : P (lineStatus a r t s) := by
  simp only [lineStatus]
  repeat' with_reducible first
    | exact h
    | apply jamAdd_keeps hP
    | apply jamRemove_keeps hP
    | apply lower_keeps hP
    | split

theorem unitStatus_keeps (n : NodeEntry) (r : Role) (t : StationState) (d : Byte) (h : P s) : P (unitStatus n r t d s) := by
  cases r <;> simp only [unitStatus] <;> with_reducible apply_rules [h, feederStatus_keeps hP, sorterStatus_keeps hP]

theorem statusReport_keeps (a : Nat) (t : StationState) (d : Byte) (n : NodeEntry) (r : Role) (h : P s) : P (statusReport a t d n r s) := by
  simp only [statusReport]
  repeat' with_reducible first
    | exact h
    | apply endWait_keeps hP
    | apply unitStatus_keeps hP
    | apply lineStatus_keeps hP
    | apply recordStatus_keeps hP

theorem cellSent_keeps (h : P s) : P (cellSent s) := hP.loop _ _ sent_bounded h

theorem report_keeps (k : Nat) (a : Byte) (f : NodeEntry → Role → State → State) (hf : ∀ n r s, P s → P (f n r s)) (h : P s) :
    P (report k a f s) := by
  simp only [report]
  repeat' split
  · exact bumpLoop_keeps hP _ h
  · exact hf _ _ _ h
  · exact bumpLoop_keeps hP _ h

theorem binReport_keeps (f : Nat → State → State) (hf : ∀ n s, P s → P (f n s)) (b : Byte) (h : P s) : P (binReport f b s) := by
  simp only [binReport]
  split
  · exact hf _ _ h
  · exact bumpRun_keeps hP _ h

/-! ### Requests -/

theorem answer_keeps (c : Cell) (l : List Item) (h : P s) : P (answer c l s) := by
  simp only [answer]
  exact hP.loop _ _ (fun b => bounded_of_eq (placeReplies_bounded _ b) rfl rfl rfl rfl rfl rfl) h

theorem popRequest_keeps (h : P s) : P (popRequest s) :=
  hP.loop _ _ (fun b => ⟨b.forward, (by have := b.mgmtIn; simp; omega), b.orders, b.replies, b.notices, b.dropped⟩) h

theorem rememberManager_keeps (c : Cell) (h : P s) : P (rememberManager c s) := by
  simp only [rememberManager]
  split
  · exact h
  · exact hP.loop _ _ (fun b => bounded_of_eq b rfl rfl rfl rfl rfl rfl) h

/-- A request keeps what its owner's handling keeps. -/
theorem request_keeps (k : Nat) (f : Handler) (hf : ∀ c s, P s → P (f c s).1) (h : P s) : P (request k f s) := by
  simp only [request, serve]
  repeat' split
  · exact answer_keeps hP _ _ (hf _ _ (rememberManager_keeps hP _ (popRequest_keeps hP h)))
  · exact answer_keeps hP _ _ (popRequest_keeps hP h)
  · exact h

theorem noticeMaskHandler_keeps (c : Cell) (h : P s) : P (noticeMaskHandler c s).1 := hP.loop _ _ (fun b => bounded_of_eq b rfl rfl rfl rfl rfl rfl) h

theorem acctAHandler_keeps (c : Cell) (h : P s) : P (acctAHandler c s).1 := by
  have k : inOrder (acctAForm c).1.seq s.acct = true → P (putAcct { s.acct with halfA := some (acctAForm c).1 } s) := by
    intro o
    refine hP.acct _ _ (fun q => ⟨q.rising, q.bounded, q.between, q.together, q.ordered, ?_⟩) h
    rintro x t e1 e2
    simp only [Option.some.injEq] at e1
    subst e1
    simp only [inOrder] at o
    rw [e2] at o
    exact beq_iff_eq.1 o
  simp only [acctAHandler, refuseOrder]
  repeat' split
  all_goals first
    | exact h
    | exact hP.draws _ _ h
    | exact k (by simpa using ‹¬((!inOrder _ _) = true)›)

omit hP in
/-- A formed record that carries the tail plus 1 joins an ordered queue (R56, R57). -/
theorem Accounts.join {q : AccountQueue} {r : Account} {x : HalfA} (h : Accounts q.queue q.halfA q.tail q.base)
    (e : q.halfA = some x) (er : r.seq = x.seq) (n : q.queue.length < Config.accountCapacity) :
    Accounts (joinQueue r q).queue (joinQueue r q).halfA (joinQueue r q).tail (joinQueue r q).base := by
  have top : ∀ a ∈ q.queue, a.seq < r.seq := by
    intro a ha
    obtain ⟨-, t, ht, hle⟩ := h.between a ha
    have := h.next x t e ht
    omega
  refine ⟨?_, by simp [joinQueue]; omega, ?_, by simp [joinQueue], ?_, by simp [joinQueue]⟩
  · simp only [joinQueue]
    refine List.pairwise_append.2 ⟨h.rising, by simp, ?_⟩
    intro a ha b hb
    simp only [List.mem_singleton] at hb
    subst hb
    exact top a ha
  · intro a ha
    simp only [joinQueue, List.mem_append, List.mem_singleton] at ha
    rcases ha with ha | rfl
    · obtain ⟨⟨b, hb, hle⟩, -⟩ := h.between a ha
      exact ⟨⟨b, by simp [joinQueue, hb], hle⟩, r.seq, rfl, (top a ha).le⟩
    · refine ⟨⟨_, rfl, ?_⟩, _, rfl, le_refl _⟩
      cases hb : q.base with
      | none => simp
      | some b =>
        have := h.together
        obtain ⟨t, ht⟩ := Option.isSome_iff_exists.1 (this.trans (by simp [hb]))
        have h1 := h.ordered b t hb ht
        have h2 := h.next x t e ht
        simp only [Option.getD_some]
        omega
  · intro b t hb ht
    simp only [joinQueue, Option.some.injEq] at hb ht
    subst hb ht
    cases hb : q.base with
    | none => simp
    | some b =>
      have := h.together
      obtain ⟨t, ht⟩ := Option.isSome_iff_exists.1 (this.trans (by simp [hb]))
      have h1 := h.ordered b t hb ht
      have h2 := h.next x t e ht
      simp only [Option.getD_some]
      omega

omit hP in
/-- The half-A slot may always be emptied. -/
theorem Accounts.drop {q : List Account} {a : Option HalfA} {t b : Option Nat} (h : Accounts q a t b) : Accounts q none t b :=
  ⟨h.rising, h.bounded, h.between, h.together, h.ordered, by simp⟩

theorem acctBHandler_keeps (c : Cell) (h : P s) : P (acctBHandler c s).1 := by
  simp only [acctBHandler]
  repeat' split
  all_goals first
    | exact h
    | exact hP.acct _ _ (fun k => k.drop) h
    | (rename_i e _ n; exact hP.acct _ _ (fun k => k.join e rfl (by omega)) h)

theorem recallHandler_keeps (c : Cell) (h : P s) : P (recallHandler c s).1 := by
  simp only [recallHandler]
  repeat' split
  all_goals first
    | exact h
    | (refine hP.acct _ _ (fun k => k.shrink ?_) h
       simp only [markRecalled, List.map_map]
       have : ((fun x : Account => x.seq) ∘ fun r => if r.seq = payNum c 4 3 then { r with recalled := true } else r) =
           fun x => x.seq := by
         funext r
         simp only [Function.comp]
         split <;> rfl
       rw [this])

theorem pullAddHandler_keeps (c : Cell) (h : P s) : P (pullAddHandler c s).1 := by
  simp only [pullAddHandler]
  repeat' split
  all_goals first
    | exact h
    | (rename_i e n; exact hP.pull _ _ (fun k => pullOk_insert k e (by omega)) h)

theorem pullRemoveHandler_keeps (c : Cell) (h : P s) : P (pullRemoveHandler c s).1 := by
  simp only [pullRemoveHandler]
  repeat' split
  all_goals first
    | exact h
    | exact hP.pull _ _ (pullOk_drop _) h

theorem stageHandler_keeps (c : Cell) (h : P s) : P (stageHandler c s).1 := by
  simp only [stageHandler]
  repeat' with_reducible first
    | exact h
    | apply putStaged_keeps hP
    | split

theorem holdHandler_keeps (b : Bool) (c : Cell) (h : P s) : P (holdHandler b c s).1 := by
  simp only [holdHandler]
  repeat' with_reducible first
    | exact h
    | apply putHold_keeps hP

omit hP in
theorem readHandler_keeps (c : Cell) (h : P s) : P (readHandler c s).1 := by
  simp only [readHandler]
  repeat' with_reducible first
    | exact h
    | split

/-- An update of the Line Controller that leaves its state and the latches is kept. -/
theorem putLine_keeps {l : LineCtl} (e1 : l.state = s.line.state) (e2 : l.latches = s.line.latches) (h : P s) :
    P (putLine l s) := hP.line _ _ e1 e2 h

theorem startLine_keeps (h : P s) : P (startLine s) := by
  simp only [startLine]
  repeat' with_reducible first
    | exact h
    | apply setLine_keeps hP
    | refine putLine_keeps hP rfl rfl ?_

theorem startHandler_keeps (c : Cell) (h : P s) : P (startHandler c s).1 := by
  simp only [startHandler]
  repeat' with_reducible first
    | exact h
    | apply startLine_keeps hP
    | apply settle_keeps hP
    | apply setLine_keeps hP
    | split

theorem stopLine_keeps (h : P s) : P (stopLine s) := by
  simp only [stopLine]
  repeat' with_reducible first
    | exact h
    | apply settle_keeps hP
    | apply setLine_keeps hP
    | refine putLine_keeps hP rfl rfl ?_
    | split

theorem stopHandler_keeps (c : Cell) (h : P s) : P (stopHandler c s).1 := stopLine_keeps hP h

theorem cutLine_keeps (h : P s) : P (cutLine s) := by
  simp only [cutLine]
  repeat' with_reducible first
    | exact h
    | apply suspectAll_keeps hP
    | apply setLine_keeps hP
    | split

theorem cutHandler_keeps (c : Cell) (h : P s) : P (cutHandler c s).1 := cutLine_keeps hP h

theorem clearFaultHandler_keeps (c : Cell) (h : P s) : P (clearFaultHandler c s).1 := by
  simp only [clearFaultHandler]
  split
  · exact h
  · exact hP.cleared _ _ _ h

theorem holdExpiry_keeps (h : P s) : P (holdExpiry s) := by
  simp only [holdExpiry]
  repeat' with_reducible first
    | exact h
    | apply pulse_keeps hP
    | apply setLine_keeps hP
    | refine putLine_keeps hP rfl rfl ?_
    | split

theorem recoveryExpiry_keeps (h : P s) : P (recoveryExpiry s) := by
  simp only [recoveryExpiry]
  repeat' with_reducible first
    | exact h
    | apply holdExpiry_keeps hP
    | apply elapse_keeps hP
    | split

theorem enableFeeder_keeps (k : Nat) (h : P s) : P (enableFeeder k s) := by
  simp only [enableFeeder]
  repeat' with_reducible first
    | exact h
    | apply feederBecomes_keeps hP
    | apply putFeeder_keeps hP

theorem feederEnableHandler_keeps (c : Cell) (h : P s) : P (feederEnableHandler c s).1 := by
  simp only [feederEnableHandler]
  repeat' with_reducible first
    | exact h
    | apply enableFeeder_keeps hP
    | split

theorem feederDisableHandler_keeps (c : Cell) (h : P s) : P (feederDisableHandler c s).1 := by
  simp only [feederDisableHandler]
  repeat' with_reducible first
    | exact h
    | apply feederBecomes_keeps hP
    | split

theorem closeGroupHandler_keeps (c : Cell) (h : P s) : P (closeGroupHandler c s).1 := by
  simp only [closeGroupHandler]
  repeat' with_reducible first
    | exact h
    | apply closeBins_keeps hP
    | split

theorem restartGroup_keeps (g : Nat) (h : P s) : P (restartGroup g s) := by
  simp only [restartGroup]
  repeat' with_reducible first
    | exact h
    | apply evalExhausted_keeps hP
    | apply modGroup_keeps hP
    | split

theorem restartGroupHandler_keeps (c : Cell) (h : P s) : P (restartGroupHandler c s).1 := by
  simp only [restartGroupHandler]
  repeat' with_reducible first
    | exact h
    | apply restartGroup_keeps hP
    | split

/-! ### Tables -/

omit hP in
theorem get_put (t : TableStore) (i j : TableId) (x : Table) : (t.put i x).get j = if j = i then x else t.get j := by
  cases i <;> cases j <;> rfl

omit hP in
theorem put_pull (t : TableStore) (i : TableId) (x : Table) : (t.put i x).pull = t.pull := by cases i <;> rfl

/-- A table may be replaced by one whose entries are in canonical form when its own are. -/
theorem putTable_keeps (i : TableId) {x : Table} (e : Memory.wf (s.tables.get i).entries → Memory.wf x.entries) (h : P s) :
    P (putTable i x s) := by
  refine hP.tables _ _ (put_pull _ _ _) (fun j k => ?_) h
  rw [get_put]
  split
  · rename_i e'; subst e'; exact e k
  · exact k

omit hP in
theorem entWrite_mem {m : List (Nat × List Byte)} {i : Nat} {e : List Byte} {p : Nat × List Byte} (h : p ∈ entWrite m i e) :
    p = (i, e) ∧ e ≠ zeroEntry ∨ p ∈ m := by
  induction m with
  | nil =>
    simp only [entWrite] at h
    split at h <;> simp_all
  | cons q m ih =>
    simp only [entWrite] at h
    repeat' split at h
    all_goals simp only [List.mem_cons] at h ⊢
    all_goals tauto

omit hP in
/-- A write keeps the canonical form (R36). -/
theorem wf_entWrite {m : List (Nat × List Byte)} (i : Nat) (e : List Byte) (h : Memory.wf m) : Memory.wf (entWrite m i e) := by
  refine ⟨?_, fun p hp => ?_⟩
  · induction m with
    | nil => simp only [entWrite]; split <;> simp
    | cons q m ih =>
      obtain ⟨h1, h2⟩ := List.pairwise_cons.1 h.1
      have ih' := ih ⟨h2, fun p hp => h.2 p (by simp [hp])⟩
      simp only [entWrite]
      repeat' split
      · exact h.1
      · rename_i k _
        refine List.pairwise_cons.2 ⟨fun a ha => ?_, h.1⟩
        rcases List.mem_cons.1 ha with rfl | ha
        · exact k
        · exact Nat.lt_trans k (h1 a ha)
      · exact h2
      · rename_i k _
        exact List.pairwise_cons.2 ⟨fun a ha => k ▸ h1 a ha, h2⟩
      · refine List.pairwise_cons.2 ⟨fun a ha => ?_, ih'⟩
        rcases entWrite_mem ha with ⟨rfl, -⟩ | ha
        · simp only; omega
        · exact h1 a ha
  · rcases entWrite_mem hp with ⟨rfl, k⟩ | hp
    · exact k
    · exact h.2 p hp

omit hP in
/-- Reading entry j after entry i was written (R36). -/
theorem entRead_entWrite {m : List (Nat × List Byte)} (i j : Nat) (e : List Byte) (h : Memory.wf m) :
    entRead (entWrite m i e) j = if j = i then e else entRead m j := by
  have low : ∀ {m : List (Nat × List Byte)} {a : Nat}, (∀ p ∈ m, a < p.1) → entRead m a = zeroEntry := by
    intro m a k
    induction m with
    | nil => rfl
    | cons q m ih =>
      simp only [entRead]
      have := k q (by simp)
      rw [if_neg (by omega)]
      exact ih fun p hp => k p (by simp [hp])
  induction m with
  | nil =>
    simp only [entWrite]
    split
    · rename_i z; subst z; split <;> simp [entRead]
    · simp only [entRead]
  | cons q m ih =>
    obtain ⟨h1, h2⟩ := List.pairwise_cons.1 h.1
    have ih' := ih ⟨h2, fun p hp => h.2 p (by simp [hp])⟩
    have hl := low h1
    simp only [entWrite]
    by_cases k1 : i < q.1
    · have hi : entRead (q :: m) i = zeroEntry := low fun p hp => by
        rcases List.mem_cons.1 hp with rfl | hp
        · exact k1
        · exact Nat.lt_trans k1 (h1 p hp)
      rw [if_pos k1]
      by_cases z : e = zeroEntry
      · rw [if_pos z]
        by_cases ji : j = i
        · subst ji; rw [if_pos rfl, hi, z]
        · rw [if_neg ji]
      · rw [if_neg z]; rfl
    · rw [if_neg k1]
      by_cases k2 : i = q.1
      · subst k2
        rw [if_pos rfl]
        by_cases z : e = zeroEntry
        · rw [if_pos z]
          by_cases ji : j = q.1
          · subst ji; rw [if_pos rfl, hl, z]
          · rw [if_neg ji]; simp only [entRead]; rw [if_neg ji]
        · rw [if_neg z]
          simp only [entRead]
          split <;> rfl
      · rw [if_neg k2]
        simp only [entRead]
        by_cases jq : j = q.1
        · rw [if_pos jq, if_pos jq, if_neg (by omega)]
        · rw [if_neg jq, if_neg jq, ih']

theorem profileLeaves_keeps (h : P s) : P (profileLeaves s) := pitchLineTrack_keeps hP _ _ _ rfl rfl rfl rfl rfl h

theorem nodesLeave_keeps (h : P s) : P (nodesLeave s) := by
  refine feedersOutOfUse_keeps hP (clearAwaited_keeps hP (lower_keeps hP _ (lower_keeps hP _ (hP.track
    { s with loop := { s.loop with nodeRecs := [] }, line := { s.line with jammed := [], stationLoss := [] } }
    { s.track with positions := false } ?_))))
  exact pitchLoopLine_keeps hP s.pitch _ _ rfl rfl rfl (fun b => bounded_of_eq b rfl rfl rfl rfl rfl rfl) rfl rfl h

theorem jobLeaves_keeps (h : P s) : P (jobLeaves s) := evalPairs_keeps hP (hP.tables _ _ rfl (fun i => by cases i <;> exact id) h)

theorem leaveUse_keeps (t : TableId) (h : P s) : P (leaveUse t s) := by
  simp only [leaveUse]
  repeat' with_reducible first
    | exact h
    | apply profileLeaves_keeps hP
    | apply nodesLeave_keeps hP
    | apply jobLeaves_keeps hP
    | apply groupsOutOfUse_keeps hP
    | split

theorem startLoading_keeps (t : TableId) (h : P s) : P (startLoading t s) := by
  simp only [startLoading]
  split
  · exact h
  · exact leaveUse_keeps hP _ (putTable_keeps hP _ (fun _ => ⟨by simp [Table.toLoading], by simp [Table.toLoading]⟩) h)

theorem loadHandler_keeps (c : Cell) (h : P s) : P (loadHandler c s).1 := by
  simp only [loadHandler]
  repeat' split
  all_goals first
    | exact h
    | exact putTable_keeps hP _ (wf_entWrite _ _) (startLoading_keeps hP _ h)

theorem profileComes_keeps (h : P s) : P (profileComes s) := by
  simp only [profileComes]
  repeat' with_reducible first
    | exact h
    | apply putTrack_keeps hP

theorem nodesCome_keeps (h : P s) : P (nodesCome s) := feedersIntoUse_keeps hP (hP.loop _ _ (fun b => bounded_of_eq b rfl rfl rfl rfl rfl rfl) h)

theorem jobComes_keeps (e : List (List Byte)) (h : P s) : P (jobComes e s) := evalPairs_keeps hP (hP.tables _ _ rfl (fun i => by cases i <;> exact id) h)

theorem comeIntoUse_keeps (t : TableId) (e : List (List Byte)) (h : P s) : P (comeIntoUse t e s) := by
  simp only [comeIntoUse]
  repeat' with_reducible first
    | exact h
    | apply profileComes_keeps hP
    | apply nodesCome_keeps hP
    | apply jobComes_keeps hP
    | apply groupsIntoUse_keeps hP
    | split

theorem evalTableBad_keeps (h : P s) : P (evalTableBad s) := by
  simp only [evalTableBad]
  repeat' with_reducible first
    | exact h
    | apply lower_keeps hP
    | split

theorem commitBad_keeps (t : TableId) (n : Nat) (f : Failure) (h : P s) : P ((commitBad t n f s).1) := by
  simp only [commitBad]
  exact raise_keeps hP _ _ _ (putTable_keeps hP t (x := { s.tables.get t with state := .bad, failCode := f.1, failIndex := f.2 }) id h)

theorem commitValid_keeps (t : TableId) (n m : Nat) (e : List (List Byte)) (h : P s) : P ((commitValid t n m e s).1) := evalTableBad_keeps hP (comeIntoUse_keeps hP _ _ (putTable_keeps hP t (x := (s.tables.get t).committed n m) id h))

theorem commitLocked_keeps (t : TableId) (n : Nat) (h : P s) : P ((commitLocked t n s).1) := putTable_keeps hP t (x := { s.tables.get t with failCode := 10, failIndex := Config.noIndex }) id h

theorem judgeCommit_keeps (t : TableId) (a b c : Nat) (h : P s) : P ((judgeCommit t a b c s).1) := by
  simp only [judgeCommit]
  repeat' with_reducible first
    | exact h
    | apply commitBad_keeps hP
    | apply commitLocked_keeps hP
    | apply commitValid_keeps hP
    | split

theorem commitHandler_keeps (c : Cell) (h : P s) : P (commitHandler c s).1 := by
  simp only [commitHandler]
  repeat' with_reducible first
    | exact h
    | apply judgeCommit_keeps hP
    | split

theorem putDispatcher_keeps (d : Dispatcher) (h : P s) : P (putDispatcher d s) := hP.loop _ _ (fun b => bounded_of_eq b rfl rfl rfl rfl rfl rfl) h

theorem fetchHandler_keeps (c : Cell) (h : P s) : P (fetchHandler c s).1 := by
  simp only [fetchHandler]
  repeat' with_reducible first
    | exact h
    | apply putDispatcher_keeps hP
    | split

theorem placeRecord_keeps (j : FetchJob) (n : s.loop.replies.length < Config.replyCapacity) (h : P s) : P (placeRecord j s) := by
  simp only [placeRecord]
  split
  · exact putDispatcher_keeps hP _ h
  · exact putDispatcher_keeps hP _ (outcomesLoop_keeps hP _ _ (reply_bounded _ n) h)

theorem replyPlace_keeps (h : P s) : P (replyPlace s) := by
  simp only [replyPlace]
  split
  · split
    · exact putDispatcher_keeps hP _ (hP.loop _ _ (reply_bounded _ (by assumption)) h)
    · exact placeRecord_keeps hP _ (by assumption) h
    · exact h
  · exact h

theorem clearRest_keeps (h : P s) : P (clearRest s) := acctTablesLine_keeps hP _ _ _ (fun _ => ⟨by simp [AccountQueue.cold], by simp [AccountQueue.cold],
    by simp [AccountQueue.cold], rfl, by simp [AccountQueue.cold], by simp [AccountQueue.cold]⟩) rfl
    (fun i => by cases i <;> exact id) rfl rfl (feedersRunClear_keeps hP h)

theorem runClear_keeps (h : P s) : P ((runClear s).1) := clearRest_keeps hP (presortRunClear_keeps hP (judgeHeld_keeps hP (trackRunClear_keeps hP
    (stageRunClear_keeps hP (hP.outcomes _ _ h)))))

theorem clearRunHandler_keeps (c : Cell) (h : P s) : P (clearRunHandler c s).1 := by
  simp only [clearRunHandler]
  repeat' with_reducible first
    | exact h
    | apply runClear_keeps hP
    | split

theorem deviceResetHandler_keeps (c : Cell) (h : P s) : P (deviceResetHandler c s).1 := by
  simp only [deviceResetHandler]
  repeat' with_reducible first
    | exact h
    | apply putDispatcher_keeps hP
    | split

theorem startRollTimer_keeps (h : P s) : P (startRollTimer s) := hP.loop _ _ (fun b => bounded_of_eq b rfl rfl rfl rfl rfl rfl) h

theorem coldResetEnd_keeps (h : P s) : P (coldResetEnd s) := readEstop_keeps hP (startRollTimer_keeps hP (hP.pins _ _ h))

/-! ### Commands and steps -/

omit hP in
theorem run_next {ok : Bool} {f : State → State} {t : State} (e : run ok f s = .next t) (hf : P (f s)) (h : P s) : P t := by
  cases e
  split
  · exact hf
  · exact h

/-- Every command keeps P, once the cold values and the device-reset values have it. -/
theorem exec_keeps (cold : ∀ p d q, P (State.cold p d q)) (device : ∀ s, P s → P (deviceValues s)) {i : Instr} {t : State}
    (e : exec i s = .next t) (h : P s) : P t := by
  cases i <;> simp only [exec] at e
  case coldReset => cases e; exact cold _ _ _
  case pitchMark n l => exact run_next e (pitchMark_keeps hP _ _ h) h
  case index => exact run_next e (putPitch_keeps hP rfl rfl rfl h) h
  case encoderStep a b =>
    cases e
    refine hP.pins _ _ ?_
    split
    · exact encoderStep_keeps hP _ _ h
    · exact h
  case estopAssert =>
    cases e
    repeat' split
    · exact hP.pins _ _ (estopFall_keeps hP h)
    · exact hP.pins _ _ h
    · exact h
  case estopRise =>
    cases e
    repeat' split
    · exact h
    · exact hP.pins _ _ (estopRise_keeps hP h)
    · exact hP.pins _ _ h
  case estopReleaseTimerExpiry => exact run_next e (estopRelease_keeps hP h) h
  case meterStallEntry => exact run_next e (meterStall_keeps hP h) h
  case indexSearchExpiry => exact run_next e (searchExpiry_keeps hP h) h
  case setDeadlineExpiry => exact run_next e (deadlineExpiry_keeps hP h) h
  case cleanPitchCountExpiry => exact run_next e (cleanExpiry_keeps hP h) h
  case recoveryHoldExpiry => exact run_next e (recoveryExpiry_keeps hP h) h
  case rollTimerExpiry => exact run_next e (rollTimerEnd_keeps hP h) h
  case crcErrorDiscard c w => exact run_next e (crcDiscard_keeps hP _ _ h) h
  case forwardedCell c => exact run_next e (forwardCell_keeps hP _ h) h
  case rollReturn q m => exact run_next e (rollReturned_keeps hP _ _ h) h
  case unknownKindCell a k => exact run_next e (unknownCell_keeps hP _ h) h
  case sheet => exact run_next e (report_keeps hP _ _ _ (fun _ _ _ k => settle_keeps hP (routeSheet_keeps hP _ _ k)) h) h
  case done => exact run_next e (report_keeps hP _ _ _ (fun _ _ _ k => doneReport_keeps hP _ _ _ _ _ _ _ k) h) h
  case envread => exact run_next e (report_keeps hP _ _ _ (fun _ _ _ k => trackEnvread_keeps hP _ _ _ k) h) h
  case status => exact run_next e (report_keeps hP _ _ _ (fun _ _ _ k => statusReport_keeps hP _ _ _ _ _ k) h) h
  case binEmptied =>
    exact run_next e (report_keeps hP _ _ _ (fun _ _ _ k => binReport_keeps hP _ (fun _ _ k => binEmptied_keeps hP _ k) _ k) h) h
  case binOffline =>
    exact run_next e (report_keeps hP _ _ _ (fun _ _ _ k => binReport_keeps hP _ (fun _ _ k => binOffline_keeps hP _ k) _ k) h) h
  case binOnline =>
    exact run_next e (report_keeps hP _ _ _ (fun _ _ _ k => binReport_keeps hP _ (fun _ _ k => binOnline_keeps hP _ k) _ k) h) h
  case unknownBinReport => exact run_next e (report_keeps hP _ _ _ (fun _ _ _ k => bumpRun_keeps hP _ k) h) h
  case managementCellArrival c => exact run_next e (managementArrival_keeps hP _ h) h
  case load => exact run_next e (request_keeps hP _ _ (fun c _ => loadHandler_keeps hP c) h) h
  case commit => exact run_next e (request_keeps hP _ _ (fun c _ => commitHandler_keeps hP c) h) h
  case read => exact run_next e (request_keeps hP _ _ (fun c _ => readHandler_keeps c) h) h
  case acctA => exact run_next e (request_keeps hP _ _ (fun c _ => acctAHandler_keeps hP c) h) h
  case acctB => exact run_next e (request_keeps hP _ _ (fun c _ => acctBHandler_keeps hP c) h) h
  case pullAdd => exact run_next e (request_keeps hP _ _ (fun c _ => pullAddHandler_keeps hP c) h) h
  case pullRemove => exact run_next e (request_keeps hP _ _ (fun c _ => pullRemoveHandler_keeps hP c) h) h
  case recallRequest => exact run_next e (request_keeps hP _ _ (fun c _ => recallHandler_keeps hP c) h) h
  case stage => exact run_next e (request_keeps hP _ _ (fun c _ => stageHandler_keeps hP c) h) h
  case hold => exact run_next e (request_keeps hP _ _ (fun c _ => holdHandler_keeps hP true c) h) h
  case holdRelease => exact run_next e (request_keeps hP _ _ (fun c _ => holdHandler_keeps hP false c) h) h
  case start => exact run_next e (request_keeps hP _ _ (fun c _ => startHandler_keeps hP c) h) h
  case stop => exact run_next e (request_keeps hP _ _ (fun c _ => stopHandler_keeps hP c) h) h
  case cut => exact run_next e (request_keeps hP _ _ (fun c _ => cutHandler_keeps hP c) h) h
  case feederEnable => exact run_next e (request_keeps hP _ _ (fun c _ => feederEnableHandler_keeps hP c) h) h
  case feederDisable => exact run_next e (request_keeps hP _ _ (fun c _ => feederDisableHandler_keeps hP c) h) h
  case closeGroup => exact run_next e (request_keeps hP _ _ (fun c _ => closeGroupHandler_keeps hP c) h) h
  case restartGroup => exact run_next e (request_keeps hP _ _ (fun c _ => restartGroupHandler_keeps hP c) h) h
  case clearFault => exact run_next e (request_keeps hP _ _ (fun c _ => clearFaultHandler_keeps hP c) h) h
  case fetch => exact run_next e (request_keeps hP _ _ (fun c _ => fetchHandler_keeps hP c) h) h
  case clearRun => exact run_next e (request_keeps hP _ _ (fun c _ => clearRunHandler_keeps hP c) h) h
  case deviceReset => exact run_next e (request_keeps hP _ _ (fun c _ => deviceResetHandler_keeps hP c) h) h
  case noticeMask => exact run_next e (request_keeps hP _ _ (fun c _ => noticeMaskHandler_keeps hP c) h) h
  case replyPlace => exact run_next e (replyPlace_keeps hP h) h
  case cellSent => exact run_next e (cellSent_keeps hP h) h
  case deviceResetEffect =>
    refine run_next e ?_ h
    split
    · exact readEstop_keeps hP (startRollTimer_keeps hP (device _ h))
    · exact h
  case coldResetEnd =>
    cases e
    split
    · exact h
    · exact coldResetEnd_keeps hP h

/-- Every step keeps P, once the commands waiting do not matter to it. -/
theorem step_keeps (cold : ∀ p d q, P (State.cold p d q)) (device : ∀ s, P s → P (deviceValues s))
    (queue : ∀ (s : State) l, P s → P { s with pending := l }) {t : State} (e : step s = .next t) (h : P s) : P t := by
  simp only [step] at e
  split at e
  · exact exec_keeps hP cold device e (queue _ _ h)
  · cases e
    split
    · exact elapse_keeps hP _ h
    · exact h

end Sys2Proof.Machine
end

