-- ==== Sys2Proof/Laws/PairFrames.lean ====
section
/-! SUPPORT. Conditions that never mark a set suspect leave the stage and the track: the feeders' and the pairs' (R104, R122, R155). -/

namespace Sys2Proof.Machine

variable (s : State)

@[simp] theorem raise_essential_sets (a b : Nat) :
    (raise .essentialLost a b s).stage = s.stage ∧ (raise .essentialLost a b s).track = s.track := by
  have r : ∀ t : State, (respondEssential t).stage = t.stage ∧ (respondEssential t).track = t.track := by
    intro t
    simp only [respondEssential]
    repeat' split
    all_goals simp
  simp [raise, raiseFor, respond, r]

@[simp] theorem raise_fault_sets (a b : Nat) :
    (raise .feederFault a b s).stage = s.stage ∧ (raise .feederFault a b s).track = s.track := by
  simp [raise, raiseFor, respond]

@[simp] theorem raise_tableBad_sets (a b : Nat) :
    (raise .tableBad a b s).stage = s.stage ∧ (raise .tableBad a b s).track = s.track := by
  simp [raise, raiseFor, respond]

@[simp] theorem evalPairs_sets : (evalPairs s).stage = s.stage ∧ (evalPairs s).track = s.track := by
  simp only [evalPairs]
  split
  · simp
  · split <;> simp

@[simp] theorem evalFault_sets : (evalFault s).stage = s.stage ∧ (evalFault s).track = s.track := by
  simp only [evalFault]
  split <;> simp

@[simp] theorem feederBecomes_sets (k : Nat) (t : FeederState) :
    (feederBecomes k t s).stage = s.stage ∧ (feederBecomes k t s).track = s.track := by
  simp only [feederBecomes]
  split <;> simp [putFeeder]

end Sys2Proof.Machine
end

