-- ==== Sys2Proof/Laws/Pockets.lean ====
section
/-! SUPPORT. No operation of a pitch but the move itself changes the pocket numbers the records hold (R101). -/

namespace Sys2Proof.Machine

/-- The pocket numbers of the track's records, from position 0. -/
def pockets (s : State) : List (Option Nat) := s.track.recs.map (·.pocket)

theorem pockets_of {s t : State} (h : t.track = s.track) : pockets t = pockets s := by simp [pockets, h]

theorem notice_pockets (c d) (s : State) : pockets (notice c d s) = pockets s := pockets_of (by simp)

theorem suspectAll_pockets (s : State) : pockets (suspectAll s) = pockets s := by
  have : ∀ u : State, pockets (suspectTrack u) = pockets u := by
    intro u
    simp only [pockets, suspectTrack]
    apply List.ext_getElem
    · simp
    · intro i h1 h2
      simp only [List.getElem_map, List.getElem_mapIdx]
      rw [apply_ite PocketRec.pocket]; simp
  rw [suspectAll, this]; rfl

theorem setLine_pockets (n c) (s : State) : pockets (setLine n c s) = pockets s := pockets_of (by simp)

theorem lower_pockets (k) (s : State) : pockets (lower k s) = pockets s := pockets_of (by simp)

theorem putLine_pockets (l : LineCtl) (s : State) : pockets { s with line := l } = pockets s := rfl

theorem takeRaising_pockets (k a b) (s : State) : pockets (takeRaising k a b s) = pockets s := pockets_of (by simp)

theorem respondRecovery_pockets (c) (s : State) : pockets (respondRecovery c s) = pockets s := by
  simp only [respondRecovery]; split
  · simp only [enterRecovery, putLine_pockets, suspectAll_pockets, setLine_pockets]
  · rfl

theorem respond_pockets (k r) (s : State) : pockets (respond k r s) = pockets s := by
  cases k <;> simp only [respond, respondRecovery_pockets]
  · simp only [respondEstop]; split <;> simp only [setLine_pockets, suspectAll_pockets]
  · split <;> simp only [respondRecovery_pockets]
  · simp only [respondEssential]; repeat' split
    all_goals simp only [setLine_pockets]
  · split <;> simp only [setLine_pockets]
  · simp only [respondGroup]; split <;> first | simp only [setLine_pockets] | rfl

theorem raise_pockets (k a b) (s : State) : pockets (raise k a b s) = pockets s := by
  simp only [raise, raiseFor]; split <;> simp only [lower_pockets, respond_pockets, takeRaising_pockets]

theorem modPocket_pockets (p : Nat) (f : PocketRec → PocketRec) (h : ∀ r, (f r).pocket = r.pocket) (s : State) :
    pockets (modPocket p f s) = pockets s := by
  simp only [pockets, modPocket]
  apply List.ext_getElem
  · simp
  · intro i h1 h2
    simp only [List.getElem_map, List.getElem_modify]
    split <;> simp [h]

theorem markPocket_pockets (p w) (s : State) : pockets (markPocket p w s) = pockets s := by
  simp only [markPocket]; split
  · (refine modPocket_pockets _ _ ?_ _; intro r; rfl)
  · rfl

theorem putCount_pockets (r n) (s : State) : pockets (putCount r n s) = pockets s := by cases r <;> rfl

theorem timingError_pockets (r) (s : State) : pockets (timingError r s) = pockets s := by
  simp only [timingError]; split <;> simp only [raise_pockets, putCount_pockets]

theorem missingConfirmation_pockets (r) (s : State) : pockets (missingConfirmation r s) = pockets s := by
  simp only [missingConfirmation, raise_pockets, putCount_pockets]

theorem envelopeCheck_pockets (p k) (s : State) : pockets (envelopeCheck p k s) = pockets s := by
  simp only [envelopeCheck]; repeat' split
  all_goals first | rfl | (try rw [markPocket_pockets]); (refine modPocket_pockets _ _ ?_ _; intro r; rfl)

theorem putFeeder_pockets (k r) (s : State) : pockets (putFeeder k r s) = pockets s := rfl

theorem evalPairs_pockets (s : State) : pockets (evalPairs s) = pockets s := by
  simp only [evalPairs]; repeat' split
  · rw [raise_pockets]; rfl
  · rfl
  · rw [lower_pockets]; rfl

theorem feederBecomes_pockets (k t) (s : State) : pockets (feederBecomes k t s) = pockets s := by
  simp only [feederBecomes, evalFault, evalPairs_pockets]; repeat' split
  all_goals simp only [lower_pockets, raise_pockets, putFeeder_pockets]

theorem faultIf_pockets (b k) (s : State) : pockets (faultIf b k s) = pockets s := by
  simp only [faultIf]; split
  · exact feederBecomes_pockets _ _ _
  · rfl

theorem feederMissing_pockets (k) (s : State) : pockets (feederMissing k s) = pockets s := by
  simp only [feederMissing, faultIf_pockets, putFeeder_pockets]

theorem closeAt_pockets (p) (s : State) : pockets (closeAt s p) = pockets s := by
  have a : ∀ f : PocketRec → PocketRec, (∀ r, (f r).pocket = r.pocket) → pockets (modPocket p f s) = pockets s := fun f h => modPocket_pockets p f h s
  simp only [closeAt]
  split
  · rfl
  · rename_i b _
    have e : pockets (modPocket p (fun r => { r with awaited := none }) s) = pockets s := by (refine a _ ?_; intro r; rfl)
    generalize modPocket p (fun r => { r with awaited := none }) s = u at e
    have m : ∀ k (v : State), pockets (modPocket p (planResult k .miss) v) = pockets v := fun k v => modPocket_pockets _ _ (by intro r; rfl) _
    split <;> simp only [envelopeCheck_pockets, feederMissing_pockets, missingConfirmation_pockets, timingError_pockets, markPocket_pockets, m, e]

theorem writeRecord_pockets (r) (s : State) : pockets (writeRecord r s) = pockets s := pockets_of (by simp)

theorem issueOrder_pockets (n p) (s : State) : pockets (issueOrder n p s) = pockets s := pockets_of (by simp)

theorem departGate_pockets (b) (s : State) : pockets (departGate b s) = pockets s := by
  simp only [departGate]; repeat' split
  all_goals first | rfl | (rw [writeRecord_pockets]; (refine modPocket_pockets _ _ ?_ _; intro r; rfl))

theorem departExit_pockets (b) (s : State) : pockets (departExit b s) = pockets s := by
  simp only [departExit]; repeat' split
  all_goals first | rfl | (rw [writeRecord_pockets]; (refine modPocket_pockets _ _ ?_ _; intro r; rfl))

theorem await_pockets (p n r t) (s : State) : pockets (await p n r t s) = pockets s := by
  simp only [await]; (refine modPocket_pockets _ _ ?_ _; intro r; rfl)

theorem setPocket_pockets (p : Nat) (r r') (s : State)
    (h : pocketAt p s = some r) (e : r'.pocket = r.pocket) :
    pockets (modPocket p (fun _ => r') s) = pockets s := by
  simp only [pockets, modPocket]
  apply List.ext_getElem
  · simp
  · intro i h1 h2
    simp only [List.getElem_map, List.getElem_modify]
    split
    · rename_i e2; subst e2
      simp only [pocketAt] at h
      rw [e]; rw [List.getElem?_eq_getElem (by simpa using h2)] at h; simp at h; rw [h]
    · rfl

theorem feedDecision_pocket (k x r) (s : State) : (feedDecision k x r s).1.pocket = r.pocket := by
  simp only [feedDecision]; repeat' split
  all_goals rfl

theorem exitDecision_pockets (g n) (s : State) : pockets (exitDecision g n s).1 = pockets s := by
  have mg : ∀ g f (s : State), pockets (modGroup g f s) = pockets s := fun _ _ _ => rfl
  have pb : ∀ g f (s : State), pockets (putBin g f s) = pockets s := fun _ _ _ => rfl
  have h1 : ∀ g (s : State), pockets (exhaust g s) = pockets s := by
    intro g s; simp only [exhaust]; split <;> simp only [raise_pockets, mg]
  have h2 : ∀ g w (s : State), pockets (overflowPiece g w s).1 = pockets s := by
    intro g w s; simp only [overflowPiece]; split <;> first | rw [notice_pockets]; rfl | rfl
  have h3 : ∀ g (s : State), pockets (advanceIndex g s) = pockets s := by
    intro g s; simp only [advanceIndex]; repeat' split
    all_goals simp only [h1, mg]
  have h4 : ∀ b c a (s : State), pockets (closeTray b c a s) = pockets s := by
    intro b c a s; simp only [closeTray, writeRecord_pockets, pb]
  have h5 : ∀ g b n (s : State), pockets (placePiece g b n s).1 = pockets s := by
    intro g b n s; simp only [placePiece]; repeat' split
    all_goals simp only [h3, h4, pb, openTray, mg]
  simp only [exitDecision]; repeat' split
  all_goals simp only [h1, h2, h5, mg]

theorem arriveAt_pockets (n) (s : State) : pockets (arriveAt s n) = pockets s := by
  simp only [arriveAt]
  split
  · rfl
  · rename_i r h
    split
    · simp only [arriveFeeder]
      split <;> simp only [issueOrder_pockets, await_pockets] <;> exact setPocket_pockets _ _ _ _ h (feedDecision_pocket _ _ _ _)
    · exact await_pockets _ _ _ _ _
    · simp only [arriveEnvelope, issueOrder_pockets, await_pockets]
    · simp only [arriveCaliper]
      split <;> simp only [issueOrder_pockets, await_pockets]
      (refine modPocket_pockets _ _ ?_ _; intro r; rfl)
    · simp only [arriveGate]
      have e : ∀ g, pockets (modPocket n.position (fun r => { r with gateOrder := g }) s) = pockets s := fun g => (by (refine modPocket_pockets _ _ ?_ _; intro r; rfl))
      split <;> simp only [issueOrder_pockets, await_pockets, e]
    · simp only [arriveSorter, issueOrder_pockets, await_pockets]
      refine (modPocket_pockets _ _ ?_ _).trans (exitDecision_pockets _ _ _)
      intro r; rfl
    · rfl

theorem arriveOff_pockets (n) (s : State) : pockets (arriveOff s n) = pockets s := by
  simp only [arriveOff]
  split
  all_goals first | rfl | (refine modPocket_pockets _ _ ?_ _; intro r; rfl)

theorem trackClose_pockets (s : State) : pockets (trackClose s) = pockets s :=
  foldl_keeps pockets _ (fun s p => closeAt_pockets p s) _ _

theorem trackArrive_pockets (b : Bool) (s : State) : pockets (trackArrive b s) = pockets s := by
  simp only [trackArrive]
  split
  · exact foldl_keeps pockets _ (fun s n => arriveAt_pockets n s) _ _
  · exact foldl_keeps pockets _ (fun s n => arriveOff_pockets n s) _ _

end Sys2Proof.Machine
end

