-- ==== Sys2Proof/Laws/Requests.lean ====
section
/-! SUPPORT. What the shared operations of requests, station reports, records by number and receivers answer, each said once. -/

namespace Sys2Proof.Machine

/-! ### Records by number -/

theorem vget_vset {α : Type} [Inhabited α] {n : Nat} (v : Vector α n) (i j : Nat) (x : α) (h : j < n) :
    vget (vset v i x) j = if i = j then x else vget v j := by
  simp only [vget, vset, h, dif_pos]
  rw [Vector.getElem_setIfInBounds]

theorem vset_vset {α : Type} {n : Nat} (v : Vector α n) (i : Nat) (x y : α) : vset (vset v i x) i y = vset v i y := by
  apply Vector.ext; intro j hj
  simp only [vset, Vector.getElem_setIfInBounds]; split <;> rfl

theorem vset_vget {α : Type} [Inhabited α] {n : Nat} (v : Vector α n) (i : Nat) : vset v i (vget v i) = v := by
  apply Vector.ext; intro j hj
  simp only [vset, Vector.getElem_setIfInBounds]; split
  · rename_i e; subst e; simp [vget, hj]
  · rfl

theorem modify_eq_set {α : Type} (l : List α) (i : Nat) (h : i < l.length) (f : α → α) :
    l.modify i f = l.set i (f l[i]) := by
  apply List.ext_getElem?
  intro j
  rw [List.getElem?_modify, List.getElem?_set]
  split
  · rename_i e; subst e; simp [h]
  · simp

/-! ### Sorting by a key -/

theorem insertBy_perm {α : Type} (key : α → Nat) (x : α) (l : List α) : (insertBy key x l).Perm (x :: l) := by
  induction l with
  | nil => exact List.Perm.refl _
  | cons y l ih =>
    simp only [insertBy]
    split
    · exact List.Perm.refl _
    · exact (ih.cons y).trans (List.Perm.swap x y l)

theorem insertBy_sorted {α : Type} (key : α → Nat) (x : α) (l : List α) (h : l.Pairwise fun a b => key a ≤ key b) :
    (insertBy key x l).Pairwise fun a b => key a ≤ key b := by
  induction l with
  | nil => simp [insertBy]
  | cons y l ih =>
    obtain ⟨h1, h2⟩ := List.pairwise_cons.1 h
    simp only [insertBy]
    split
    · rename_i le
      refine List.pairwise_cons.2 ⟨fun z hz => ?_, h⟩
      rcases List.mem_cons.1 hz with rfl | hz
      · exact le
      · exact Nat.le_trans le (h1 z hz)
    · rename_i le
      refine List.pairwise_cons.2 ⟨fun z hz => ?_, ih h2⟩
      rcases List.mem_cons.1 ((insertBy_perm key x l).mem_iff.1 hz) with rfl | hz
      · omega
      · exact h1 z hz

/-- Sorting by a key gives the entries of the list, each as often, in ascending order of the key (R93, R116). -/
theorem sortBy_spec {α : Type} (key : α → Nat) (l : List α) :
    (sortBy key l).Perm l ∧ (sortBy key l).Pairwise fun a b => key a ≤ key b := by
  induction l with
  | nil => exact ⟨List.Perm.refl _, List.Pairwise.nil⟩
  | cons x l ih => exact ⟨(insertBy_perm key x _).trans (ih.1.cons x), insertBy_sorted key x _ ih.2⟩

/-! ### Requests and station reports -/

/-- A request that the dispatcher takes and admits is answered with what its handler gives (R25, R26, R27). -/
theorem request_of_takes {kind : Nat} {c : Cell} {s : State} (h : Takes kind c s) (f : Handler) :
    run true (request kind f) s = .next (answer c (f c (handed c s)).2 (f c (handed c s)).1) := by
  have hd := h.oldest
  have e : s.loop.mgmtIn = c :: s.loop.mgmtIn.tail := by
    cases q : s.loop.mgmtIn with
    | nil => simp [q] at hd
    | cons a b => simp [q] at hd; simp [hd]
  have nr : nextRequest kind s = some c := by
    simp only [nextRequest]; rw [e]; simp [h.kindIs, idle, h.idle]
  have ad : admitted c (popRequest s) = true := h.admitted
  have hh : rememberManager c (popRequest s) = handed c s := by
    by_cases k : s.tables.node.state = .valid
    · simp [rememberManager, popRequest, handed, k]
    · simp [rememberManager, popRequest, handed, k]
  simp only [run, h.running, Bool.and_self, if_true, request, nr, serve, ad, hh]

/-- An accepted station report does what its handler does (R19). -/
theorem report_of_reports {kind : Nat} {src : Byte} {n : NodeEntry} {r : Role} {s : State} (h : Reports kind src n r s)
    (f : NodeEntry → Role → State → State) : run true (report kind src f) s = .next (f n r s) := by
  have h0 : ¬ src = 0#8 := h.address
  simp [run, h.running, h0, report, h.accepted]

/-! ### READ -/

/-- Every index that a READ of all entries goes through has an entry, a node of the node table with its record (R28). -/
theorem readEntry_of_entryIndexes (item k : Nat) (s : State) (ks : List Nat) (h : entryIndexes item s = some ks) (hm : k ∈ ks)
    (hn : item = 3 → k < s.loop.nodeRecs.length) : (readEntry item k s).isSome = true := by
  unfold entryIndexes at h
  split at h <;> simp only [Option.some.injEq, reduceCtorEq] at h
  all_goals subst h
  all_goals simp only [List.mem_map, List.mem_range, allFeeders] at hm
  · simp [readEntry, readNode, hm, hn rfl]
  · obtain ⟨j, hj, rfl⟩ := hm
    simp only [readEntry, Option.isSome_map]
    clear hn; revert j; decide
  · obtain ⟨j, hj, rfl⟩ := hm
    simp only [readEntry, Option.isSome_map]
    clear hn; revert j; decide
  all_goals first
    | (simp only [readEntry, inRange]; rw [if_pos ⟨Nat.zero_le _, Nat.le_of_lt_succ hm⟩]; rfl)
    | (obtain ⟨j, hj, rfl⟩ := hm; simp only [readEntry, inRange]; rw [if_pos ⟨by omega, by omega⟩]; rfl)
    | simp [readEntry, hm]

/-! ### Feeders -/

/-- A feeder's change of state changes its own record only (R110). -/
theorem feederRec_feederBecomes (k j : Nat) (st : FeederState) (s : State) (h1 : 1 ≤ k) (h2 : k ≤ 12) (h3 : 1 ≤ j) :
    feederRec j (feederBecomes k st s) = if j = k then { feederRec k s with state := st } else feederRec j s := by
  have e : (feederBecomes k st s).feeders.recs = (putFeeder k { feederRec k s with state := st } s).feeders.recs := by
    have a1 : ∀ u : State, (evalPairs u).feeders.recs = u.feeders.recs := by
      intro u; simp only [evalPairs]; repeat' split
      all_goals simp
    have a2 : ∀ u : State, (evalFault u).feeders = u.feeders := by intro u; simp only [evalFault]; split <;> simp
    simp only [feederBecomes, a1, a2]; split <;> simp
  simp only [feederRec, e, putFeeder, vget, vset]
  by_cases g : j = k
  · subst g; simp [show j - 1 < 12 by omega]
  · rw [if_neg g]
    split
    · rw [Vector.getElem_setIfInBounds, if_neg (by omega)]
    · rfl

/-- A feeder that becomes FAULTED raises FEEDER FAULT with its number (R115). -/
theorem latch_feederFault_feederBecomes (k : Nat) (s : State) (h1 : 1 ≤ k) (h2 : k ≤ 12) :
    latch .feederFault (feederBecomes k .faulted s) = (latch .feederFault s).raised 2 k := by
  have l1 : ∀ u : State, latch .feederFault (evalPairs u) = latch .feederFault u := by
    intro u; simp only [evalPairs]; repeat' split
    · rw [latch_raise _ _ _ (by simp) (by simp)]; simp; rfl
    · rfl
    · rw [latch_lower_of_ne _ (by simp)]; rfl
  simp only [feederBecomes, l1, evalFault]
  let u := raise .feederFault 2 k (putFeeder k { feederRec k s with state := .faulted } s)
  have hf : (u.feeders.recs.toList.any fun r => r.state == .faulted) = true := by
    have : u.feeders.recs = vset s.feeders.recs (k - 1) { feederRec k s with state := .faulted } := by simp [u, putFeeder]
    rw [this, List.any_eq_true]
    refine ⟨{ feederRec k s with state := .faulted }, ?_, by simp⟩
    simp only [vset, Vector.mem_toList_iff]
    rw [Vector.mem_iff_getElem]
    refine ⟨k - 1, by omega, ?_⟩
    simp
  simp only [if_true]
  rw [if_pos hf]
  show latch .feederFault u = _
  simp only [u]
  rw [latch_raise _ _ _ (by simp) (by simp), if_pos rfl]; rfl

/-! ### Receivers -/

/-- Adding to a list without repeats those of another list that it lacks: it stays without repeats, and holds both. -/
theorem foldl_addNew (order : List Receiver) : ∀ l : List Receiver, l.Nodup →
    (order.foldl (fun l r => if r ∈ l then l else l ++ [r]) l).Nodup ∧
    ∀ r, r ∈ order.foldl (fun l r => if r ∈ l then l else l ++ [r]) l ↔ r ∈ l ∨ r ∈ order := by
  induction order with
  | nil => intro l h; simp [h]
  | cons a order ih =>
    intro l h
    have h' : (if a ∈ l then l else l ++ [a]).Nodup := by
      split
      · exact h
      · rename_i m; simp only [List.nodup_append, List.nodup_singleton, List.mem_singleton]
        exact ⟨h, trivial, fun x hx y hy e => m (hy ▸ e ▸ hx)⟩
    obtain ⟨i1, i2⟩ := ih _ h'
    refine ⟨i1, fun r => ?_⟩
    rw [List.foldl_cons, i2]
    by_cases m : a ∈ l
    · simp only [if_pos m, List.mem_cons]
      exact ⟨fun h => h.elim .inl fun h => .inr (.inr h), fun h => h.elim .inl fun h => h.elim (fun e => .inl (e ▸ m)) .inr⟩
    · simp only [if_neg m, List.mem_append, List.mem_cons, List.not_mem_nil, or_false]
      tauto

/-- Every receiver takes the notice once, whatever order the operand names (R4). -/
theorem receiverOrder_each_once (order : List Receiver) : (receiverOrder order).Nodup ∧ ∀ r, r ∈ receiverOrder order := by
  obtain ⟨h1, h2⟩ := foldl_addNew (order ++ [.track, .collation, .account, .line, .loop]) [] List.nodup_nil
  exact ⟨h1, fun r => (h2 r).2 (.inr (List.mem_append_right _ (by cases r <;> simp)))⟩
end Sys2Proof.Machine
end

