-- ==== Sys2Proof/Laws/StageMarks.lean ====
section
/-! SUPPORT. The Track Unit's taking of a pitch notice changes the stage by suspect marking only (R89, R101). -/

namespace Sys2Proof.Machine

/-- The stage stands as it stood, or with its sets marked suspect (R89). -/
def StageMarked (s t : State) : Prop := t.stage = s.stage ∨ t.stage = (suspectStage s).stage

theorem markSuspect_idem (x : SetRec) : markSuspect (markSuspect x) = markSuspect x := by
  simp only [markSuspect]
  split
  · rfl
  · simp

theorem suspectStage_idem (s : State) : (suspectStage (suspectStage s)).stage = (suspectStage s).stage := by
  have e : (markSuspect ∘ markSuspect) = markSuspect := funext markSuspect_idem
  simp [suspectStage, e]

theorem suspectStage_of {s t : State} (h : t.stage = s.stage) : (suspectStage t).stage = (suspectStage s).stage := by
  simp [suspectStage, h]

theorem StageMarked.of_eq {s t : State} (h : t.stage = s.stage) : StageMarked s t := .inl h

theorem StageMarked.trans {s t u : State} (h : StageMarked s t) (k : StageMarked t u) : StageMarked s u := by
  rcases h with h | h <;> rcases k with k | k
  · exact .inl (k.trans h)
  · exact .inr (k.trans (suspectStage_of h))
  · exact .inr (k.trans h)
  · refine .inr (k.trans ?_)
    have : (suspectStage t).stage = (suspectStage (suspectStage s)).stage := suspectStage_of h
    rw [this, suspectStage_idem]

theorem raise_stageMarked (k : LatchKind) (h : k ≠ .estop) (a b : Nat) (s : State) : StageMarked s (raise k a b s) := by
  have rec1 : ∀ c (u : State), u.stage = s.stage → StageMarked s (respondRecovery c u) := by
    intro c u e
    simp only [respondRecovery]
    split
    · right
      have : (enterRecovery c u).stage = (suspectStage (setLine .recovery c u)).stage := rfl
      rw [this]; exact suspectStage_of (by simp [e])
    · exact .inl e
  have t1 : (takeRaising k a b s).stage = s.stage := by simp
  have t2 : StageMarked s (respond k none (takeRaising k a b s)) := by
    cases k <;> simp only [respond]
    case estop => exact absurd rfl h
    case nodeLost => exact .inl t1
    case essentialLost => left; simp only [respondEssential]; repeat' split
                          all_goals simp
    case retriesExhausted => left; split <;> simp
    case groupExhausted => left; simp only [respondGroup]; split <;> simp
    all_goals first | exact rec1 _ _ t1 | exact .inl t1
  simp only [raise, raiseFor]
  split
  · exact t2.trans (.inl (by simp))
  · exact t2

/-- What the Feeder Manager raises leaves the stage (R111, R121, R155). -/
theorem feederBecomes_stage (k : Nat) (st : FeederState) (s : State) : (feederBecomes k st s).stage = s.stage := by
  have h1 : ∀ (k : LatchKind) (a b : Nat) (u : State), k = .feederFault ∨ k = .essentialLost → (raise k a b u).stage = u.stage := by
    intro k a b u h
    simp only [raise, raiseFor]
    rcases h with rfl | rfl
    · rw [if_neg (by simp)]; simp [respond]
    · rw [if_neg (by simp)]; simp only [respond, respondEssential]; repeat' split
      all_goals simp
  simp only [feederBecomes, evalPairs, evalFault]
  repeat' split
  all_goals simp [h1, putFeeder]

theorem closeAt_stageMarked (p : Nat) (s : State) : StageMarked s (closeAt s p) := by
  simp only [closeAt]
  split
  · exact .inl rfl
  · rename_i a _
    have e : ∀ u : State, u.stage = s.stage → ∀ r, StageMarked s (timingError r u) := by
      intro u h r
      simp only [timingError]
      split
      · exact (StageMarked.of_eq (by cases r <;> exact h)).trans (raise_stageMarked _ (by simp) _ _ _)
      · left; cases r <;> exact h
    have e2 : ∀ u : State, u.stage = s.stage → ∀ r, StageMarked s (missingConfirmation r u) := by
      intro u h r
      simp only [missingConfirmation]
      exact (StageMarked.of_eq (by cases r <;> exact h)).trans (raise_stageMarked _ (by simp) _ _ _)
    split
    · left; simp
    · left
      simp only [feederMissing, faultIf]
      split
      · rw [feederBecomes_stage]; simp [putFeeder]
      · simp [putFeeder]
    all_goals first | exact e2 _ (by simp) _ | exact e _ (by simp) _ | (left; rfl)

theorem foldl_stageMarked {α : Type} (f : State → α → State) (h : ∀ s a, StageMarked s (f s a)) (l : List α) (s : State) :
    StageMarked s (l.foldl f s) := by
  induction l generalizing s with
  | nil => exact .inl rfl
  | cons a l ih => exact (h s a).trans (ih _)

theorem exitDecision_stage (g n : Nat) (s : State) : (exitDecision g n s).1.stage = s.stage := by
  have ge : ∀ (a b : Nat) (u : State), (raise .groupExhausted a b u).stage = u.stage := by
    intro a b u
    simp only [raise, raiseFor]
    rw [if_neg (by simp)]
    simp only [respond, respondGroup]
    split
    all_goals simp
  have h1 : ∀ g (s : State), (exhaust g s).stage = s.stage := by
    intro g s; simp only [exhaust]; split
    · rw [ge]; rfl
    · rfl
  have h2 : ∀ g w (s : State), (overflowPiece g w s).1.stage = s.stage := by
    intro g w s; simp only [overflowPiece]; split <;> simp
  have h3 : ∀ g (s : State), (advanceIndex g s).stage = s.stage := by
    intro g s; simp only [advanceIndex]; repeat' split
    all_goals first | exact h1 _ _ | rfl
  have h5 : ∀ g b n (s : State), (placePiece g b n s).1.stage = s.stage := by
    intro g b n s; simp only [placePiece]; repeat' split
    all_goals simp [h3, putBin]
  simp only [exitDecision]; repeat' split
  all_goals simp only [h1, h2, h5]
  all_goals rfl

theorem arriveAt_stage (n : NodeEntry) (s : State) : (arriveAt s n).stage = s.stage := by
  simp only [arriveAt]
  split
  · rfl
  · split
    all_goals try simp only [arriveFeeder, arriveEnvelope, arriveCaliper, arriveGate, arriveSorter]
    all_goals repeat' split
    all_goals simp [exitDecision_stage]

theorem trackNotice_stageMarked (n : Notice) (s : State) : StageMarked s (trackNotice n s) := by
  simp only [trackNotice]
  have h1 : StageMarked s (trackClose (takePositions s)) :=
    (StageMarked.of_eq rfl).trans (foldl_stageMarked _ (fun s p => closeAt_stageMarked p s) _ _)
  refine h1.trans ?_
  left
  simp only [trackArrive]
  split
  · rw [foldl_keeps (fun t : State => t.stage) _ (fun s n => arriveAt_stage n s)]; simp
  · rw [foldl_keeps (fun t : State => t.stage) _ (by simp)]; simp

theorem takeDue_stageMarked (s : State) : StageMarked s (takeDue s) := by
  simp only [takeDue]
  split
  · exact trackNotice_stageMarked _ _
  · exact .inl rfl

end Sys2Proof.Machine
end

