-- ==== Sys2Proof/Tests/Slice0.lean ====
section
/-! SUPPORT. Tests: the WellFormed smoke, the manual's worked numbers, one step of each command on a small state, and for every
statement a state and operands that meet its hypotheses. -/

open Sys2Proof Sys2Proof.Machine

namespace Tests

/-! ### The line the tests run on: 20 pockets, 8 positions, 9 nodes, feeder 1 at 1, E-1 = 3, E = 4, C = 5, D = 6, X = 7 -/

def bytes (l : List Nat) : List Byte := l.map (BitVec.ofNat 8)
def entry (l : List Nat) : List Byte := padTo 12 (bytes l)

/-- A VALID table of these entries. -/
def table (es : List (List Nat)) : Table :=
  { Table.cold with state := .valid, count := es.length, entries := (es.zipIdx.map fun (e, i) => (i, entry e)).filter fun x => x.2 != zeroEntry }

def nodeTable : Table := table [[2, 1], [3, 2, 1, 1, 0, 10, 0, 20], [4, 3, 0, 3], [5, 4, 0, 4, 0, 10, 0, 20],
  [6, 5, 0, 5, 0, 10, 0, 20], [7, 6, 0, 6, 0, 10, 0, 20], [8, 8, 0, 7, 0, 10, 0, 20], [1, 9], [9, 10]]
def profile : Table := table [[20, 8, 1, 0, 0x13, 0x88, 0x1D, 0x4C, 0, 50, 3]]
def working : Working :=
  { tolerance := 5, sheetCaliper := 10, envCaliper := 20, fold := 1, envClass := 1, missLimit := 2, maxSheets := 6, deadline := 10,
    feeders := Vector.replicate 12 { caliper := 7, alternate := 0, pair := 0 } }
def pocketRecs : List PocketRec := (List.range 8).map fun i => newPocket (some (7 - i))

/-- The line in a state, in use, with the drive as R13 gives it. -/
def lineIn (st : LineState) : State :=
  { State.reset with
    pitch := { PitchUnit.cold with
      counter := 7, counterValid := true, driveEn := driveState st, driveCrawl := st == .priming, openPeriod := some 600 }
    loop := { LoopIf.cold with rollTimer := some 0, nodeRecs := List.replicate 9 NodeRec.fresh }
    tables := { TableStore.cold with
      profile := profile, node := nodeTable, job := table [[]], scheme := table [[]], work := some working
      group := table [[2, 1, 2, 0, 0, 0, 1, 2]], bin := table [[0, 1], [0, 2], [0, 1]] }
    track := { TrackUnit.cold with recs := pocketRecs, positions := true }
    feeders := { FeederMgr.cold with recs := vset FeederMgr.cold.recs 0 { state := .ready, misses := 1, timing := 1 } }
    presort := { Presort.cold with groups := vset Presort.cold.groups 0 {
      rotation := [1, 2], mode := .single, action := .stop, index := 0, state := .active, tray := 1 } }
    line := { LineCtl.cold with state := st, counterValid := true } }

def account (seq : Nat) : Account :=
  { seq := seq, key := 9, pages := 2, inserts := [1], matchReq := true, prePull := false, postal := [1, 2, 3], envKey := some 77
    recalled := false, skipped := false }
def fields : AcctFields :=
  { key := 9, pages := 2, inserts := [1], matchReq := true, envKey := some 77, group := 0, pulled := false, recalled := false }

/-- An ORDERED set for account 5. -/
def set5 : SetRec :=
  { binding := .account 5, acct := some fields, state := .ordered, finish := none, rebindSpent := false, sheets := []
    extraSheets := 0, firstTotal := none, balance := 0, pitches := 0, maxSheets := 6
    captured := some { tolerance := 5, sheetCaliper := 10, envCaliper := 20, fold := 1, envClass := 1 }
    marks := [], suspect := false, unsettled := false }
def marked : SetRec := { set5 with state := .ready, rebindSpent := true, marks := [.noRead] }
def readySet : SetRec := { set5 with state := .ready, rebindSpent := true, finish := some .complete }

/-- A state with a set in the assembly slot, in the release slot. -/
def withStage (x y : Option SetRec) (s : State) : State := { s with stage := { s.stage with assembly := x, ready := y } }
/-- A state with a pocket record at a position. -/
def withPocket (p : Nat) (f : PocketRec → PocketRec) (s : State) : State := modPocket p f s
def holding (x : SetRec) (r : PocketRec) : PocketRec := { r with content := some x }
def withAccounts (l : List Account) (tail : Nat) (s : State) : State :=
  { s with acct := { s.acct with queue := l, tail := some tail, base := some 1 } }

/-- A request cell from the line computer, in hand. -/
def cell (kind : Nat) (l : List Nat) : Cell := { dest := 0, src := 1, kind := BitVec.ofNat 8 kind, tag := 3, payload := padTo 14 (bytes l) }
def asked (c : Cell) (s : State) : State := { s with loop := { s.loop with mgmtIn := [c] } }

/-- The state a command leads to (State.reset where it leads to none). -/
def after (i : Instr) (s : State) : State := match exec i s with | .next t => t | _ => State.reset
/-- The first bytes of a request's REPLY: result code with the last-item flag, then the data. -/
def said (n : Nat) (i : Instr) (s : State) : List Nat :=
  let l := (after i s).loop
  match ((l.wire.map (·.1)).toList ++ l.replies).find? fun c => c.kind == 0x50 with
  | some c => (c.payload.take n).map (·.toNat)
  | none => []
def nextOf (s : State) : Option State := match step s with | .next t => some t | _ => none

end Tests

open Tests

-- One theorem after the other: run together, their kernel evaluations take many threads and their memory.
set_option Elab.async false

/-! ### WellFormed: an ill-formed command for each check, which changes nothing -/

def good : Cell := { dest := 3, src := 5, kind := 0x10, tag := 0, payload := List.replicate 14 0 }
def illFormed (i : Instr) : Prop := i.wf = false ∧ after i (lineIn .running) = lineIn .running

theorem test_illformed_crc_cell : illFormed (.crcErrorDiscard { good with payload := [] } 0) := by
  constructor <;> decide +kernel
theorem test_illformed_forwarded_length : illFormed (.forwardedCell { good with payload := [] }) := by
  constructor <;> decide +kernel
theorem test_illformed_forwarded_to_part : illFormed (.forwardedCell { good with dest := 0 }) := by
  constructor <;> decide +kernel
theorem test_illformed_unknown_kind_roll : illFormed (.unknownKindCell 0 0x21) := by constructor <;> decide +kernel
theorem test_illformed_unknown_kind_request : illFormed (.unknownKindCell 5 0x30) := by constructor <;> decide +kernel
theorem test_illformed_unknown_kind_report : illFormed (.unknownKindCell 5 0x94) := by constructor <;> decide +kernel
theorem test_illformed_bin_code_low : illFormed (.unknownBinReport 8 1 1) := by constructor <;> decide +kernel
theorem test_illformed_bin_code_high : illFormed (.unknownBinReport 8 3 1) := by constructor <;> decide +kernel
theorem test_illformed_management_dest : illFormed (.managementCellArrival { good with kind := 0x30 }) := by
  constructor <;> decide +kernel
theorem test_illformed_management_src : illFormed (.managementCellArrival { good with dest := 0, src := 0, kind := 0x30 }) := by
  constructor <;> decide +kernel
theorem test_illformed_management_kind : illFormed (.managementCellArrival { good with dest := 0, kind := 0x47 }) := by
  constructor <;> decide +kernel
theorem test_illformed_management_length :
    illFormed (.managementCellArrival { good with dest := 0, kind := 0x30, payload := [] }) := by
  constructor <;> decide +kernel
/-- A mark that names its receivers once each, some, or some twice, is taken by all five. -/
theorem test_receiver_orders : receiverOrder [.loop, .account] = [.loop, .account, .track, .collation, .line] ∧
    receiverOrder [.track, .track] = [.track, .collation, .account, .line, .loop] := by decide +kernel

/-! ### The manual's numbers -/

/-- The checksum example of 03: 0x652E, whatever byte 11 holds. -/
theorem test_checksum_example :
    checksumOf .lineProfile [(0, entry [0x30, 0x28, 1, 0, 0x13, 0x88, 0x1D, 0x4C, 0, 0x32, 3, 0x5A])] 1 = 0x652E := by decide +kernel
/-- The CRC of R17 (x^16+x^12+x^5+1, all ones first) over the bytes 31 to 39 hexadecimal is 29B1. -/
theorem test_crc : crc16 [0x31, 0x32, 0x33, 0x34, 0x35, 0x36, 0x37, 0x38, 0x39] = 0x29B1 := by decide +kernel
theorem test_received_cell_is_classified :
    commandOfCell { good with dest := 0, src := 8, kind := 0x14, payload := padTo 14 [2, 16] }
      (cellCrc { good with dest := 0, src := 8, kind := 0x14, payload := padTo 14 [2, 16] }) = some (.binOffline 8 16) ∧
    commandOfCell good (cellCrc good + 1) = some (.crcErrorDiscard good (cellCrc good + 1)) ∧ good.wf = true := by decide +kernel
/-- No row of the opcode table gives bits. -/
theorem test_no_words : decodeTableWord 0 0 = none := rfl

/-! ### The queue, time, and the invariants -/

def order0 : List Receiver := [.line, .track, .collation, .account, .loop]
def queued (i : Instr) (s : State) : State := { s with pending := [i, .index] }
/-- RUNNING with a pitch mark at the front: the invariants' hypotheses hold, and the step is no idle one. -/
def marking : State := queued (.pitchMark 600 order0) (lineIn .running)

theorem test_step_runs_front : (nextOf marking).map (·.pending) = some [.index] ∧
    (nextOf marking).map (·.pitch.counter) = some 8 := by decide +kernel
theorem test_idle_lets_time_pass : (nextOf (lineIn .running)).map (fun t => (t.pitch.openPeriod, t.loop.rollTimer)) =
    some (some 601, some 1) ∧ nextOf { lineIn .running with pins := { State.reset.pins with resetN := false } } =
    some { lineIn .running with pins := { State.reset.pins with resetN := false } } := by decide +kernel
theorem test_held_in_reset : after .index { lineIn .running with pins := { State.reset.pins with resetN := false } } =
    { lineIn .running with pins := { State.reset.pins with resetN := false } } := by decide +kernel
theorem test_drive_invariant_met : DriveFollowsLine marking ∧ (nextOf marking).isSome = true :=
  ⟨⟨by decide +kernel, by decide +kernel⟩, by decide +kernel⟩
theorem test_tables_invariant_met : TablesCanonical marking := by intro t; cases t <;> decide +kernel
theorem test_loop_invariant_met : LoopBounded marking :=
  ⟨by decide +kernel, by decide +kernel, by decide +kernel, by decide +kernel, by decide +kernel, by decide +kernel⟩
def accounts56 : State := withAccounts [account 5, account 6] 6 (lineIn .running)
theorem test_accounts_invariant_met : AccountsOrdered accounts56 where
  rising := by decide +kernel
  bounded := by decide +kernel
  between := by
    intro r h
    refine ⟨⟨1, rfl, ?_⟩, ⟨6, rfl, ?_⟩⟩ <;> revert r <;> decide +kernel
  together := rfl
  ordered := by intro b t hb ht; cases hb; cases ht; decide
  next := by intro h t hh; cases hh
def pulls (ks : List Nat) : List PullEntry := ks.map fun k => { key := k, reason := 1, kind := .once, hits := 0 }
def pulled (ks : List Nat) (s : State) : State := { s with tables := { s.tables with pull := pulls ks } }
theorem test_pull_invariant_met : PullListOrdered (pulled [3, 9] marking) := ⟨by decide +kernel, by decide +kernel⟩
theorem test_latch_invariant_met : LatchesInRange (takeRaising .jam 1 2 (lineIn .running)) := by
  intro k; cases k <;> exact ⟨by decide +kernel, by decide +kernel, by decide +kernel, by decide +kernel⟩

/-! ### Resets, the Pitch Unit -/

theorem test_cold_reset : (after .coldReset accounts56).acct = AccountQueue.cold ∧
    (after .coldReset accounts56).pins.resetN = false := by decide +kernel
theorem test_cold_reset_end : after .coldResetEnd (after .coldReset accounts56) =
    { after .coldReset accounts56 with pins := State.reset.pins, loop := { LoopIf.cold with rollTimer := some 0 } } ∧
    (latch .estop (after .coldResetEnd (State.cold { resetN := false, estopN := false, phaseA := false, phaseB := false } 0 []))).state
      = .active := by decide +kernel
def atPhase (n : Nat) (s : State) : State := { s with pitch := { s.pitch with phase := n } }
theorem test_encoder_steps : (after (.encoderStep true false) (atPhase 254 (lineIn .running))).pitch.phase = 255 ∧
    (after (.encoderStep true false) (atPhase 255 (lineIn .running))).pitch.phase = 255 ∧
    (after (.encoderStep false true) (atPhase 0 (lineIn .running))).pitch.phase = 0 ∧
    (after (.encoderStep false true) (atPhase 9 (lineIn .running))).pitch.phase = 8 ∧
    (after (.encoderStep true true) (atPhase 9 (lineIn .running))).pitch.phase = 9 ∧
    (after (.encoderStep true false) (atPhase 1023 State.reset)).pitch.phase = 1023 := by decide +kernel
theorem test_index : (after .index (lineIn .halted)).pitch.indexPending = true := by decide +kernel
def indexed (c : Nat) (v : Bool) (s : State) : State :=
  { s with pitch := { s.pitch with indexPending := true, counter := c, counterValid := v } }
def marked1 (s : State) : State := after (.pitchMark 600 order0) s
theorem test_pitch_mark_counter : (marked1 (indexed 19 true (lineIn .running))).pitch.counterValid = true ∧
    (marked1 (indexed 7 false (lineIn .running))).pitch.counterValid = true ∧
    (marked1 (indexed 18 true (lineIn .running))).pitch.counterValid = false ∧
    (marked1 (lineIn .running)).pitch.counter = 8 ∧ (marked1 (lineIn .halted)).pitch.unexpectedUp = true ∧
    (marked1 State.reset).pitch.counter = 0 := by decide +kernel
def searching (n : Nat) : State := { lineIn .priming with pitch := { (lineIn .priming).pitch with searchCount := n, counterValid := false } }
theorem test_index_search : (marked1 (searching 21)).line.state = .recovery ∧ (marked1 (searching 20)).pitch.searchCount = 21 ∧
    (after .indexSearchExpiry (searching 22)).line.state = .recovery ∧
    after .indexSearchExpiry (searching 21) = searching 21 := by decide +kernel
theorem test_records_move_up : (trackNotice { entry := some 8, driveOn := true, counterValid := true } (lineIn .running)).track.recs.map
    (·.pocket) = (List.range 8).map fun i => some (8 - i) := by decide +kernel
theorem test_estop : (after .estopAssert (lineIn .running)).pitch.driveEn = false ∧
    (after .estopAssert (lineIn .running)).line.state = .halted ∧
    (after .estopRise (after .estopAssert (lineIn .running))).pitch.releaseTimer = some 0 ∧
    (after .estopAssert (after .estopRise (after .estopAssert (lineIn .running)))).pitch.releaseTimer = none ∧
    (after .estopReleaseTimerExpiry (after .estopRise (after .estopAssert (lineIn .running)))).pitch.estopAsserted = false ∧
    (latch .estop (after .estopReleaseTimerExpiry (after .estopRise (after .estopAssert (lineIn .running))))).state = .latched :=
  by decide +kernel
def metered (l : List Nat) (s : State) : State := { s with pitch := { s.pitch with meter := l } }
theorem test_meter_at_marks : (marked1 (metered [1, 2, 3, 4, 5, 6, 7, 8] (lineIn .halted))).pitch.meter = [2, 3, 4, 5, 6, 7, 8, 1200] ∧
    (markMeter PitchUnit.cold).openPeriod = none ∧
    (markMeter { PitchUnit.cold with driveEn := true }).openPeriod = some 0 ∧
    (markMeter { PitchUnit.cold with openPeriod := some 0 }).meter = [1] := by decide +kernel
theorem test_stall_entry : (after .meterStallEntry (lineIn .running)).pitch.meter = [65535] ∧
    (after .meterStallEntry (lineIn .running)).line.state = .running ∧
    (after .meterStallEntry (metered (List.replicate 7 6000) (lineIn .running))).line.state = .recovery ∧
    releasePocket (lineIn .running) = none ∧ (lineIn .running).pitch.driveRateUp = false ∧
    after .meterStallEntry State.reset = State.reset := by decide +kernel

/-! ### The line and its latches -/

theorem test_line_change : (setLine .priming 0 (lineIn .running)).pitch.driveCrawl = true ∧
    (setLine .halted 0 (lineIn .running)).pitch.driveEn = false := by decide +kernel
theorem test_latch_moves : latch .jam (takeRaising .jam 1 2 (lineIn .running)) =
      { state := .active, occurrence := 1, sort := 1, number := 2, raisings := 1 } ∧
    (latch .jam (lower .jam (takeRaising .jam 1 2 (lineIn .running)))).state = .latched ∧
    (latch .jam (lineIn .running)).state ≠ .active := by decide +kernel
/-- A set ordered `n` pitches ago in the assembly slot. -/
def ordered (n : Nat) (y : Option SetRec) : State := withStage (some { set5 with pitches := n }) y (lineIn .running)
theorem test_set_deadline : (after .setDeadlineExpiry (ordered 10 none)).stage.ready.isSome = true ∧
    (after .setDeadlineExpiry (ordered 10 (some readySet))).stage.assembly.isSome = true ∧
    releasePocket (ordered 10 (some readySet)) = none ∧ held (ordered 10 none) = true ∧
    after .setDeadlineExpiry (ordered 9 none) = ordered 9 none := by decide +kernel
def cleanRun (n : Nat) : State := { lineIn .running with line := { (lineIn .running).line with clean := n, retry := 2 } }
theorem test_clean_pitches : (after .cleanPitchCountExpiry (cleanRun 499)).line.retry = 0 ∧
    after .cleanPitchCountExpiry (cleanRun 498) = cleanRun 498 := by decide +kernel
def recovering (retry : Nat) : State :=
  { lineIn .recovery with line := { (lineIn .recovery).line with phase := .hold, holdLeft := 7, retry := retry } }
theorem test_recovery_hold : (after .recoveryHoldExpiry (recovering 2)).line.state = .priming ∧
    (after .recoveryHoldExpiry (recovering 3)).line.state = .lockout ∧
    (after .recoveryHoldExpiry (takeRaising .jam 1 3 (recovering 0))).line.phase = .wait ∧
    recoveryCondition (recovering 3) = false ∧ retryLimit (recovering 2) = 3 ∧
    after .recoveryHoldExpiry (lineIn .halted) = lineIn .halted := by decide +kernel

/-! ### The Loop Interface -/

def rolled (returned : Bool) (misses : Nat) (broken : Bool) : State :=
  { lineIn .running with loop := { (lineIn .running).loop with returned := returned, misses := misses, ringBreakUp := broken } }
theorem test_roll_timer : (after .rollTimerExpiry (rolled true 0 false)).loop.misses = 0 ∧
    (after .rollTimerExpiry (rolled false 0 false)).loop.misses = 1 ∧
    (after .rollTimerExpiry (rolled false 1 false)).line.state = .recovery ∧
    (after .rollTimerExpiry (rolled false 2 true)).loop.misses = 2 ∧
    after .rollTimerExpiry { lineIn .running with loop := LoopIf.cold } = { lineIn .running with loop := LoopIf.cold } := by
  decide +kernel
theorem test_roll_return : (after (.rollReturn 0 0xFF) (rolled false 1 false)).loop.returned = true ∧
    after (.rollReturn 1 0xFF) (rolled false 1 false) = rolled false 1 false ∧ nodesOf State.reset = [] ∧
    State.reset.loop.ringBreakUp = false ∧ (after (.rollReturn 0 0) (rolled true 1 true)).loop.ringBreakUp = false := by decide +kernel
def absentRolls (n : Nat) : State :=
  { lineIn .running with loop := { (lineIn .running).loop with nodeRecs := List.replicate 9 { NodeRec.fresh with absent := n } } }
theorem test_node_lost : (judgeNode 1 default true (absentRolls 2)).loop.nodeRecs[1]? = some NodeRec.fresh ∧
    ((judgeNode 1 default false (absentRolls 1)).loop.nodeRecs[1]?.map (·.lost)) = some false ∧
    ((judgeNode 1 default false (absentRolls 2)).loop.nodeRecs[1]?.map (·.lost)) = some true := by decide +kernel
def forwards (n : Nat) (s : State) : State := { s with loop := { s.loop with forward := List.replicate n good, wire := some (good, .own) } }
def loopCount (n : Nat) (s : State) : Nat := vget s.loop.counters (n - 1)
def runCount (n : Nat) (s : State) : Nat := vget s.outcomes.counters (n - 1)
theorem test_cells_nobody_takes : loopCount 1 (after (.crcErrorDiscard good (cellCrc good + 1)) State.reset) = 1 ∧
    loopCount 4 (after (.forwardedCell { good with src := 0 }) State.reset) = 1 ∧
    loopCount 2 (after (.forwardedCell { good with kind := 0x90 }) State.reset) = 1 ∧
    (after (.forwardedCell good) (forwards 3 State.reset)).loop.forward.length = 4 ∧
    loopCount 3 (after (.forwardedCell good) (forwards 4 State.reset)) = 1 := by decide +kernel
theorem test_unknown_kind_cell : loopCount 4 (after (.unknownKindCell 0 0x10) State.reset) = 1 ∧
    loopCount 5 (after (.unknownKindCell 5 0x20) State.reset) = 1 ∧ isMgmtKind 0x47 = false ∧ isStationKind 0x15 = false := by
  decide +kernel
/-- Address bytes above 63 are taken as any others (R17, R18, R19). -/
theorem test_addresses_above_63 : loopCount 1 (after (.crcErrorDiscard { good with dest := 200, src := 64 } 0) State.reset) = 1 ∧
    runCount 12 (after (.crcErrorDiscard { good with dest := 200, src := 64 } 0) State.reset) = 1 ∧
    (after (.forwardedCell { good with dest := 200, src := 64 }) (forwards 3 State.reset)).loop.forward.length = 4 ∧
    loopCount 2 (after (.forwardedCell { good with dest := 200, kind := 0x90 }) State.reset) = 1 ∧
    loopCount 5 (after (.unknownKindCell 200 0x20) (lineIn .running)) = 1 ∧
    loopCount 6 (after (.done 64 0 0 0 0 0) (lineIn .running)) = 1 ∧
    loopCount 4 (after (.sheet 0 1 1 1 0 0 false) (lineIn .running)) = 1 ∧
    (after (.managementCellArrival { cell 0x39 [] with src := 200 }) (lineIn .running)).loop.mgmtIn.length = 1 := by decide +kernel
def noticesHeld (n d : Nat) : LoopIf :=
  { LoopIf.cold with notices := List.replicate n good, dropped := d, wire := some (good, .own) }
theorem test_notices : (LoopIf.placeNotice 1 [] (noticesHeld 15 4) 1).dropped = 0 ∧
    (LoopIf.placeNotice 1 [] (noticesHeld 16 254) 1).dropped = 255 ∧
    (LoopIf.placeNotice 1 [] (noticesHeld 16 255) 1).dropped = 255 := by decide +kernel

/-! ### Station reports -/

theorem reports (k : Nat) (src : Byte) (n : NodeEntry) (r : Role) (s : State) (h : s.pins.resetN = true) (a : src ≠ 0)
    (e : acceptReport k src s = some (n, r)) : Reports k src n r s := ⟨h, a, e⟩
def node (a : Nat) : NodeEntry := (nodeAt a (lineIn .running)).getD default
theorem test_reports_accepted : acceptReport 0x10 2 (lineIn .running) = some (node 2, .sheetStation) ∧
    acceptReport 0x11 2 (lineIn .running) = some (node 2, .sheetStation) ∧
    acceptReport 0x11 5 (lineIn .running) = some (node 5, .envStation) ∧
    acceptReport 0x11 7 (lineIn .running) = some (node 7, .divertGate) ∧
    acceptReport 0x12 4 (lineIn .running) = some (node 4, .envReader) ∧
    acceptReport 0x13 5 (lineIn .running) = some (node 5, .envStation) ∧
    acceptReport 0x14 8 (lineIn .running) = some (node 8, .sorter) := by decide +kernel
theorem test_reports_refused : acceptReport 0x10 5 (lineIn .running) = none ∧ acceptReport 0x11 4 (lineIn .running) = none ∧
    acceptReport 0x12 5 (lineIn .running) = none ∧ acceptReport 0x13 1 (lineIn .running) = none ∧
    acceptReport 0x14 2 (lineIn .running) = none ∧ State.reset.tables.node.state ≠ .valid ∧
    loopCount 6 (after (.sheet 5 1 1 1 0 0 false) (lineIn .running)) = 1 := by decide +kernel
theorem test_sheet_joins : ((after (.sheet 2 5 1 24 7 0 false) (ordered 0 none)).stage.assembly.map (·.state)) = some .assembling ∧
    releasePocket (ordered 0 none) = none := by decide +kernel
def assembling : SetRec :=
  { set5 with state := .assembling, rebindSpent := true, firstTotal := some 2, sheets := [Sheet.mk (some (1, 2, 7)) false] }
theorem test_sheet_finishes : ((after (.sheet 2 5 2 2 7 0 false) (withStage (some assembling) (some readySet) (lineIn .running))).stage
    |>.assembly.map (·.finish)) = some (some .complete) := by decide +kernel
def full (n : Nat) (s : State) : State := { s with outcomes := { s.outcomes with recs := List.replicate n (.held 1 0 .unusedGroup) } }
theorem test_sheet_alone : runCount 14 (after (.sheet 2 5 1 2 7 0 false) (lineIn .halted)) = 1 ∧
    ((after (.sheet 2 5 1 2 7 0 false) (full 510 (lineIn .running))).stage.assembly.map (·.binding)) = some (.stray (some 5)) ∧
    (after (.sheet 2 5 1 2 7 0 false) (full 511 (lineIn .running))).line.lastCause = 8 := by decide +kernel
/-- A set at position p that awaits a station's answer. -/
def awaiting (p : Nat) (x : SetRec) (role : Role) (sub : Nat) (w : Option (Nat × Nat)) (s : State) : State :=
  withPocket p (fun r => { holding x r with awaited := some (Awaited.mk role 0 sub w) }) s
def atGate : State := awaiting 6 marked .divertGate 8 (some (10, 20)) (lineIn .running)
def atEnvelope : State := awaiting 4 readySet .envStation 5 (some (10, 20)) (lineIn .running)
theorem test_done_matched : ((after (.done 7 1 8 0 0 0) (atPhase 10 atGate)).track.recs[6]?.map (·.gateConfirmed)) = some true ∧
    (after (.done 7 1 8 0 0 0) (atPhase 20 atGate)).track.gateCount = 0 ∧
    (after (.done 7 1 8 0 0 0) (atPhase 21 atGate)).track.gateCount = 1 ∧ belowGate 6 atGate = false ∧
    ((after (.done 5 3 5 0 0 0) (atPhase 20 atEnvelope)).track.recs[4]?.map (·.stationPart)) = some .inserted := by decide +kernel
def releasing : State := { lineIn .running with stage := { Stage.cold with releaseAwaited := some 7 } }
theorem test_done_stale : runCount 30 (after (.done 7 1 8 0 0 0) (lineIn .running)) = 1 ∧
    (after (.done 2 7 2 0 0 0) releasing).stage.releaseAwaited = none ∧ runCount 14 (after (.done 2 8 2 0 0 0) releasing) = 1 := by
  decide +kernel
def atReader : State := awaiting 3 readySet .envReader 0 none (lineIn .running)
theorem test_envread : ((after (.envread 4 4 77 0) atReader).track.recs[3]?.map (·.readPart)) = some .matched ∧
    ((after (.envread 4 4 77 1) atReader).track.recs[3]?.map (·.readPart)) = some .noread ∧ belowGate 3 atReader = true ∧
    after (.envread 4 4 77 0) (lineIn .running) = lineIn .running ∧
    runCount 27 (after (.envread 4 5 77 0) (lineIn .running)) = 1 := by decide +kernel
theorem test_status : (after (.status 5 .jam 0) (lineIn .running)).line.state = .recovery ∧
    (after (.status 5 .empty 9) (lineIn .running)).loop.nodeRecs[3]?.map (·.status) = some (some (.empty, 9)) ∧
    ((nodesOf (lineIn .running)).findIdx? fun e => e.addr == 5) = some 3 := by decide +kernel
def binIn (b : Nat) (st : BinState) (s : State) : State :=
  putBin b { state := st, count := 1, tray := 1, firstSeq := 3, lastSeq := 3 } s
theorem test_bin_reports : (binRec 1 (after (.binEmptied 8 1) (binIn 1 .full (lineIn .running)))).state = .ready ∧
    (binRec 16 (after (.binOffline 8 16) (lineIn .running))).state = .offline ∧
    (binRec 2 (after (.binOnline 8 2) (binIn 2 .offline (lineIn .running)))).state = .ready ∧
    (after (.binEmptied 8 1) (binIn 1 .opened (lineIn .running))).outcomes.recs = [.tray 0 .forced 1 1 1 3 3] ∧
    ownerOf 1 (lineIn .running) = some 0 := by decide +kernel
def looped (s : State) : State := modGroup 0 (fun r => { r with mode := .loop, state := .exhausted }) s
theorem test_bin_reports_stale_and_returning : runCount 31 (after (.binEmptied 8 0) (lineIn .running)) = 1 ∧
    runCount 31 (after (.binOffline 8 17) (lineIn .running)) = 1 ∧
    runCount 31 (after (.unknownBinReport 8 0 1) (lineIn .running)) = 1 ∧
    runCount 31 (after (.unknownBinReport 8 4 1) (lineIn .running)) = 1 ∧
    groupRec 0 (after (.binEmptied 8 2) (binIn 2 .full (looped (lineIn .running)))) =
      { rotation := [1, 2], mode := .loop, action := .stop, index := 1, state := .active, tray := 1 } := by decide +kernel

/-! ### Management requests: every request can be taken, and what one REPLY says -/

theorem takes (k : Nat) (c : Cell) (s : State) (h : s.pins.resetN = true) (o : s.loop.mgmtIn.head? = some c)
    (e : kindCode c.kind = k) (d : s.loop.dispatcher = Dispatcher.idle) (a : admitted c s = true) : Takes k c s := ⟨h, o, e, d, a⟩
theorem test_requests_can_be_taken : ∀ r ∈ requestRows, ∀ st ∈ [LineState.halted, .running],
    let c := cell r.1 []
    let s := asked c (lineIn st)
    s.pins.resetN = true ∧ s.loop.mgmtIn.head? = some c ∧ kindCode c.kind = r.1 ∧ s.loop.dispatcher = Dispatcher.idle ∧
      admitted c s = true := by decide +kernel
theorem test_requests_not_admitted : ∀ r ∈ requestRows,
    said 1 r.2 (asked { cell r.1 [] with src := 5 } (lineIn .running)) = [137] := by decide +kernel
/-- The REPLY to a request of these payload bytes. -/
def reply (n : Nat) (i : Instr) (k : Nat) (l : List Nat) (s : State) : List Nat := said n i (asked (cell k l) s)
/-- The state after it. -/
def does (i : Instr) (k : Nat) (l : List Nat) (s : State) : State := after i (asked (cell k l) s)

def inputs (n : Nat) (s : State) : State := { s with loop := { s.loop with mgmtIn := List.replicate n (cell 0x39 []) } }
theorem test_management_queue : (after (.managementCellArrival (cell 0x39 [])) (inputs 7 (lineIn .halted))).loop.mgmtIn.length = 8 ∧
    loopCount 8 (after (.managementCellArrival (cell 0x39 [])) (inputs 8 (lineIn .halted))) = 1 := by decide +kernel
theorem test_other_kind_in_front : after .load (inputs 1 (lineIn .halted)) = inputs 1 (lineIn .halted) ∧
    admitted (cell 0x39 []) State.reset = true ∧ admitted { cell 0x3B [] with src := 9 } (lineIn .halted) = true ∧
    admitted { cell 0x30 [] with src := 9 } (lineIn .halted) = false := by decide +kernel
def repliesHeld (n : Nat) (d : Dispatcher) : State :=
  { lineIn .halted with loop := { (lineIn .halted).loop with
      replies := List.replicate n good, wire := some (good, .own), dispatcher := d } }
theorem test_reply_place : (after .replyPlace (repliesHeld 7 { Dispatcher.idle with waiting := [good] })).loop.dispatcher.waiting = [] ∧
    (after .replyPlace (repliesHeld 8 { Dispatcher.idle with waiting := [good] })).loop.dispatcher.waiting = [good] ∧
    after .replyPlace (repliesHeld 0 Dispatcher.idle) = repliesHeld 0 Dispatcher.idle := by decide +kernel
theorem test_replies_wait_for_room : (replied good .accepted [] (repliesHeld 7 Dispatcher.idle)).loop.replies.length = 8 ∧
    (replied good .accepted [] (repliesHeld 8 Dispatcher.idle)).loop.dispatcher.waiting.length = 1 := by decide +kernel

def tableState (t : TableId) (st : TableState) (s : State) : State :=
  { s with tables := s.tables.put t { s.tables.get t with state := st } }
theorem test_load : reply 4 .load 0x30 [0x80, 15, 7] (lineIn .halted) = [128, 2, 0, 1] ∧
    reply 1 .load 0x30 [0x80, 16, 7] (lineIn .halted) = [132] ∧ reply 1 .load 0x30 [0, 0] (lineIn .halted) = [132] ∧
    reply 1 .load 0x30 [0x80, 15] (lineIn .running) = [131] ∧
    reply 4 .load 0x30 [0x80, 0] (tableState .defectList .loading (lineIn .halted)) = [128, 2, 0, 1] := by decide +kernel
theorem test_load_windows : inWindow .jobTable (lineIn .paused) = true ∧ inWindow .nodeTable (lineIn .paused) = false ∧
    inWindow .binTable (lineIn .paused) = true ∧ inWindow .binTable (binIn 16 .opened (lineIn .paused)) = false ∧
    entRead (entWrite [(3, entry [1])] 3 zeroEntry) 3 = zeroEntry ∧ Memory.wf [(3, entry [1])] := by decide +kernel
def loading (t : TableId) : State := tableState t .loading (lineIn .halted)
theorem test_commit : reply 5 .commit 0x31 [1, 0, 1, 0x49, 0x0E] (loading .lineProfile) = [128, 3, 0, 0x49, 0x0E] ∧
    reply 3 .commit 0x31 [2, 0, 1, 2, 1] (loading .nodeTable) = [131, 2, 10] ∧
    reply 2 .commit 0x31 [1, 0, 0, 0, 0] (loading .lineProfile) = [128, 4] := by decide +kernel
theorem test_commit_refused : reply 1 .commit 0x31 [4, 0, 17] (lineIn .halted) = [132] ∧
    reply 2 .commit 0x31 [4, 0, 16] (lineIn .running) = [131, 1] ∧ reply 2 .commit 0x31 [4, 0, 0] (lineIn .halted) = [129, 1] ∧
    reply 3 .commit 0x31 [4, 0, 0, 0, 1] (loading .defectList) = [128, 4, 1] := by decide +kernel
theorem test_read : reply 6 .read 0x32 [12, 0, 31] (lineIn .running) = [128, 31, 0, 0, 0, 0] ∧
    reply 1 .read 0x32 [12, 0, 0] (lineIn .running) = [132] ∧ reply 1 .read 0x32 [12, 0, 32] (lineIn .running) = [132] ∧
    reply 1 .read 0x32 [0] (lineIn .running) = [132] ∧ reply 1 .read 0x32 [16] (lineIn .running) = [132] ∧
    (does .read 0x32 [12, 255, 255] (lineIn .running)).loop.dispatcher.waiting.length = 22 := by decide +kernel
theorem test_read_all : (does .read 0x32 [15, 255, 255] (lineIn .running)).loop.replies.length = 8 ∧
    reply 2 .read 0x32 [15, 255, 255] (lineIn .running) = [0, 1] ∧ reply 1 .read 0x32 [15, 0, 10] (lineIn .running) = [132] ∧
    reply 1 .read 0x32 [1, 255, 255] (lineIn .running) = [132] ∧ reply 2 .read 0x32 [3, 255, 255] (lineIn .running) = [0, 2] ∧
    (lineIn .running).loop.nodeRecs.length = 9 ∧ reply 2 .read 0x32 [3, 255, 255] State.reset = [128, 0] := by decide +kernel
theorem test_read_items : reply 2 .read 0x32 [15, 0, 9] (lineIn .running) = [128, 9] ∧
    reply 3 .read 0x32 [5, 0, 14] (lineIn .running) = [128, 14, 1] ∧ reply 2 .read 0x32 [11, 255, 255] (lineIn .running) = [128, 0] := by
  decide +kernel
/-- Half A and half B of account n: two pages. -/
def halfA (n : Nat) : List Nat := [0, 0, n, 0, 0, 0, 0, 0, 9, 2, 0, 1, 0]
def halfB (n : Nat) : List Nat := [0, 0, n, 3, 0x12, 0x30]
def withHalf (n : Nat) (s : State) : State := does .acctA 0x33 (halfA n) s
/-- The dispatcher's REPLY has gone. -/
def sentAll (s : State) : State := after .cellSent s
theorem test_acct_a : reply 6 .acctA 0x33 (halfA 1) (lineIn .running) = [128, 0, 0, 0, 0, 0] ∧
    reply 4 .acctA 0x33 (halfA 8) accounts56 = [134, 0, 0, 7] ∧ reply 1 .acctA 0x33 (halfA 0) (lineIn .running) = [132] ∧
    reply 4 .acctA 0x33 (halfA 7) (sentAll (withHalf 7 accounts56)) = [135, 0, 0, 7] ∧
    reply 1 .acctA 0x33 [0, 0, 1, 0, 0, 0, 0, 0, 9, 25] (lineIn .running) = [132] ∧
    reply 1 .acctA 0x33 [0, 0, 1, 0, 0, 0, 0, 0, 9, 24, 0x10] (lineIn .running) = [132] := by decide +kernel
/-- After the last seq the record expected is a free value: only the result code is the manual's (log 35). -/
theorem test_acct_a_after_last : reply 1 .acctA 0x33 (halfA 9) (withAccounts [] 16777215 (lineIn .running)) = [134] := by decide +kernel
theorem test_acct_b : reply 3 .acctB 0x34 (halfB 7) (sentAll (withHalf 7 accounts56)) = [128, 0, 3] ∧
    reply 4 .acctB 0x34 (halfB 8) (sentAll (withHalf 7 accounts56)) = [134, 0, 0, 7] ∧
    reply 4 .acctB 0x34 (halfB 8) accounts56 = [134, 0, 0, 0] ∧ reply 1 .acctB 0x34 [0, 0, 7, 4] accounts56 = [132] := by decide +kernel
theorem test_acct_b_full : reply 1 .acctB 0x34 (halfB 7) (sentAll (withHalf 7
    (withAccounts (List.replicate 256 (account 5)) 6 (lineIn .running)))) = [130] := by decide +kernel
theorem test_pull_add : reply 3 .pullAdd 0x35 [0, 0, 0, 0, 0, 5, 15, 2] (pulled [3, 9] (lineIn .running)) = [128, 0, 3] ∧
    reply 3 .pullAdd 0x35 [0, 0, 0, 0, 0, 9, 1, 1] (pulled [3, 9] (lineIn .running)) = [133, 1, 0] ∧
    reply 1 .pullAdd 0x35 [0, 0, 0, 0, 0, 5, 0, 1] (lineIn .running) = [132] ∧
    reply 1 .pullAdd 0x35 [0, 0, 0, 0, 0, 5, 16, 1] (lineIn .running) = [132] ∧
    reply 1 .pullAdd 0x35 [0, 0, 0, 0, 0, 5, 1, 3] (lineIn .running) = [132] ∧
    reply 1 .pullAdd 0x35 [0, 0, 0, 0, 1, 255, 1, 1] (pulled (List.range 320) (lineIn .running)) = [130] := by decide +kernel
theorem test_pull_remove : reply 4 .pullRemove 0x36 [0, 0, 0, 0, 0, 9] (pulled [3, 9] (lineIn .running)) = [128, 0, 0, 1] ∧
    reply 1 .pullRemove 0x36 [0, 0, 0, 0, 0, 8] (pulled [3, 9] (lineIn .running)) = [132] := by decide +kernel
def skipped6 : State := withAccounts [{ account 5 with recalled := true }, { account 6 with skipped := true }] 6 (lineIn .running)
theorem test_recall_request : reply 2 .recallRequest 0x37 [0, 0, 5] accounts56 = [128, 0] ∧
    reply 2 .recallRequest 0x37 [0, 0, 5] skipped6 = [128, 1] ∧ reply 2 .recallRequest 0x37 [0, 0, 6] skipped6 = [128, 2] ∧
    reply 1 .recallRequest 0x37 [0, 0, 4] accounts56 = [136] ∧ reply 1 .recallRequest 0x37 [0, 0, 0] accounts56 = [132] ∧
    reply 1 .recallRequest 0x37 [0, 0, 7] (sentAll (withHalf 7 accounts56)) = [132] := by decide +kernel
theorem test_stage : reply 3 .stage 0x38 [9, 0, 0x03, 0xE8] (lineIn .running) = [128, 0, 1] ∧
    reply 1 .stage 0x38 [9, 0, 0x03, 0xE9] (lineIn .running) = [132] ∧ reply 1 .stage 0x38 [1, 0, 0, 5] State.reset = [129] ∧
    reply 1 .stage 0x38 [4, 13, 0, 5] (lineIn .running) = [132] ∧ reply 1 .stage 0x38 [0] (lineIn .running) = [132] ∧
    reply 1 .stage 0x38 [10] (lineIn .running) = [132] := by decide +kernel
theorem test_hold : reply 3 .hold 0x39 [] (lineIn .running) = [128, 0, 0] ∧
    reply 3 .holdRelease 0x3A [] (sentAll (does .hold 0x39 [] (lineIn .running))) = [128, 1, 0] := by decide +kernel
theorem test_start : reply 4 .start 0x3B [] (lineIn .halted) = [128, 3, 0, 0] ∧ reply 4 .start 0x3B [] State.reset = [129, 1, 1, 1] ∧
    reply 2 .start 0x3B [] (lineIn .draining) = [128, 4] ∧ reply 2 .start 0x3B [] (lineIn .running) = [128, 4] ∧
    reply 2 .start 0x3B [] (lineIn .recovery) = [129, 6] ∧
    reply 4 .start 0x3B [] (takeRaising .essentialLost 2 1 (lineIn .halted)) = [129, 1, 3, 10] := by decide +kernel
theorem test_stop : reply 3 .stop 0x3C [] (lineIn .running) = [128, 4, 1] ∧ reply 3 .stop 0x3C [] (ordered 0 none) = [128, 4, 5] ∧
    reply 3 .stop 0x3C [] (lineIn .priming) = [128, 3, 1] ∧ reply 3 .stop 0x3C [] (lineIn .lockout) = [128, 7, 1] ∧
    reply 3 .stop 0x3C [] (lineIn .draining) = [128, 5, 5] := by decide +kernel
theorem test_cut : reply 3 .cut 0x3D [] (ordered 0 none) = [128, 4, 2] ∧ reply 3 .cut 0x3D [] (lineIn .recovery) = [128, 6, 1] ∧
    reply 3 .cut 0x3D [] (lineIn .lockout) = [128, 7, 7] ∧
    ((does .cut 0x3D [] (ordered 0 none)).stage.assembly.map (·.suspect)) = some true := by decide +kernel
def feederIs (st : FeederState) (status : StationState) : State :=
  putFeeder 1 { state := st, misses := 1, timing := 1 } { lineIn .running with
    loop := { (lineIn .running).loop with nodeRecs := List.replicate 9 { NodeRec.fresh with status := some (status, 0) } } }
theorem test_feeder_enable : reply 2 .feederEnable 0x3E [1] (feederIs .faulted .ready) = [128, 3] ∧
    reply 2 .feederEnable 0x3E [1] (feederIs .disabled .empty) = [129, 4] ∧ reply 2 .feederEnable 0x3E [1] (lineIn .running) = [128, 1] ∧
    reply 2 .feederEnable 0x3E [12] (lineIn .running) = [129, 0] ∧ reply 1 .feederEnable 0x3E [0] (lineIn .running) = [132] ∧
    reply 1 .feederEnable 0x3E [13] (lineIn .running) = [132] := by decide +kernel
theorem test_feeder_disable : reply 2 .feederDisable 0x3F [1] (lineIn .running) = [128, 1] ∧
    reply 2 .feederDisable 0x3F [12] (lineIn .running) = [129, 0] ∧ reply 1 .feederDisable 0x3F [13] (lineIn .running) = [132] ∧
    feederRec 1 (does .feederDisable 0x3F [1] (lineIn .running)) = { state := .disabled, misses := 1, timing := 1 } := by decide +kernel
theorem test_close_group : reply 2 .closeGroup 0x40 [0] (binIn 2 .opened (lineIn .running)) = [128, 1] ∧
    reply 2 .closeGroup 0x40 [255] (binIn 2 .opened (lineIn .running)) = [128, 1] ∧
    reply 2 .closeGroup 0x40 [63] (binIn 2 .opened (lineIn .running)) = [128, 0] ∧
    reply 1 .closeGroup 0x40 [64] (lineIn .running) = [132] ∧
    (does .closeGroup 0x40 [0] (binIn 2 .opened (lineIn .running))).outcomes.recs = [.tray 0 .closed 2 1 1 3 3] := by decide +kernel
def exhausted (s : State) : State := modGroup 0 (fun r => { r with state := .exhausted, index := 1 }) s
theorem test_restart_group : reply 2 .restartGroup 0x41 [0] (exhausted (lineIn .running)) = [128, 2] ∧
    (groupRec 0 (does .restartGroup 0x41 [0] (exhausted (lineIn .running)))).index = 0 ∧
    (latch .groupExhausted (does .restartGroup 0x41 [0] (exhausted (takeRaising .groupExhausted 4 0 (lineIn .running))))).state = .latched ∧
    reply 2 .restartGroup 0x41 [63] (lineIn .running) = [128, 3] ∧ reply 1 .restartGroup 0x41 [64] (lineIn .running) = [132] := by
  decide +kernel
def latched : State := lower .jam (takeRaising .jam 1 2 (lineIn .running))
theorem test_clear_fault : reply 3 .clearFault 0x42 [2, 1] latched = [128, 1, 1] ∧ reply 3 .clearFault 0x42 [2, 2] latched = [138, 3, 1] ∧
    reply 3 .clearFault 0x42 [2, 1] (takeRaising .jam 1 2 (lineIn .running)) = [139, 2, 1] ∧
    reply 3 .clearFault 0x42 [14, 0] latched = [128, 1, 0] ∧ reply 1 .clearFault 0x42 [0] latched = [132] ∧
    reply 1 .clearFault 0x42 [15] latched = [132] := by decide +kernel
theorem test_fetch : reply 1 .fetch 0x43 [] (lineIn .running) = [128] ∧
    (does .fetch 0x43 [] (full 9 (lineIn .running))).loop.dispatcher.fetch.map (·.left) = some 8 ∧
    ((after .replyPlace (does .fetch 0x43 [] (full 1 (lineIn .running)))).loop.wire.map fun c => c.1.payload.take 5) =
      some (bytes [128, 2, 0, 0, 1]) ∧ (after .replyPlace (does .fetch 0x43 [] (full 1 (lineIn .running)))).outcomes.fetched = 1 := by
  decide +kernel
theorem test_records_are_counted : (writeRecord (.held 1 0 .unusedGroup) (full 382 (lineIn .running))).loop.wire = none ∧
    (writeRecord (.held 1 0 .unusedGroup) (full 383 (lineIn .running))).loop.wire.isSome = true ∧
    runCount 8 (writeRecord (.missing 1 .setStrayed) (lineIn .running)) = 1 := by decide +kernel
theorem test_clear_run : reply 4 .clearRun 0x44 [] (withStage (some marked) (some readySet) (binIn 2 .opened (lineIn .paused))) =
      [128, 0, 2, 1] ∧ reply 2 .clearRun 0x44 [] (lineIn .running) = [129, 4] ∧
    (does .clearRun 0x44 [] (lineIn .halted)).line.state = .halted := by decide +kernel
theorem test_device_reset : reply 1 .deviceReset 0x45 [] (lineIn .running) = [129] ∧ reply 1 .deviceReset 0x45 [] (lineIn .halted) = [128] ∧
    (sentAll (does .deviceReset 0x45 [] (lineIn .halted))).loop.dispatcher.reset = .sent ∧
    (after .deviceResetEffect (sentAll (does .deviceReset 0x45 [] (lineIn .halted)))).tables.node = nodeTable ∧
    after .deviceResetEffect (lineIn .halted) = lineIn .halted := by decide +kernel
theorem test_notice_mask : reply 2 .noticeMask 0x46 [1] (lineIn .running) = [128, 31] ∧
    (does .noticeMask 0x46 [1] (lineIn .running)).loop.noticeMask.toList = [true, false, false, false, false] := by decide +kernel
def sending (side : Side) (f o : List Cell) : State :=
  { lineIn .halted with loop := { (lineIn .halted).loop with wire := some (good, side), forward := f, orders := o } }
theorem test_cell_sent : (after .cellSent (sending .own [good] [good])).loop.forward = [] ∧
    (after .cellSent (sending .forwarded [good] [good])).loop.orders = [] ∧ (after .cellSent (sending .own [] [])).loop.wire = none ∧
    (after .cellSent (sending .forwarded [good] [])).loop.forward = [] ∧ after .cellSent (lineIn .halted) = lineIn .halted := by
  decide +kernel

/-! ### Takes, the track and the trays -/

def taking : State := withAccounts [account 5, account 6] 6 (lineIn .running)
theorem test_take : (accountNotice { entry := some 8, driveOn := true, counterValid := true } taking).stage.assembly =
      some { set5 with acct := some { fields with group := 0 } } ∧
    (∀ i, i < 6 → vget taking.feeders.pairs i = .none ∨ vget taking.feeders.pairs i = .covered) ∧ claims taking + 3 ≤ free taking ∧
    lastStatusOf .sheetStation 0 taking = none ∧ lastStatusOf .envStation 0 taking = none ∧ taking.acct.holdReason = none ∧
    taking.tables.staged = Staged.none ∧ taking.tables.pull = [] := by decide +kernel
/-- The order the arrival of a set at position p issues: its subtype. -/
def ordersAt (p a : Nat) (f : PocketRec → PocketRec) (s : State) : Option Nat :=
  ((arriveAt (withPocket p f s) (node a)).loop.wire.map fun c => (c.1.payload.getD 0 0).toNat)
def planned (r : PocketRec) : PocketRec := { r with plan := [{ feeder := 1, position := 1, result := .pending }] }
theorem test_arrivals_at_feeders : ordersAt 1 3 (fun r => planned (holding readySet r)) (lineIn .running) = some 3 ∧
    ordersAt 1 3 (fun r => planned (holding readySet r)) (feederIs .empty .empty) = some 4 ∧
    ordersAt 1 3 (holding readySet) (lineIn .running) = some 4 ∧
    ordersAt 1 3 (fun r => planned (holding marked r)) (lineIn .running) = some 4 := by decide +kernel
theorem test_arrivals_at_stations : ordersAt 4 5 (holding readySet) (lineIn .running) = some 5 ∧
    ordersAt 4 5 (holding marked) (lineIn .running) = some 6 ∧
    ordersAt 5 6 (fun r => { holding readySet r with stationPart := .inserted }) (lineIn .running) = some 7 ∧
    ordersAt 5 6 (holding readySet) (lineIn .running) = some 4 ∧ ordersAt 3 4 (holding readySet) (lineIn .running) = none ∧
    ordersAt 4 5 id (lineIn .running) = none := by decide +kernel
theorem test_arrivals_at_gate : ordersAt 6 7 (holding readySet) (lineIn .running) = some 9 ∧
    ordersAt 6 7 (holding marked) (lineIn .running) = some 8 ∧ ordersAt 6 7 id (lineIn .running) = some 9 ∧
    ordersAt 6 7 (fun r => { r with pocket := none }) (lineIn .running) = none := by decide +kernel
def vacant (p : Nat) (s : State) : State :=
  { s with stage := { s.stage with vacancy := some { pocket := p, usable := true, vacant := true, inRunning := true } } }
theorem test_release : releasePocket (vacant 7 (withStage none (some readySet) (lineIn .running))) = some 7 ∧
    ((tryRelease (vacant 7 (withStage (some { assembling with finish := some .complete }) (some readySet) (lineIn .draining)))).stage.ready.map
      (·.sheets.length)) = some 1 ∧
    ((tryRelease (vacant 7 (withStage none (some readySet) (lineIn .running)))).track.recs[0]?.map (·.content.isSome)) = some true ∧
    releasePocket (vacant 7 (withStage none (some readySet) (lineIn .halted))) = none := by decide +kernel
theorem test_exit_decisions : (exitDecision 1 5 (lineIn .running)).2 = .held 1 .unusedGroup ∧
    (exitDecision 0 5 (exhausted (lineIn .running))).2 = .held 0 .exhausted ∧
    (exitDecision 0 5 (lineIn .running)).2 = .binned 1 0 1 1 ∧
    (exitDecision 0 5 (binIn 1 .opened (lineIn .running))).2 = .binned 1 0 1 2 ∧
    (binRec 1 (exitDecision 0 5 (binIn 1 .opened (lineIn .running))).1).state = .full ∧
    (exitDecision 0 5 (binIn 2 .full (binIn 1 .full (lineIn .running)))).1.line.state = .draining := by decide +kernel
theorem test_overflow_warning : (exitDecision 1 5 (lineIn .running)).1.loop.wire.isSome = true ∧
    (exitDecision 1 5 (lineIn .running)).1.presort.overflow = 1 ∧ capacityOf 1 (lineIn .running) = 2 := by decide +kernel

/-! ### The positions, the close, the departures, the arrivals -/

def counting (c : Nat) (s : State) : State := { s with pitch := { s.pitch with counter := c } }
theorem test_pocket_numbers : pocketNumber 0 (lineIn .running) = some 7 ∧ pocketNumber 7 (lineIn .running) = some 0 ∧
    pocketNumber 7 (counting 3 (lineIn .running)) = some 16 ∧ pocketNumber 0 (counting 19 (lineIn .running)) = some 19 ∧
    pocketNumber 8 (lineIn .running) = none ∧ pocketNumber 0 (indexed 7 false (lineIn .running)) = none := by decide +kernel
def noticeAt (on valid : Bool) : Notice := { entry := if valid then some 8 else none, driveOn := on, counterValid := valid }
theorem test_whole_records_move : (trackNotice (noticeAt true true) (withPocket 1 (fun r => planned (holding readySet r)) (lineIn .running))
      ).track.recs[2]? = some (planned (holding readySet (newPocket (some 6)))) ∧
    (trackNotice (noticeAt true true) (withPocket 6 (fun r => { holding readySet r with gateOrder := .pass }) (lineIn .running))
      ).track.recs[7]?.map (·.content.isSome) = some true ∧
    (trackNotice (noticeAt true true) State.reset).track.recs = [] := by decide +kernel
theorem test_close_counts : (closeAt atEnvelope 4).track.envCount = 1 ∧
    (closeAt (putCount .envStation 2 atEnvelope) 4).line.state = .recovery ∧ (closeAt atGate 6).line.state = .recovery ∧
    (latch .stationTiming (closeAt (putCount .divertGate 2 atGate) 6)).raisings = 1 ∧
    (closeAt atGate 6).track.gateCount = 0 ∧ DriveFollowsLine atGate ∧ closeAt (lineIn .running) 4 = lineIn .running := by
  refine ⟨?_, ?_, ?_, ?_, ?_, ⟨?_, ?_⟩, ?_⟩ <;> decide +kernel
def noMatch : SetRec := { readySet with acct := some { fields with matchReq := false } }
theorem test_close_reader : (closeAt atReader 3).track.recs[3]?.map (·.readPart) = some .noread ∧
    (closeAt (awaiting 3 noMatch .envReader 0 none (lineIn .running)) 3).track.recs[3]?.map (·.readPart) = some .notRequired := by
  decide +kernel
/-- A set at feeder 1, fed and awaited; the feeder's misses and timing errors. -/
def feeding (misses timing : Nat) (s : State) : State :=
  putFeeder 1 { state := .ready, misses := misses, timing := timing }
    (withPocket 1 (fun r => { planned (holding readySet r) with awaited := some (Awaited.mk .insertFeeder 1 3 (some (10, 20))) }) s)
theorem test_close_feeder : feederRec 1 (closeAt (feeding 1 1 (lineIn .running)) 1) = { state := .ready, misses := 1, timing := 2 } ∧
    feederRec 1 (closeAt (feeding 1 2 (lineIn .running)) 1) = { state := .faulted, misses := 1, timing := 3 } ∧
    (closeAt (feeding 1 1 (lineIn .running)) 1).track.recs[1]?.map (fun r => r.plan.map (·.result)) = some [.miss] := by decide +kernel
def leavingAt (p : Nat) (x : SetRec) (o : GateOrder) (e : Option ExitDecision) : State :=
  withPocket p (fun r => { holding x r with gateOrder := o, exitDecision := e }) (lineIn .running)
def strayed : SetRec := { marked with binding := .stray none, acct := none, marks := [.stray, .noRead] }
theorem test_departures_at_gate : (departGate true (leavingAt 6 marked .divert none)).outcomes.recs = [.diverted 5 .noRead 1 false] ∧
    (departGate true (leavingAt 6 strayed .divert none)).outcomes.recs = [.stray none false .stray 2] ∧
    departGate true (leavingAt 6 readySet .pass none) = leavingAt 6 readySet .pass none ∧
    (departGate true (leavingAt 6 readySet .none none)).outcomes.recs = [.lost (.account 5) false] ∧
    (departGate false (leavingAt 6 readySet .pass none)).outcomes.recs = [.lost (.account 5) false] ∧
    positionOf .divertGate (lineIn .running) = some 6 ∧ departGate true (lineIn .running) = lineIn .running := by decide +kernel
theorem test_departures_at_exit : (departExit true (leavingAt 7 readySet .pass (some (.binned 2 0 1 3)))).outcomes.recs =
      [.mailed 5 0 2 1 3 false] ∧
    (departExit true (leavingAt 7 readySet .pass (some (.held 0 .exhausted)))).outcomes.recs = [.held 5 0 .exhausted] ∧
    (departExit true (leavingAt 7 readySet .pass none)).outcomes.recs = [.lost (.account 5) true] ∧
    (departExit false (leavingAt 7 readySet .pass (some (.held 0 .exhausted)))).outcomes.recs = [.lost (.account 5) true] ∧
    departExit true (lineIn .running) = lineIn .running := by decide +kernel
theorem test_arrivals_with_drive_off :
    (arriveOff (withPocket 4 (holding readySet) (lineIn .halted)) (node 5)).track.recs[4]?.map (fun r => r.content.map (·.marks)) =
      some (some [.suspect]) ∧
    arriveOff (withPocket 6 (holding readySet) (lineIn .halted)) (node 7) = withPocket 6 (holding readySet) (lineIn .halted) := by
  decide +kernel
theorem test_arrival_at_sorter : ordersAt 7 8 (holding readySet) (lineIn .running) = some 10 ∧
    (arriveAt (withPocket 7 (holding readySet) (lineIn .running)) (node 8)).track.recs[7]?.map (·.exitDecision) =
      some (some (.binned 1 0 1 1)) := by decide +kernel

/-! ### DONE at every station, and the third timing error -/

def atCaliper : State := withPocket 5 (fun r => { r with expected := some 100 })
  (awaiting 5 readySet .caliper 7 (some (10, 20)) (lineIn .running))
def atSorter : State := withPocket 7 (fun r => { r with exitDecision := some (.binned 2 0 1 3) })
  (awaiting 7 readySet .sorter 10 (some (10, 20)) (lineIn .running))
def marksAt (p : Nat) (s : State) : Option (List Reason) := (s.track.recs[p]?.bind (·.content)).map (·.marks)
theorem test_done_caliper : marksAt 5 (after (.done 6 2 7 0 105 0) (atPhase 10 atCaliper)) = some [] ∧
    marksAt 5 (after (.done 6 2 7 0 95 0) (atPhase 10 atCaliper)) = some [] ∧
    marksAt 5 (after (.done 6 2 7 0 106 0) (atPhase 10 atCaliper)) = some [.thickness] ∧
    marksAt 5 (after (.done 6 2 7 0 94 0) (atPhase 21 atCaliper)) = some [.thickness, .stationTiming] := by decide +kernel
theorem test_done_sorter : (after (.done 8 0 10 0 0 2) (atPhase 10 atSorter)).track.recs[7]?.map (·.binConfirmed) = some true ∧
    runCount 31 (after (.done 8 0 10 0 0 3) (atPhase 10 atSorter)) = 1 ∧
    (after (.done 8 0 10 0 0 2) (atPhase 9 (putCount .sorter 2 atSorter))).line.state = .recovery ∧
    (after (.done 8 0 10 0 0 2) (atPhase 9 (putCount .sorter 2 atSorter))).track.sortCount = 0 := by decide +kernel
def fedBy (result phase misses timing : Nat) : FeederRec :=
  feederRec 1 (after (.done 3 6 3 (BitVec.ofNat 8 result) 0 0) (atPhase phase (feeding misses timing (lineIn .running))))
theorem test_done_feeder : fedBy 1 10 1 1 = { state := .ready, misses := 0, timing := 0 } ∧
    fedBy 2 20 0 1 = { state := .ready, misses := 1, timing := 0 } ∧ fedBy 3 20 1 1 = { state := .faulted, misses := 2, timing := 0 } ∧
    fedBy 1 21 1 2 = { state := .faulted, misses := 0, timing := 3 } ∧ fedBy 1 21 1 1 = { state := .ready, misses := 0, timing := 2 } := by
  decide +kernel

/-! ### STATUS, the feeders and the pairs -/

def jammedAt (a : List Nat) (s : State) : State :=
  { takeRaising .jam 1 5 s with line := { (takeRaising .jam 1 5 s).line with jammed := a } }
def waiting (s : State) : State := { s with line := { s.line with phase := .wait, holdLeft := 0 } }
theorem test_status_ready : (latch .jam (after (.status 5 .ready 0) (jammedAt [5] (lineIn .running)))).state = .latched ∧
    (after (.status 5 .ready 0) (jammedAt [5, 6] (lineIn .running))).line.jammed = [6] ∧
    (after (.status 5 .ready 0) (waiting (jammedAt [5] (lineIn .recovery)))).line.phase = .hold ∧
    (after (.status 5 .ready 0) (waiting (jammedAt [5] (lineIn .recovery)))).line.holdLeft = 500000 ∧
    (after (.status 5 .ready 0) (waiting (takeRaising .ringBreak 1 0 (jammedAt [5] (lineIn .recovery))))).line.phase = .wait ∧
    (latch .collationOverrun (after (.status 2 .ready 0) (takeRaising .collationOverrun 1 2 (lineIn .running)))).state = .latched := by
  decide +kernel
theorem test_status_sorter : (after (.status 8 .jam 1) (lineIn .running)).presort.reportedFull = true ∧
    (after (.status 8 .jam 2) (lineIn .running)).presort.reportedFull = false ∧
    (after (.status 8 .ready 0) { lineIn .running with presort := { (lineIn .running).presort with reportedFull := true, overflow := 3 } }
      ).presort.overflow = 0 := by decide +kernel
theorem test_wait_ends_at_the_event : let s := waiting (takeRaising .ringBreak 1 0 { lineIn .recovery with
        loop := { (lineIn .recovery).loop with ringBreakUp := true, misses := 2 } })
    (after (.rollReturn 0 (BitVec.allOnes 64)) s).line.phase = .hold ∧
    (after (.rollReturn 0 (BitVec.allOnes 64)) s).line.holdLeft = 500000 ∧
    (after (.rollReturn 0 0) { s with loop := { s.loop with nodeRecs := List.replicate 9 { NodeRec.fresh with absent := 2 } } }).line.phase =
      .wait := by decide +kernel
/-- Feeder 1 alone in pair 1. -/
def paired (st : FeederState) (l : LineState) : State :=
  let s := putFeeder 1 { state := st, misses := 1, timing := 1 } (lineIn l)
  evalPairs { s with tables := { s.tables with
    work := some { working with feeders := vset working.feeders 0 { caliper := 7, alternate := 0, pair := 1 } } } }
def pair1 (s : State) : Standing := vget s.feeders.pairs 0
theorem test_feeder_status : pair1 (paired .ready .running) = .covered ∧
    pair1 (after (.status 3 .empty 0) (paired .ready .running)) = .allEmpty ∧
    pair1 (after (.status 3 .fault 0) (paired .ready .running)) = .lost ∧
    (after (.status 3 .fault 0) (paired .ready .running)).line.state = .lockout ∧
    latch .essentialLost (after (.status 3 .fault 0) (paired .ready .running)) =
      { state := .active, occurrence := 1, sort := 2, number := 1, raisings := 1 } ∧
    (feederRec 1 (after (.status 3 .ready 0) (paired .empty .running))).state = .ready ∧
    (feederRec 1 (after (.status 3 .ready 0) (paired .faulted .running))).state = .faulted := by decide +kernel
theorem test_feeder_nodes : (feederRec 1 (feederNodeLost 1 (paired .ready .running))).state = .lost ∧
    (feederNodeLost 1 (paired .ready .running)).line.state = .lockout ∧
    (feederRec 1 (feederNodeSeen 1 (paired .lost .running))).state = .faulted ∧
    feederNodeSeen 1 (paired .ready .running) = paired .ready .running ∧
    (latch .essentialLost (evalPairs (putFeeder 1 { state := .ready, misses := 0, timing := 0 } (paired .lost .halted)))).state =
      .latched := by decide +kernel

/-! ### PRIMING, DRAINING, PAUSED -/

def ready7 (drain : Bool) (s : State) : State :=
  metered (List.replicate 7 1) { s with line := { s.line with drainPending := drain } }
theorem test_priming_ends : (after .meterStallEntry (ready7 false (lineIn .priming))).line.state = .running ∧
    (after .meterStallEntry (ready7 true (lineIn .priming))).line.state = .halted ∧
    (after .meterStallEntry (ready7 true (withStage (some set5) none (lineIn .priming)))).line.state = .draining ∧
    (marked1 (metered (List.replicate 7 600) (lineIn .priming))).line.state = .running ∧
    (marked1 (lineIn .draining)).line.state = .halted ∧ (settle (lineIn .paused)).line.state = .halted ∧
    settle (withStage (some set5) none (lineIn .paused)) = withStage (some set5) none (lineIn .paused) := by decide +kernel
/-- The mark that ends PRIMING is no clean pitch, the next one is (log 42). -/
theorem test_clean_pitch_after_priming : (marked1 (metered (List.replicate 7 600) (lineIn .priming))).line.clean = 0 ∧
    (marked1 (lineIn .running)).line.clean = 1 := by decide +kernel
/-- A READY set stays in the stage at the notice of a third miss, and is released at that of a second (log 40). -/
theorem test_third_miss_before_release : let s := withStage none (some readySet) (lineIn .running)
    let miss := fun n => { s with stage := { s.stage with releaseAwaited := some 19, releaseMiss := n } }
    (receive (noticeAt true true) (miss 2) .collation).stage.ready.isSome = true ∧
    (receive (noticeAt true true) (miss 1) .collation).stage.ready.isSome = false := by decide +kernel

/-! ### The first sheet of another account, and late sheets -/

def another : State := withAccounts [account 6, account 7] 7 (ordered 0 none)
def bindingOf (s : State) : Option (Binding × List Reason × Nat) := s.stage.assembly.map fun x => (x.binding, x.marks, x.sheets.length)
theorem test_rebinding : bindingOf (after (.sheet 2 7 1 2 9 0 false) another) = some (.account 7, [], 1) ∧
    (after (.sheet 2 7 1 2 9 0 false) another).acct.queue.map (fun a => (a.seq, a.skipped)) = [(6, true)] ∧
    (after (.sheet 2 7 1 2 9 0 false) another).outcomes.recs = [.missing 5 .reboundPast] ∧ releasePocket another = none := by
  decide +kernel
theorem test_straying : bindingOf (after (.sheet 2 4 1 24 9 0 false) another) = some (.stray (some 4), [.stray], 1) ∧
    bindingOf (after (.sheet 2 8 1 2 9 0 false) another) = some (.stray (some 8), [.stray], 1) ∧
    bindingOf (after (.sheet 2 5 1 2 9 1 false) another) = some (.stray none, [.stray, .noRead], 1) ∧
    (after (.sheet 2 4 1 2 9 0 false) another).outcomes.recs = [.missing 5 .setStrayed] := by decide +kernel
def thick (n : Nat) : SetRec := { readySet with sheets := List.replicate n (Sheet.mk none false) }
theorem test_late_sheets : (after (.sheet 2 5 24 24 9 0 true) (withStage (some (thick 23)) none (lineIn .running))).stage.ready.isSome =
      false ∧
    bindingOf (after (.sheet 2 5 24 24 9 0 true) (withStage (some (thick 23)) (some readySet) (lineIn .running))) =
      some (.account 5, [.doubleSheet], 24) ∧
    (after (.sheet 2 5 1 1 9 0 false) (withStage none (some (thick 24)) (lineIn .running))).stage.ready.map (·.extraSheets) = some 1 ∧
    (after (.sheet 2 5 1 1 9 1 false) (withStage none (some (thick 1)) (lineIn .running))).stage.ready.map (·.marks) = some [.noRead] ∧
    releasePocket (withStage (some (thick 23)) (some readySet) (lineIn .running)) = none := by decide +kernel

/-! ### The structural checks, and what a commit sets -/

def found (t : TableId) (es : List (List Nat)) (s : State) : Option (Nat × Nat) := structural t (es.map entry) s
def goodNodes : List (List Nat) := [[2, 1], [3, 2, 1, 1, 0, 10, 0, 20], [4, 3, 0, 3], [5, 4, 0, 4, 0, 10, 0, 20],
  [6, 5, 0, 5, 0, 10, 0, 20], [7, 6, 0, 6, 0, 10, 0, 20], [8, 8, 0, 7, 0, 10, 0, 20], [1, 9], [9, 10]]
theorem test_profile_checks : found .lineProfile [] (lineIn .halted) = some (2, 65535) ∧
    found .lineProfile [[]] (lineIn .halted) = some (3, 0) ∧
    found .lineProfile [[20, 8, 1, 0, 0x13, 0x88, 0x1D, 0x4C, 0, 50, 3]] (lineIn .halted) = none ∧
    found .lineProfile [[20, 9, 1, 0, 0x13, 0x88, 0x1D, 0x4C, 0, 50, 3]] (lineIn .halted) = some (7, 65535) := by decide +kernel
theorem test_node_checks : found .nodeTable goodNodes (lineIn .halted) = none ∧
    found .nodeTable [] (lineIn .halted) = some (2, 65535) ∧ found .nodeTable [[0, 1]] (lineIn .halted) = some (3, 0) ∧
    found .nodeTable (goodNodes ++ [[9, 10]]) (lineIn .halted) = some (4, 9) ∧
    found .nodeTable [[2, 1]] (lineIn .halted) = some (5, 65535) ∧
    found .nodeTable (goodNodes.set 2 [4, 3, 0, 2]) (lineIn .halted) = some (6, 65535) ∧
    found .nodeTable (goodNodes.set 3 [5, 4, 0, 4, 0, 10, 1, 0]) (lineIn .halted) = some (7, 3) := by decide +kernel
def job0 : List Nat := [0, 5, 0, 10, 0, 20, 0x21, 2, 6, 0, 10]
theorem test_job_and_defect_checks : found .jobTable [] (lineIn .halted) = some (2, 65535) ∧
    found .jobTable [[]] (lineIn .halted) = some (3, 0) ∧ found .jobTable [job0, [0, 7, 13]] (lineIn .halted) = some (3, 1) ∧
    found .jobTable [job0, [0, 7, 1]] (lineIn .halted) = some (8, 1) ∧
    found .jobTable [job0, [0, 7, 2], [0, 7, 1]] (lineIn .halted) = none ∧
    found .defectList [[19], [19]] (lineIn .halted) = some (4, 1) ∧ found .defectList [[19], [20]] (lineIn .halted) = some (7, 1) := by
  decide +kernel
def band (digits group low high : Nat) : List Nat := [digits, group, 0, 0, 0, 0, low, 0, 0, 0, 0, high]
theorem test_presort_checks : found .scheme [[]] (lineIn .halted) = some (3, 0) ∧
    found .scheme [band 3 1 10 20, band 3 1 20 30] (lineIn .halted) = some (9, 1) ∧
    found .scheme [band 3 1 10 20, band 5 1 20 30] (lineIn .halted) = none ∧
    found .groupTable [[6]] (lineIn .halted) = some (3, 0) ∧ found .groupTable [[2, 1, 1, 0, 0, 0, 1, 1]] (lineIn .halted) = some (4, 0) ∧
    found .groupTable [[1, 1, 0, 0, 0, 0, 1, 1], [1, 1, 0, 0, 0, 0, 1, 1]] (lineIn .halted) = some (4, 1) ∧
    found .binTable [] (lineIn .halted) = some (2, 65535) ∧
    found .binTable (List.replicate 16 [0, 1] ++ [[0, 0]]) (lineIn .halted) = some (3, 16) ∧
    found .binTable (List.replicate 17 [0, 1]) (lineIn .halted) = none := by decide +kernel
/-- A COMMIT of these entries, with their checksum. -/
def committed (t : TableId) (es : List (List Nat)) (s : State) : State :=
  let tb : Table := { table es with state := .loading, count := 0 }
  let sum := checksumOf t tb.entries es.length
  does .commit 0x31 [tableNumber t, es.length / 256, es.length % 256, sum / 256, sum % 256] { s with tables := s.tables.put t tb }
def folded (f : Nat × Nat) (s : State) : State := { s with tables := { s.tables with lastFold := some f } }
theorem test_commit_job : ((committed .jobTable [job0, [0, 7, 2, 3]] (lineIn .halted)).tables.work.map fun w =>
      (w.tolerance, w.fold, w.envClass, w.deadline, (vget w.feeders 0).pair)) = some (5, 2, 1, 10, 3) ∧
    (committed .jobTable [job0] (folded (1, 1) (lineIn .halted))).tables.settling = 2 ∧
    (committed .jobTable [job0] (folded (2, 1) (lineIn .halted))).tables.settling = 0 := by decide +kernel
theorem test_commit_profile_and_nodes :
    ((committed .lineProfile [[20, 8, 1, 0, 0x13, 0x88, 0x1D, 0x4C, 0, 50, 3]] (lineIn .halted)).track.recs = List.replicate 8 (newPocket none)) ∧
    (feederRec 1 (committed .nodeTable goodNodes (lineIn .halted)) = { state := .ready, misses := 0, timing := 0 }) ∧
    (committed .nodeTable goodNodes (lineIn .halted)).loop.nodeRecs = List.replicate 9 NodeRec.fresh := by decide +kernel

/-! ### Takes with staged values, skipped records, the feed hold, gap pockets -/

def withStaged (g : Staged) (hold : Bool) (s : State) : State :=
  { s with tables := { s.tables with staged := g, hold := hold } }
def newFold : Staged := { Staged.none with fold := some 3, tolerance := some 9 }
def settlingOf (s : State) : Nat × Option (Nat × Nat) × Option (List Reason) :=
  (s.tables.settling, s.tables.work.map fun w => (w.tolerance, w.fold), s.stage.assembly.map (·.marks))
theorem test_take_applies_staged : settlingOf (accountNotice (noticeAt true true) (withStaged newFold false taking)) =
      (1, some (9, 3), some [.unsettled]) ∧
    settlingOf (accountNotice (noticeAt true true) (withStaged newFold true taking)) = (0, some (5, 1), some []) ∧
    (accountNotice (noticeAt true true) (withStaged newFold false taking)).tables.staged = Staged.none := by decide +kernel
def hitting (k : PullKind) (hits : Nat) (s : State) : State :=
  { s with tables := { s.tables with pull := [{ key := 9, reason := 1, kind := k, hits := hits }] } }
theorem test_take_hits : (accountNotice (noticeAt true true) (hitting .once 0 taking)).tables.pull = [] ∧
    ((accountNotice (noticeAt true true) (hitting .standing 254 taking)).tables.pull.map (·.hits)) = [255] ∧
    ((accountNotice (noticeAt true true) (hitting .standing 255 taking)).tables.pull.map (·.hits)) = [255] ∧
    ((accountNotice (noticeAt true true) (hitting .once 0 taking)).stage.assembly.bind (·.acct)).map (·.pulled) = some true := by
  decide +kernel
def heldBy (h : Option HoldReason) (s : State) : State := { s with acct := { s.acct with holdReason := h } }
theorem test_take_ends_hold : (accountNotice (noticeAt true true) (heldBy (some .queueEmpty) taking)).acct.holdReason = none := by
  decide +kernel
def skipFirst (l : LineState) : State := withAccounts [{ account 5 with skipped := true }] 6 (lineIn l)
theorem test_skipped_release : (accountNotice (noticeAt true true) (skipFirst .running)).outcomes.recs = [.missing 5 .skippedRelease] ∧
    (accountNotice (noticeAt true false) (skipFirst .draining)).outcomes.recs = [.missing 5 .skippedRelease] ∧
    accountNotice (noticeAt true false) (skipFirst .running) = skipFirst .running ∧
    accountNotice (noticeAt false true) (skipFirst .draining) = skipFirst .draining ∧
    accountNotice (noticeAt true true) (skipFirst .priming) = skipFirst .priming ∧
    (accountNotice (noticeAt true true) (full 512 (skipFirst .running))).acct.holdReason = some .releaseWaiting := by decide +kernel
def holdAt (s : State) : Option HoldReason := (accountNotice (noticeAt true true) s).acct.holdReason
theorem test_feed_hold : holdAt (lineIn .running) = some .queueEmpty ∧ holdAt (ordered 0 none) = some .stageBusy ∧
    holdAt (full 509 taking) = none ∧ holdAt (full 510 taking) = some .room ∧
    accountNotice (noticeAt true true) (heldBy (some .queueEmpty) (lineIn .running)) = heldBy (some .queueEmpty) (lineIn .running) ∧
    holdAt (heldBy (some .room) (lineIn .running)) = some .queueEmpty := by decide +kernel
def unconfirmed (p n : Nat) (s : State) : State := { s with stage := { s.stage with releaseAwaited := some p, releaseMiss := n } }
theorem test_entry_vacancy : runCount 11 (collationNotice (noticeAt true true) (vacant 7 (lineIn .running))) = 1 ∧
    (collationNotice (noticeAt true true) (lineIn .draining)).stage.vacancy =
      some { pocket := 8, usable := true, vacant := true, inRunning := false } ∧
    (collationNotice (noticeAt true true) (lineIn .priming)).stage.vacancy = none ∧
    (collationNotice (noticeAt true false) (lineIn .running)).stage.vacancy = none := by decide +kernel
theorem test_release_unconfirmed :
    marksAt 1 (collationNotice (noticeAt true true) (unconfirmed 6 1 (withPocket 1 (holding readySet) (lineIn .running)))) =
      some [.stationTiming] ∧
    marksAt 0 (collationNotice (noticeAt true true) (unconfirmed 7 0 (withPocket 0 (holding readySet) (lineIn .running)))) =
      some [.stationTiming] ∧
    (collationNotice (noticeAt true true) (unconfirmed 7 1 (lineIn .running))).stage.releaseMiss = 2 ∧
    (collationNotice (noticeAt true true) (unconfirmed 7 2 (lineIn .running))).line.state = .recovery := by decide +kernel

/-! ### Lookup, plan, exit decisions, run clear, device reset -/

def scheme (es : List (List Nat)) (s : State) : State := { s with tables := { s.tables with scheme := table es } }
theorem test_lookup : presortLookup [0, 1, 5, 0, 0] (scheme [band 3 4 10 20, band 5 6 100 200] (lineIn .running)) = 4 ∧
    presortLookup [0, 0, 1, 5, 0] (scheme [band 3 4 0 20, band 5 6 100 200] (lineIn .running)) = 6 ∧
    presortLookup [0, 0, 1] (scheme [band 3 4 0 20, band 5 6 100 200] (lineIn .running)) = 4 ∧
    presortLookup [0, 10, 5] (scheme [band 3 4 0 20] (lineIn .running)) = 0 ∧
    presortLookup [0, 9, 9] (scheme [band 3 4 0 20] (lineIn .running)) = 0 ∧
    presortLookup [0, 0, 1] State.reset = 0 := by decide +kernel
theorem test_insert_plan : (insertPlan readySet (lineIn .running)).2 = [{ feeder := 1, position := 1, result := .pending }] ∧
    (insertPlan marked (lineIn .running)).2 = [] ∧
    (insertPlan readySet (feederIs .empty .empty)).1.marks = [.insertUnavailable] := by decide +kernel
def twoFeeders : State :=
  let s := putFeeder 2 { state := .ready, misses := 0, timing := 0 } (feederIs .empty .empty)
  { s with tables := { s.tables with
    work := some { working with feeders := vset working.feeders 0 { caliper := 7, alternate := 2, pair := 0 } } } }
theorem test_insert_plan_alternate : (insertPlan readySet twoFeeders).2.map (·.feeder) = [2] ∧
    fields.inserts.Pairwise (· < ·) ∧ readySet.acct = some fields := by
  refine ⟨?_, ?_, ?_⟩ <;> decide +kernel
def mode (m : GroupMode) (i : Nat) (s : State) : State := modGroup 0 (fun r => { r with mode := m, index := i }) s
theorem test_exit_search : (exitDecision 0 5 (binIn 1 .full (lineIn .running))).2 = .binned 2 0 1 1 ∧
    (groupRec 0 (exitDecision 0 5 (binIn 1 .full (lineIn .running))).1).state = .exhausted ∧
    (groupRec 0 (exitDecision 0 5 (binIn 1 .full (mode .loop 0 (lineIn .running)))).1).index = 0 ∧
    (exitDecision 0 5 (binIn 2 .full (mode .loop 1 (lineIn .running)))).2 = .binned 1 0 1 1 ∧
    (exitDecision 0 5 (binIn 2 .full (mode .single 1 (lineIn .running)))).2 = .held 0 .exhausted ∧
    (groupRec 0 (exitDecision 0 5 (binIn 1 .full (binIn 2 .offline (mode .loop 1 (lineIn .running))))).1).index = 1 ∧
    capacityOf 2 (lineIn .running) = 1 ∧ ownerOf 2 (lineIn .running) = some 0 := by decide +kernel
theorem test_clear_run_counters : let s := does .clearRun 0x44 [] (takeRaising .groupExhausted 4 0
      (withStage (some marked) (some readySet) (binIn 2 .opened (bumpRun 5 (lineIn .paused)))))
    (runCount 6 s, runCount 10 s, runCount 5 s, s.line.prev, s.line.lastCause) = (2, 1, 0, .paused, 0) ∧
    (latch .groupExhausted s).state = .latched := by decide +kernel
theorem test_device_reset_reads_estop :
    let s := after .estopAssert (sentAll (does .deviceReset 0x45 [] (lineIn .halted)))
    (latch .estop (after .deviceResetEffect s)).state = .active ∧ (after .deviceResetEffect s).pitch.estopAsserted = true ∧
    (after .deviceResetEffect s).track.positions = true := by decide +kernel

/-! ### The roll and the nodes, the mark's conditions, the suspect marking -/

/-- A mask with every bit but address a's. -/
def without (a : Nat) : BitVec 64 := BitVec.allOnes 64 ^^^ (1#64 <<< a)
theorem test_roll_judges_nodes : let s := after (.rollReturn 0 (without 5)) (absentRolls 2)
    s.loop.nodeRecs.map (·.lost) = [false, false, false, true, false, false, false, false, false] ∧ s.loop.nodeRecs[2]? = some NodeRec.fresh ∧
    s.line.stationLoss = [5] ∧ (latch .nodeLost s).number = 5 ∧ s.line.state = .recovery ∧
    up .nodeLost (after (.rollReturn 0 (BitVec.allOnes 64)) s) = false ∧ (after (.rollReturn 0 (BitVec.allOnes 64)) s).line.stationLoss = [] ∧
    (feederRec 1 (after (.rollReturn 0 (without 3)) (absentRolls 2))).state = .lost ∧ (lineIn .running).pins.resetN = true := by
  decide +kernel
theorem test_mark_conditions :
    latch .chainSlip (marked1 (indexed 18 true (lineIn .running))) =
      { state := .latched, occurrence := 1, sort := 0, number := 0, raisings := 1 } ∧
    (marked1 (indexed 18 true (lineIn .running))).line.state = .recovery ∧
    (marked1 (metered (List.replicate 7 1) (lineIn .running))).line.lastCause = 3 ∧
    (latch .unexpectedMotion (marked1 (marked1 (lineIn .halted)))).raisings = 1 ∧
    (marked1 { indexed 19 true (lineIn .running) with pitch := { (indexed 19 true (lineIn .running)).pitch with searchCount := 4 } }
      ).pitch.searchCount = 0 ∧
    (marked1 (lineIn .running)).loop.rollSerial = 1 ∧ (marked1 (lineIn .halted)).loop.rollSerial = 0 := by decide +kernel
/-- Sets in the stage, at the caliper before the gate, and at the gate. -/
def crowded (l : LineState) : State :=
  withPocket 6 (holding readySet) (withPocket 5 (holding readySet) (withStage (some set5) none (lineIn l)))
def suspects (s : State) : List (Option (List Reason)) := [s.stage.assembly.map (·.marks), marksAt 5 s, marksAt 6 s]
theorem test_suspect_marking : suspects (after .estopAssert (crowded .running)) = [some [.suspect], some [.suspect], some []] ∧
    suspects (after .estopAssert (crowded .recovery)) = [some [], some [], some []] ∧
    suspectAll (after .estopAssert (crowded .running)) = after .estopAssert (crowded .running) ∧
    (after .estopAssert (crowded .running)).line.state = .paused := by decide +kernel
theorem test_recovery_entry : let s := raise .jam 1 5 (crowded .draining)
    suspects s = [some [.suspect], some [.suspect], some []] ∧ s.line.state = .recovery ∧ s.line.drainPending = true ∧
    s.line.phase = .hold ∧ s.line.holdLeft = 500000 ∧ (raise .jam 1 5 (crowded .paused)).line.state = .paused ∧
    (latch .stationTiming (raise .stationTiming 1 5 (crowded .paused))).state = .latched ∧
    (raise .essentialLost 2 1 (lineIn .priming)).line.state = .lockout ∧ (raise .groupExhausted 4 0 (lineIn .running)).line.state = .draining ∧
    (raise .groupExhausted 4 0 (lineIn .priming)).line.drainPending = true := by decide +kernel

/-! ### Arrivals in order, releases, sheets, the jammed set -/

/-- The destinations of the part's cells, the first on the wire. -/
def sentTo (s : State) : List Nat := (((s.loop.wire.map (·.1)).toList ++ s.loop.orders).map fun c => c.dest.toNat)
theorem test_arrivals_in_order : sentTo (trackArrive true (withPocket 1 (holding readySet) (withPocket 5 (fun r =>
      { holding readySet r with stationPart := .inserted }) (lineIn .running)))) = [3, 6, 7] := by decide +kernel
def releasedAt (p : Nat) (due : Option Notice) : State :=
  let s := vacant p (withStage none (some readySet) (lineIn .running))
  tryRelease { s with track := { s.track with due := due } }
theorem test_release_cases : marksAt 1 (releasedAt 6 none) = some [] ∧ sentTo (releasedAt 6 none) = [2, 3] ∧
    (releasedAt 3 none).outcomes.recs = [.lost (.account 5) false] ∧ marksAt 0 (releasedAt 8 (some (noticeAt true true))) = some [] ∧
    (releasedAt 8 (some (noticeAt true true))).track.due = none := by decide +kernel
def joined (i : Instr) (x : SetRec) : Option (List Reason × Option Finish) :=
  let s := after i (withStage (some x) none (lineIn .running))
  (s.stage.assembly.or s.stage.ready).map fun y => (y.marks, y.finish)
theorem test_sheet_marks : joined (.sheet 2 6 3 5 7 0 true) assembling = some ([.seqBreak, .pageOrder, .doubleSheet], none) ∧
    joined (.sheet 2 5 2 2 7 1 false) assembling = some ([.noRead], none) ∧
    joined (.sheet 2 5 2 3 7 0 false) { assembling with maxSheets := 2 } = some ([.pageOrder, .overlength, .unbalanced], some .maximum) ∧
    joined (.sheet 2 5 2 2 0 0 false) { assembling with acct := some { fields with pages := 3, pulled := true, recalled := true } } =
      some ([.pulled, .recalled, .pageCount], some .complete) := by decide +kernel
theorem test_ready_of_sorter_and_sheets :
    let full8 := { jammedAt [8] (lineIn .running) with presort := { (lineIn .running).presort with reportedFull := true, overflow := 3 } }
    let sheets := waiting (takeRaising .collationOverrun 1 2 (jammedAt [2] (lineIn .recovery)))
    (after (.status 8 .ready 0) full8).presort.overflow = 0 ∧ (after (.status 8 .ready 0) full8).line.jammed = [] ∧
    (latch .jam (after (.status 8 .ready 0) full8)).state = .latched ∧ (after (.status 2 .ready 0) sheets).line.phase = .hold ∧
    (latch .collationOverrun (after (.status 2 .ready 0) sheets)).state = .latched := by decide +kernel

/-! ### Tables that leave use and come into use -/

/-- The first LOAD of table t. -/
def loadFirst (t : Nat) (s : State) : State := does .load 0x30 [32 * t, 0] s
def lossy : State := let s := takeRaising .groupExhausted 4 0 (takeRaising .feederFault 2 1 (jammedAt [5] (lineIn .halted)))
  { s with line := { s.line with stationLoss := [5] }, tables := { s.tables with work := (paired .ready .halted).tables.work } }
theorem test_first_loads : (loadFirst 1 lossy).pitch.counterValid = false ∧ (loadFirst 1 lossy).track.recs = [] ∧
    (loadFirst 2 lossy).loop.nodeRecs = [] ∧ (loadFirst 2 lossy).line.jammed = [] ∧ (loadFirst 2 lossy).line.stationLoss = [] ∧
    up .jam (loadFirst 2 lossy) = false ∧ up .feederFault (loadFirst 2 lossy) = false ∧ pair1 (loadFirst 2 lossy) = .lost ∧
    (loadFirst 2 lossy).track.positions = false ∧ (groupRec 0 (loadFirst 6 lossy)).state = .unused ∧
    up .groupExhausted (loadFirst 6 lossy) = false ∧ up .groupExhausted (loadFirst 5 lossy) = true ∧
    capacityOf 1 (loadFirst 7 lossy) = 0 ∧ warningLevel (loadFirst 7 lossy) = 0 := by decide +kernel
theorem test_commit_groups_and_bins : let s := committed .groupTable [[2, 1, 2, 0, 0, 0, 2, 1], [0, 0, 0, 0, 0, 0, 1, 1]] lossy
    (groupRec 0 s = { rotation := [1, 2], mode := .loop, action := .overflow, index := 0, state := .active, tray := 1 } ∧
      (groupRec 1 s).state = .unused ∧ up .groupExhausted s = false) ∧
    warningLevel (committed .binTable ([0, 9] :: List.replicate 16 [0, 8]) (lineIn .halted)) = 9 ∧
    capacityOf 1 (committed .binTable ([0, 9] :: List.replicate 16 [0, 8]) (lineIn .halted)) = 8 := by decide +kernel
theorem test_third_unconfirmed_release : let s := collationNotice (noticeAt true true) (unconfirmed 7 2 (lineIn .running))
    s.stage.releaseMiss = 0 ∧ latch .stationTiming s = { state := .latched, occurrence := 1, sort := 1, number := 2, raisings := 1 } := by
  decide +kernel

/-! ### START's conditions, STAGE's ranges, READ's bytes, the records' bytes -/

theorem test_start_conditions : startFailure (tableState .nodeTable .empty (lineIn .halted)) = some (1, 2) ∧
    startFailure (tableState .binTable .bad (lineIn .halted)) = some (1, 7) ∧
    startFailure { lineIn .halted with pitch := { (lineIn .halted).pitch with estopAsserted := true } } = some (2, 0) ∧
    startFailure (takeRaising .estop 0 0 (takeRaising .groupExhausted 4 0 (lineIn .halted))) = some (3, 1) ∧
    startFailure (takeRaising .retriesExhausted 0 0 (lineIn .halted)) = some (3, 11) ∧
    startFailure (takeRaising .groupExhausted 4 0 (lineIn .halted)) = some (3, 12) := by decide +kernel
theorem test_stage_ranges : (∀ r ∈ [(1, 0, 2000), (2, 1, 100), (3, 1, 1000), (4, 0, 1000), (5, 1, 7), (6, 0, 6), (7, 0, 15), (8, 0, 15),
      (9, 4, 1000)], stageOk { field := r.1, feeder := 12, value := r.2.1 } = true ∧ stageOk { field := r.1, feeder := 1, value := r.2.2 } =
      true ∧ stageOk { field := r.1, feeder := 1, value := r.2.2 + 1 } = false ∧ (r.2.1 = 0 ∨
      stageOk { field := r.1, feeder := 1, value := r.2.1 - 1 } = false)) ∧ stageOk { field := 6, feeder := 13, value := 1 } = false := by
  decide +kernel
def readsAs (item i : Nat) (s : State) : Option (List Nat) := (readEntry item i s).map fun l => l.map (·.toNat)
theorem test_read_bytes : readsAs 1 0 (lineIn .running) = some [7, 17, 0, 0, 0, 0, 0, 0, 0, 0] ∧
    readsAs 2 0 (rolled true 2 true) = some [0, 3, 2, 0, 0, 0, 0, 0, 0, 0, 0] ∧
    readsAs 3 1 (feederIs .empty .empty) = some [3, 2, 1, 0, 0, 2, 0] ∧
    readsAs 4 4 State.reset = some [4, 1, 0, 0, 0, 0, 0, 0, 0, 255, 255] ∧
    readsAs 6 0 (recovering 2) = some [6, 1, 0, 0, 2, 3, 0, 0, 1, 0, 1, 1, 0, 0, 0, 1, 0, 0] ∧
    readsAs 7 1 (lineIn .running) = some [1, 1, 3, 1, 1, 0, 0, 7, 0, 0, 1, 1] ∧
    readsAs 8 0 (lineIn .running) = some [0, 2, 1, 2, 0, 0, 0, 1, 2, 0, 1, 0, 1] ∧
    readsAs 9 0 (lineIn .running) = some [0, 0, 0, 0, 1, 0] ∧
    readsAs 9 1 (binIn 1 .full (lineIn .running)) = some [1, 3, 0, 1, 0, 2, 0, 0, 1, 0, 0, 3, 0, 0, 3] := by decide +kernel
theorem test_read_queues : readsAs 10 0 accounts56 = some [0, 2, 0, 0, 5, 0, 0, 6, 0, 0, 1, 0, 0, 0, 0, 0, 0, 0, 0, 0, 0] ∧
    readsAs 11 1 (pulled [3, 9] (lineIn .running)) = some [0, 0, 0, 0, 0, 9, 1, 1, 0] ∧
    readsAs 13 0 (full 2 (lineIn .running)) = some [0, 2, 1, 254, 0, 0, 0, 0, 1, 254, 0, 0, 0, 0] ∧
    readsAs 14 0 (withStaged newFold true (folded (1, 2) (lineIn .running))) = some [1, 2, 0, 0, 65, 0, 0, 0, 0, 1, 2] ∧
    readsAs 14 0 State.reset = some [0, 0, 0, 0, 0, 0, 0, 0, 0, 255, 255] := by decide +kernel
theorem test_record_bytes : [Record.mailed 5 1 2 3 4 true, .held 5 1 .unusedGroup, .diverted 5 .noRead 2 false, .stray none true .stray 1,
      .missing 5 .skippedRelease, .purged (.stray (some 5)) true, .lost (.account 5) true, .tray 1 .closed 2 3 4 5 6].map
      (fun r => (recordBytes r).map (·.toNat)) =
    [[1, 0, 0, 5, 1, 2, 0, 3, 0, 4, 1], [2, 0, 0, 5, 1, 2], [3, 0, 0, 5, 3, 2, 0], [4, 0, 0, 0, 2, 20, 1], [5, 0, 0, 5, 3], [6, 0, 0, 5, 3, 2],
      [7, 0, 0, 5, 2, 2], [8, 129, 2, 0, 3, 0, 4, 0, 0, 5, 0, 0, 6]] := by decide +kernel
end

section
/-! A state at COLD RESET; the drive follows the line state (O4, O10, O2). -/

namespace Sys2Proof.Machine

/-- The outputs follow the line state under every update the part's operations are made of: those that touch neither leave the
relation, and the two that touch one are followed by the outputs' update (R13). -/
theorem closed_driveFollowsLine : Closed DriveFollowsLine where
  pins _ _ h := h
  stage _ _ h := h
  track _ _ h := h
  feeders _ _ h := h
  presort _ _ h := h
  outcomes _ _ h := h
  draws _ _ h := h
  pitch s p en crawl estop h := by simpa only [DriveFollowsLine, en, crawl, estop] using h
  line s l state _ h := by simpa only [DriveFollowsLine, state] using h
  raised _ _ _ _ h := h
  lowered _ _ _ h := h
  cleared _ _ _ h := h
  moved _ _ _ _ := driveOk_updateDrive _
  estop _ _ _ _ := driveOk_updateDrive _
  loop _ _ _ h := h
  tables _ _ _ _ h := h
  pull _ _ _ h := h
  acct _ _ _ h := h

theorem driveFollowsLine_cold (p : Pins) (d : Nat) (q : List Instr) : DriveFollowsLine (State.cold p d q) := ⟨rfl, rfl⟩

/-- A DEVICE RESET gives the Pitch Unit and the Line Controller their cold values (R16, R162). -/
theorem deviceValues_cold (s : State) :
    (deviceValues s).pitch = PitchUnit.cold ∧ (deviceValues s).line = LineCtl.cold := by
  unfold deviceValues
  dsimp only
  split <;> exact ⟨rfl, rfl⟩

theorem driveFollowsLine_deviceValues (s : State) : DriveFollowsLine (deviceValues s) := by
  obtain ⟨pitch, line⟩ := deviceValues_cold s
  simp only [DriveFollowsLine, pitch, line]
  exact ⟨rfl, rfl⟩

/-- Settles O4: R13's relation is closed under the updates every operation is made of, and the two resets establish it. -/
theorem driveFollowsLineKept : Obligations.DriveFollowsLineKept := fun _ _ h e =>
  step_keeps closed_driveFollowsLine driveFollowsLine_cold (fun s _ => driveFollowsLine_deviceValues s) (fun _ _ h => h) e h

theorem latch_cold (p : Pins) (d : Nat) (q : List Instr) (k : LatchKind) : latch k (State.cold p d q) = Latch.idle := by
  cases k <;> rfl

theorem get_cold (i : TableId) : TableStore.cold.get i = Table.cold := by cases i <;> rfl

/-- Settles O10: after a cold reset every queue and list is empty and every latch idle, so each invariant holds. -/
theorem resetMeetsInvariants : Obligations.ResetMeetsInvariants := by
  refine ⟨⟨rfl, rfl⟩, fun i => ?_, ?_, ?_, ?_, fun k => ?_⟩
  · have e : (State.reset.tables.get i).entries = [] := by cases i <;> rfl
    rw [e]
    exact ⟨List.Pairwise.nil, by simp⟩
  · constructor <;> exact Nat.zero_le _
  · constructor <;> simp [State.reset, State.cold, AccountQueue.cold]
  · exact ⟨List.Pairwise.nil, Nat.zero_le _⟩
  · have e : vget State.reset.line.latches (latchIdx k) = Latch.idle := latch_cold State.reset.pins 0 [] k
    rw [e]
    simp [Latch.ok, Latch.idle]

/-- Settles O2: with no command waiting a step is one idle unit of time, held while RESET_N is low. -/
theorem emptyQueueLetsTimePass : Obligations.EmptyQueueLetsTimePass := by
  intro s empty
  have idle : step s = .next (if s.pins.resetN then elapse 1 s else s) := by simp only [step, empty]
  constructor <;> intro reset <;> rw [idle, reset] <;> rfl

end Sys2Proof.Machine
end

section
/-! ESTOP_N held low through a cold reset (O12). -/

namespace Sys2Proof.Machine
theorem vget_replicate {α : Type} [Inhabited α] {n i : Nat} (x : α) (h : i < n) : vget (Vector.replicate n x) i = x := by
  simp [vget, h]

/-- The state a RESET_N that rises with ESTOP_N low raises ESTOP in: the cold values, the input taken as asserted, the roll timer
running (R15, R21). -/
def coldAsserted (p : Pins) (d : Nat) (q : List Instr) : State :=
  { State.cold { p with resetN := true } d q with
    pitch := { PitchUnit.cold with estopAsserted := true }
    loop := { LoopIf.cold with rollTimer := some 0 } }

/-- With ESTOP_N low at the end of a cold reset the outputs are off already and the line is HALTED, so ESTOP is raised and nothing
else follows (R15, R161). -/
theorem coldResetEnd_estopLow {p : Pins} (low : p.estopN = false) (d : Nat) (q : List Instr) :
    coldResetEnd (State.cold p d q) = takeRaising .estop 0 0 (coldAsserted p d q) := by
  obtain ⟨r, e, a, b⟩ := p
  cases low
  rfl

/-- With every notice sent to nobody, as the cold values have it, a raising asks the loop for nothing (R30). -/
theorem takeRaising_coldAsserted_loop (p : Pins) (d : Nat) (q : List Instr) :
    (takeRaising .estop 0 0 (coldAsserted p d q)).loop = (coldAsserted p d q).loop := rfl

/-- Settles O12, an end of the reset at a time: the cold values block by block, then the three ways RESET_N can find ESTOP_N. -/
theorem coldResetAndItsEnd : Obligations.ColdResetAndItsEnd := by
  refine ⟨fun s => ⟨_, rfl, rfl, rfl, rfl, ?_, ?_, ⟨fun i => ?_, ?_⟩, ?_, ?_, ?_, ⟨fun k h => vget_replicate _ h,
    fun n h => vget_replicate _ h⟩, ⟨fun g h => ?_, fun b h => vget_replicate _ h, rfl, rfl⟩, ?_, rfl, rfl, rfl⟩, ?_, ?_, ?_, rfl⟩
  · exact ⟨rfl, rfl, rfl, rfl, rfl, rfl, rfl, rfl, rfl, rfl, rfl, rfl, rfl⟩
  · exact ⟨rfl, rfl, rfl, rfl, rfl, rfl, rfl, rfl, rfl, rfl, rfl, rfl, rfl, rfl, rfl, rfl, rfl⟩
  · have e : TableStore.get (State.cold { s.pins with resetN := false } s.draws s.pending).tables i = Table.cold := get_cold i
    rw [e]
    exact ⟨rfl, fun _ => rfl, rfl, rfl, rfl, rfl⟩
  · exact ⟨rfl, rfl, rfl, rfl, rfl, rfl⟩
  · exact ⟨rfl, rfl, rfl, rfl, rfl⟩
  · exact ⟨rfl, rfl, rfl, rfl, rfl⟩
  · exact ⟨rfl, rfl, rfl, rfl, rfl, rfl⟩
  · have e : vget (State.cold { s.pins with resetN := false } s.draws s.pending).presort.groups g = GroupRec.unused 1 :=
      vget_replicate _ h
    rw [e]
    exact ⟨rfl, rfl, rfl, rfl⟩
  · exact ⟨rfl, rfl, rfl, rfl, rfl, rfl, rfl, rfl, rfl, rfl, rfl, rfl, fun k => latch_cold _ _ _ k⟩
  · intro s high
    simp only [exec, execColdResetEnd, high, if_true]
  · intro s low estop
    simp only [exec, execColdResetEnd, coldResetEnd, startRollTimer, readEstop, putLoop, low, estop, Bool.false_eq_true, if_false,
      if_true]
  · intro p d q low estop
    have reached : exec .coldResetEnd (State.cold p d q) = .next (takeRaising .estop 0 0 (coldAsserted p d q)) := by
      rw [← coldResetEnd_estopLow estop]
      simp only [exec, execColdResetEnd, State.cold, low, Bool.false_eq_true, if_false]
    have idle : ∀ k, latch k (coldAsserted p d q) = Latch.idle := latch_cold { p with resetN := true } d q
    refine ⟨_, reached, ?_⟩
    simp only [takeRaising_frame, takeRaising_state, latch_takeRaising, idle, takeRaising_coldAsserted_loop, if_true]
    refine ⟨rfl, rfl, rfl, rfl, rfl, fun k other => if_neg other, rfl, rfl, rfl, rfl, rfl, rfl, rfl, rfl, rfl⟩
end Sys2Proof.Machine
end

section
/-! The index pulse and the encoder-mode commands (O13). -/

namespace Sys2Proof.Machine

/-! ### INDEX and ENCODER_STEP (O13) -/

/-- The changes of PHASE_A and PHASE_B that are a forward step: PHASE_A leads (R8). -/
def forwardChange (a b a' b' : Bool) : Prop := quadrature a' b' = (quadrature a b + 1) % 4

/-- The changes of PHASE_A and PHASE_B that are a reverse step (R8). -/
def reverseChange (a b a' b' : Bool) : Prop := quadrature a b = (quadrature a' b' + 1) % 4

theorem forwardChange_iff (a b a' b' : Bool) : forwardChange a b a' b' ↔
    (a, b, a', b') ∈ [(false, false, true, false), (true, false, true, true), (true, true, false, true), (false, true, false, false)] := by
  unfold forwardChange
  revert a b a' b'
  decide

theorem reverseChange_iff (a b a' b' : Bool) : reverseChange a b a' b' ↔
    (a, b, a', b') ∈ [(true, false, false, false), (true, true, true, false), (false, true, true, true), (false, false, false, true)] := by
  unfold reverseChange
  revert a b a' b'
  decide

/-- No change of levels is both a forward and a reverse step. -/
theorem not_forwardChange_of_reverseChange {a b a' b' : Bool} : reverseChange a b a' b' → ¬forwardChange a b a' b' := by
  unfold forwardChange reverseChange
  revert a b a' b'
  decide

/-- The phase after a change of levels, by the kind of the change (R8). -/
theorem stepPhase_forward {a b a' b' : Bool} (h : forwardChange a b a' b') (limit n : Nat) :
    stepPhase (quadrature a b) (quadrature a' b') limit n = if n < limit then n + 1 else limit := if_pos h

theorem stepPhase_reverse {a b a' b' : Bool} (h : reverseChange a b a' b') (limit n : Nat) :
    stepPhase (quadrature a b) (quadrature a' b') limit n = n - 1 :=
  (if_neg (not_forwardChange_of_reverseChange h)).trans (if_pos h)

theorem stepPhase_none {a b a' b' : Bool} (f : ¬forwardChange a b a' b') (r : ¬reverseChange a b a' b') (limit n : Nat) :
    stepPhase (quadrature a b) (quadrature a' b') limit n = n := (if_neg f).trans (if_neg r)

/-- Settles O13: ENCODER_STEP leaves the phase that `stepPhase` gives, which is one case for each kind of change of levels. -/
theorem indexAndEncoderCommands : Obligations.IndexAndEncoderCommands := by
  refine ⟨fun s high => ?_, fun a b s high => ?_⟩
  · simp only [exec, execIndex, run, putPitch, high, Bool.and_self, if_true]
  · refine ⟨stepPhase (quadrature s.pins.phaseA s.pins.phaseB) (quadrature a b) (phaseLimit s) (phaseNow s), ?_, ?_, ?_, ?_⟩
    · simp only [exec, execEncoderStep, encoderStep, putPitch, high, if_true]
    · intro forward
      exact stepPhase_forward ((forwardChange_iff ..).2 forward) _ _
    · intro reverse
      exact stepPhase_reverse ((reverseChange_iff ..).2 reverse) _ _
    · intro forward reverse
      exact stepPhase_none (mt (forwardChange_iff ..).1 forward) (mt (reverseChange_iff ..).1 reverse) _ _
end Sys2Proof.Machine
end

section
/-! The emergency stop (O16). -/

namespace Sys2Proof.Machine

/-! ### The emergency stop (O16) -/

/-- The divert position as the Track Unit has it rests on the tables and on its having its positions (R92). -/
theorem belowGate_of {s t : State} (tables : t.tables = s.tables) (positions : t.track.positions = s.track.positions) (p : Nat) :
    belowGate p t = belowGate p s := by
  simp only [belowGate, positionOf, trackNodes, nodesOf, tables, positions]

/-- The stage after the suspect marking (R89). -/
theorem suspectAll_stage (s : State) : (suspectAll s).stage =
    { s.stage with assembly := s.stage.assembly.map markSuspect, ready := s.stage.ready.map markSuspect } := rfl

/-- The track after the suspect marking (R104). -/
theorem suspectAll_track (s : State) : (suspectAll s).track = { s.track with
    recs := s.track.recs.mapIdx fun p r => if belowGate p s = true then { r with content := r.content.map markSuspect } else r } := rfl

/-- The suspect marking, of the track as of the stage, rests on the stage, the track and the tables (R89, R104). -/
theorem suspectAll_of {s t : State} (stage : t.stage = s.stage) (track : t.track = s.track) (tables : t.tables = s.tables) :
    (suspectAll t).stage = (suspectAll s).stage ∧ (suspectAll t).track = (suspectAll s).track := by
  have gate : ∀ p, belowGate p t = belowGate p s := belowGate_of tables (by rw [track])
  simp only [suspectAll_stage, suspectAll_track, stage, track, gate, and_self]

/-- Marking sets suspect leaves it as it was which positions hold one (R89, R104, R146). -/
theorem any_content_mapIdx_markSuspect (l : List PocketRec) (b : Nat → Bool) :
    (l.mapIdx fun p r => if b p = true then { r with content := r.content.map markSuspect } else r).any
      (fun r => r.content.isSome) = l.any fun r => r.content.isSome := by
  induction l generalizing b with
  | nil => rfl
  | cons r l ih =>
    rw [List.mapIdx_cons, List.any_cons, List.any_cons, ih fun p => b (p + 1)]
    split <;> simp

theorem held_suspectAll (s : State) : held (suspectAll s) = held s := by
  simp only [held, stageHeld, trackHeld, suspectAll_stage, suspectAll_track, Option.isSome_map, any_content_mapIdx_markSuspect]

theorem held_of {s t : State} (stage : t.stage = s.stage) (track : t.track = s.track) : held t = held s := by
  simp only [held, stageHeld, trackHeld, stage, track]

theorem stoppedState_suspectAll (s : State) : stoppedState (suspectAll s) = stoppedState s := by
  simp only [stoppedState, held_suspectAll]

theorem stoppedState_of {s t : State} (stage : t.stage = s.stage) (track : t.track = s.track) : stoppedState t = stoppedState s := by
  simp only [stoppedState, held_of stage track]

/-- A stopped state is none of the states of the drive, and neither RECOVERY nor LOCKOUT (09, "Line states"). -/
theorem stoppedLine_stoppedState (s : State) : stoppedLine (stoppedState s) = true := by
  unfold stoppedState
  split <;> rfl

theorem driveState_stoppedState (s : State) : driveState (stoppedState s) = false := by
  unfold stoppedState
  split <;> rfl

theorem stoppedState_ne_recovery (s : State) : stoppedState s ≠ .recovery := by
  unfold stoppedState
  split <;> simp

/-- The line's response to ESTOP, by the kind of its state (R161). -/
theorem respondEstop_eq (s : State) : respondEstop s =
    if driveState s.line.state = true then setLine (stoppedState s) 1 (suspectAll s)
    else if s.line.state = .recovery then setLine (stoppedState s) 1 s else s := by
  unfold respondEstop
  cases s.line.state <;> simp [driveState, latchCode, stoppedState_suspectAll]

/-- What the raising of ESTOP does once the input is taken as asserted and the outputs are off (R15, R161). -/
structure EstopTaken (s t : State) : Prop where
  asserted : t.pitch.estopAsserted = true
  timer : t.pitch.releaseTimer = s.pitch.releaseTimer
  off : t.pitch.driveEn = false ∧ t.pitch.driveCrawl = false
  up : up .estop t = true
  state : t.line.state = if driveState s.line.state = true ∨ s.line.state = .recovery then stoppedState s else s.line.state
  record : driveState s.line.state = true ∨ s.line.state = .recovery → t.line.lastCause = 1 ∧ t.line.prev = s.line.state ∧
    t.line.drainPending = false ∧ t.line.phase = .none
  stage : t.stage = if driveState s.line.state = true then (suspectAll s).stage else s.stage
  track : t.track = if driveState s.line.state = true then (suspectAll s).track else s.track

theorem up_of_raised {k : LatchKind} {t : State} {l : Latch} {a b : Nat} (h : latch k t = l.raised a b) : up k t = true := by
  simp [up, h, Latch.raised]

/-- A change to the stopped state by ESTOP, from a state that holds what s holds up to suspect marking (R145, R161). -/
theorem setLine_stopped (s : State) :
    (setLine (stoppedState s) 1 s).line.state = stoppedState s ∧ (setLine (stoppedState s) 1 s).line.lastCause = 1 ∧
    (setLine (stoppedState s) 1 s).line.prev = s.line.state ∧ (setLine (stoppedState s) 1 s).line.drainPending = false ∧
    (setLine (stoppedState s) 1 s).line.phase = .none ∧ (setLine (stoppedState s) 1 s).pitch.driveEn = false ∧
    (setLine (stoppedState s) 1 s).pitch.driveCrawl = false := by
  obtain ⟨prev, cause, drain, -, phase, -⟩ := setLine_record s (stoppedState s) 1
  obtain ⟨state, en, crawl⟩ := setLine_drive s (stoppedState s) 1
  refine ⟨state, cause, prev, ?_, (phase (stoppedState_ne_recovery s)).1, ?_, ?_⟩
  · rw [drain, stoppedLine_stoppedState]; rfl
  · rw [en, driveState_stoppedState]; rfl
  · rw [crawl, driveState_stoppedState]; rfl

theorem raise_estop_taken {s : State} (asserted : s.pitch.estopAsserted = true)
    (off : s.pitch.driveEn = false ∧ s.pitch.driveCrawl = false) : EstopTaken s (raise .estop 0 0 s) := by
  have raised : up .estop (raise .estop 0 0 s) = true :=
    up_of_raised (by rw [latch_raise _ _ _ (by decide) (by decide), if_pos rfl])
  let u := takeRaising .estop 0 0 s
  have stopped : stoppedState u = stoppedState s := stoppedState_of (by simp [u]) (by simp [u])
  have marked := suspectAll_of (s := s) (t := u) (by simp [u]) (by simp [u]) (by simp [u])
  have line : u.line.state = s.line.state := takeRaising_state ..
  have response : raise .estop 0 0 s = respondEstop u := by simp [raise, raiseFor, respond, u]
  rw [respondEstop_eq, line] at response
  by_cases driving : driveState s.line.state = true
  · rw [if_pos driving, ← stoppedState_suspectAll] at response
    obtain ⟨state, cause, prev, drain, phase, en, crawl⟩ := setLine_stopped (suspectAll u)
    refine ⟨by simpa using asserted, by simp, ⟨by rw [response, en], by rw [response, crawl]⟩, raised, ?_, fun _ => ?_, ?_, ?_⟩
    · rw [if_pos (.inl driving), response, state, stoppedState_suspectAll, stopped]
    · rw [response, cause, prev, drain, phase]
      exact ⟨rfl, by simpa using line, rfl, rfl⟩
    · rw [if_pos driving, response, ← marked.1]
      simp
    · rw [if_pos driving, response, ← marked.2]
      simp
  · rw [if_neg driving] at response
    by_cases recovery : s.line.state = .recovery
    · rw [if_pos recovery] at response
      obtain ⟨state, cause, prev, drain, phase, en, crawl⟩ := setLine_stopped u
      refine ⟨by simpa using asserted, by simp, ⟨by rw [response, en], by rw [response, crawl]⟩, raised, ?_, fun _ => ?_, ?_, ?_⟩
      · rw [if_pos (.inr recovery), response, state, stopped]
      · rw [response, cause, prev, drain, phase]
        exact ⟨rfl, line, rfl, rfl⟩
      · rw [if_neg driving, response]
        simp [u]
      · rw [if_neg driving, response]
        simp [u]
    · rw [if_neg recovery] at response
      refine ⟨by simpa using asserted, by simp, ?_, raised, ?_, fun h => absurd h (not_or.2 ⟨driving, recovery⟩), ?_, ?_⟩
      · rw [response]
        simpa [u] using off
      · rw [if_neg (not_or.2 ⟨driving, recovery⟩), response, line]
      · rw [if_neg driving, response]
        simp [u]
      · rw [if_neg driving, response]
        simp [u]

/-- Settles O16. The fall is `raise_estop_taken` after the outputs have gone off; the suspect marking is the definition's own,
record by record. -/
theorem emergencyStopActsAtOnce : Obligations.EmergencyStopActsAtOnce := by
  refine ⟨fun s high => ⟨fun low => ?_, fun up asserted => ?_, fun estop released => ?_, fun up => ?_, fun low asserted => ?_,
    fun stopped => ?_, fun k running => ?_⟩, fun s => ?_⟩
  · simp [exec, execEstopAssert, low]
  · simp [exec, execEstopAssert, estopFall, putEstopPin, putPitch, high, up, asserted]
  · let fallen := putPitch { s.pitch with estopAsserted := true, releaseTimer := none } s
    let u := updateDrive fallen
    have off : u.pitch.driveEn = false ∧ u.pitch.driveCrawl = false := by
      simp [u, wantEn, wantCrawl, fallen]
    have taken := raise_estop_taken (s := u) (by simp [u, fallen]) off
    have line : u.line.state = s.line.state := by simp [u, fallen]
    have stopped : stoppedState u = stoppedState s := stoppedState_of (by simp [u, fallen]) (by simp [u, fallen])
    obtain ⟨stage, track⟩ := suspectAll_of (s := s) (t := u) (by simp [u, fallen]) (by simp [u, fallen]) (by simp [u, fallen])
    refine ⟨putEstopPin false (raise .estop 0 0 u), ?_, ?_, taken.asserted, ?_, taken.off.1, taken.off.2, taken.up, ?_, ?_, ?_, ?_,
      ?_, ?_, ?_, ?_, ?_⟩
    · simp [exec, execEstopAssert, estopFall, high, estop, released, u, fallen]
    · simp [putEstopPin, u, fallen]
    · exact taken.timer.trans (by simp [u, fallen])
    · simpa only [putEstopPin, line, stopped] using taken.state
    · simpa only [putEstopPin, line] using taken.record
    · simpa only [putEstopPin, line, stage, show u.stage = s.stage by simp [u, fallen]] using taken.stage
    · simpa only [putEstopPin, line, track, show u.track = s.track by simp [u, fallen]] using taken.track
    all_goals simp [putEstopPin, u, fallen]
  · simp [exec, execEstopRise, up]
  · simp [exec, execEstopRise, estopRise, putEstopPin, putPitch, high, low, asserted]
  · simp [exec, execEstopReleaseTimerExpiry, run, estopRelease, stopped]
  · let released := putPitch { (elapse (2000 - k) s).pitch with estopAsserted := false, releaseTimer := none } (elapse (2000 - k) s)
    refine ⟨lower .estop (updateDrive released), ?_, ?_, ?_, ?_, up_lower _ _, ?_, ?_⟩
    · simp [exec, execEstopReleaseTimerExpiry, run, estopRelease, high, running, released, Config.releaseTime]
    · simp [released]
    · simp [released]
    · simp [wantEn, released, elapse]
    · simp [released, elapse]
    · simp [released, elapse]
  · refine ⟨(suspectAll s).track.recs, ?_, fun p r h => ?_, rfl⟩
    · simp [suspectAll, suspectTrack, suspectStage]
    · simp only [suspectAll, suspectTrack, List.getElem?_mapIdx, suspectStage, h]
      rfl
end Sys2Proof.Machine
end

section
/-! Conditions that take the line to RECOVERY: the meter, the index search and the deadline (O17, O21). -/

namespace Sys2Proof.Machine

/-! ### Entry to RECOVERY by a condition (R155, R157) -/

/-- The kinds whose raising takes a drive state to RECOVERY, but for NODE LOST and STATION TIMING (R155). -/
def recoveryKind : LatchKind → Bool
  | .jam | .driveRate | .chainSlip | .ringBreak | .collationOverrun => true
  | .estop | .nodeLost | .stationTiming | .feederFault | .essentialLost | .retriesExhausted | .groupExhausted | .unexpectedMotion
  | .tableBad => false

/-- A recovery kind raised: the latch takes it, and a drive state enters RECOVERY (R155). -/
theorem raise_recoveryKind {k : LatchKind} (h : recoveryKind k = true) (a b : Nat) (s : State) :
    raise k a b s = if driveState s.line.state = true then enterRecovery (latchCode k) (takeRaising k a b s) else takeRaising k a b s := by
  have response : raise k a b s = respondRecovery (latchCode k) (takeRaising k a b s) := by
    cases k <;> first | (exact absurd h (by decide)) | rfl
  rw [response, respondRecovery, takeRaising_state]

/-- Entry to RECOVERY: its record, and the outputs going off (R11, R13, R157). -/
theorem enterRecovery_line (c : Nat) (s : State) :
    (enterRecovery c s).line.state = .recovery ∧ (enterRecovery c s).line.lastCause = c ∧ (enterRecovery c s).line.phase = .hold ∧
    (enterRecovery c s).pitch.driveEn = false := by
  obtain ⟨-, cause, -⟩ := setLine_record s .recovery c
  exact ⟨(setLine_drive s .recovery c).1, cause, rfl, (setLine_drive s .recovery c).2.1⟩

/-- The search count is the Pitch Unit's own in every change of line state but the entry to PRIMING (R7). -/
theorem raise_searchCount {k : LatchKind} (h : recoveryKind k = true) (a b : Nat) (s : State) :
    (raise k a b s).pitch.searchCount = s.pitch.searchCount := by
  rw [raise_recoveryKind h]
  split
  · obtain ⟨-, -, -, -, -, -, -, count⟩ := setLine_record (takeRaising k a b s) .recovery (latchCode k)
    exact count.trans (by simp)
  · simp

/-- Entry to RECOVERY with the drive on empties the meter and lowers DRIVE RATE when it is up (R11, R12). -/
theorem enterRecovery_driveRate (c : Nat) {s : State} (on : s.pitch.driveEn = true) (rate : s.pitch.driveRateUp = true) :
    (enterRecovery c s).pitch.meter = [] ∧ (enterRecovery c s).pitch.driveRateUp = false ∧
    up .driveRate (enterRecovery c s) = false := by
  obtain ⟨-, -, -, -, -, meter, up, -⟩ := setLine_record s .recovery c
  have pitch : (enterRecovery c s).pitch = (setLine .recovery c s).pitch := rfl
  refine ⟨?_, ?_, up_driveRate_setLine s .recovery c on rate rfl⟩
  · rw [pitch, meter, on]; rfl
  · rw [pitch, up, on, rate]; rfl

/-! ### When the Pitch Unit's reports and the held flags change no line state (R146, R150) -/

/-- The Line Controller's record of the Pitch Unit's reports of counter and meter (R5, R10). -/
def reported (s : State) : State :=
  putLine { s.line with counterValid := s.pitch.counterValid, meterValid := s.pitch.meter.length == 8 } s

/-- Outside PRIMING the Line Controller only keeps the reports of counter and meter (R150). -/
theorem takeReports_of_not_priming {s : State} (h : s.line.state ≠ .priming) :
    takeReports s = reported s :=
  if_neg fun priming => h priming.1

theorem tryRelease_of_none {s : State} (h : releasePocket s = none) : tryRelease s = s := by simp only [tryRelease, h]

/-- With no pocket to release into, and a line that the held flags do not stop, the end of an event changes nothing (R87, R146). -/
theorem settle_eq_self {s : State} (release : releasePocket s = none)
    (stays : ¬((s.line.state = .paused ∨ s.line.state = .draining) ∧ held s = false)) : settle s = s := by
  simp only [settle, tryRelease_of_none release, judgeHeld, if_neg stays]

/-- A release needs RUNNING or DRAINING with the drive on (R87). -/
theorem releasePocket_of_off {s : State} (h : s.line.state ≠ .running ∧ s.line.state ≠ .draining ∨ s.pitch.driveEn = false) :
    releasePocket s = none := by
  unfold releasePocket
  split
  · refine if_neg fun now => ?_
    obtain ⟨-, -, state, on⟩ := now
    rcases h with ⟨running, draining⟩ | off
    · exact state.elim running draining
    · simp [off] at on
  · rfl

/-- RECOVERY has no release and no held flag to judge (R87, R146). -/
theorem settle_of_recovery {s : State} (h : s.line.state = .recovery) : settle s = s :=
  settle_eq_self (releasePocket_of_off (.inl (by simp [h]))) (by simp [h])

/-! ### The meter (O17) -/

/-- The run-speed check of R12 finds the meter's average outside the limits. -/
def rateOut (s : State) : Prop := s.pitch.meter.length = 8 ∧
  ∃ p, profileOf s = some p ∧ (s.pitch.meter.sum / 8 < p.periodLo ∨ p.periodHi < s.pitch.meter.sum / 8)

theorem rateOut_iff (s : State) : rateOut s ↔ meterValid s = true ∧ overSpeed s = true := by
  unfold rateOut meterValid overSpeed meterAverage
  simp only [Config.meterEntries, beq_iff_eq]
  refine and_congr_right fun full => ?_
  cases profileOf s <;> simp [full]

/-- The run-speed check raises DRIVE RATE in RUNNING with the drive on, once, and does nothing else (R12). -/
theorem speedCheck_eq (s : State) [Decidable (rateOut s)] : speedCheck s =
    if s.line.state = .running ∧ s.pitch.driveEn = true ∧ rateOut s ∧ s.pitch.driveRateUp = false then
      raise .driveRate 0 0 (putPitch { s.pitch with driveRateUp := true } s)
    else s := by
  unfold speedCheck
  refine if_congr ?_ rfl rfl
  rw [rateOut_iff, and_assoc]

/-- DRIVE RATE raised in RUNNING with the drive on stops the drive by RECOVERY, which lowers it again (R12, R155). -/
theorem speedCheck_stops {s : State} (running : s.line.state = .running) (on : s.pitch.driveEn = true) (out : rateOut s)
    (down : s.pitch.driveRateUp = false) :
    speedCheck s = enterRecovery 3 (takeRaising .driveRate 0 0 (putPitch { s.pitch with driveRateUp := true } s)) := by
  classical
  rw [speedCheck_eq, if_pos ⟨running, on, out, down⟩, raise_recoveryKind rfl, if_pos (by simp [running, driveState])]
  rfl

theorem speedCheck_eq_self {s : State} (h : ¬rateOut s) : speedCheck s = s := by
  classical
  rw [speedCheck_eq, if_neg fun now => h now.2.2.1]

/-- The state a stall entry has joined the meter in, the time to the limit passed (R10, log 5). -/
def stalled (k : Nat) (s : State) : State :=
  putPitch { (elapse (65535 - k) s).pitch with meter := joinMeter 65535 s.pitch.meter, openPeriod := some 0 } (elapse (65535 - k) s)

theorem exec_meterStallEntry {s : State} {k : Nat} (high : s.pins.resetN = true) (period : s.pitch.openPeriod = some k) :
    exec .meterStallEntry s = .next (settle (takeReports (speedCheck (stalled k s)))) := by
  simp only [exec, execMeterStallEntry, run, meterStall, high, period, Bool.and_self, if_true]
  rfl

/-- Settles O17: the meter at a mark, and a stall entry with its run-speed check, whose raising ends in RECOVERY. -/
theorem meterTakesItsEntries : Obligations.MeterTakesItsEntries := by
  refine ⟨fun p => ⟨fun k period => ⟨_, ?_, rfl⟩, fun closed on => ?_, fun closed off => ?_⟩,
    fun s high => ⟨fun closed => ?_, fun k period running release => ⟨fun inside => ?_, fun out on down => ?_⟩⟩⟩
  · simp only [markMeter, period]; rfl
  · simp [markMeter, closed, on]
  · simp [markMeter, closed, off]
  · simp [exec, execMeterStallEntry, run, meterStall, closed]
  · have check : speedCheck (stalled k s) = stalled k s := speedCheck_eq_self inside
    have reports := takeReports_of_not_priming (s := stalled k s) (by simp [stalled, elapse, running])
    rw [exec_meterStallEntry high period, check, reports,
      settle_eq_self (s := reported (stalled k s)) release
        (by simp [reported, stalled, elapse, running])]
    rfl
  · let w := takeRaising .driveRate 0 0 (putPitch { (stalled k s).pitch with driveRateUp := true } (stalled k s))
    have check : speedCheck (stalled k s) = enterRecovery 3 w := speedCheck_stops running on out down
    obtain ⟨state, cause, -, off⟩ := enterRecovery_line 3 w
    obtain ⟨meter, rate, lowered⟩ := enterRecovery_driveRate 3 (s := w) (by simp [w, stalled, elapse, on]) (by simp [w])
    have reports := takeReports_of_not_priming (s := enterRecovery 3 w) (by simp [state])
    refine ⟨_, exec_meterStallEntry high period, ?_⟩
    rw [check, reports, settle_of_recovery (s := reported (enterRecovery 3 w)) state]
    exact ⟨state, cause, off, meter, rate, lowered, by simp [reported, w, stalled, elapse], by simp [reported, w, stalled, elapse],
      by simp [reported, w, stalled, elapse]⟩

/-! ### The ends of the index search and of the set deadline (O21) -/

/-- A condition raised and lowered in one event leaves its latch LATCHED with the next occurrence (R153). -/
theorem latch_pulse {k : LatchKind} (rate : k ≠ .driveRate) (timing : k ≠ .stationTiming) (s : State) :
    latch k (pulse k s) = { (latch k s).raised 0 0 with state := .latched } := by
  have raised : latch k (raise k 0 0 s) = (latch k s).raised 0 0 := by rw [latch_raise _ _ _ rate timing, if_pos rfl]
  rw [pulse, latch_lower, if_pos ⟨rfl, up_of_raised raised⟩, raised]

/-- A chain slip found in a drive state: CHAIN SLIP raised and lowered at once, and RECOVERY (R5, R7, R155). -/
theorem pulse_chainSlip_line {s : State} (driving : driveState s.line.state = true) :
    (pulse .chainSlip s).line.state = .recovery ∧ (pulse .chainSlip s).line.phase = .hold ∧
    (pulse .chainSlip s).pitch.driveEn = false := by
  have raised : raise .chainSlip 0 0 s = enterRecovery 4 (takeRaising .chainSlip 0 0 s) := by
    rw [raise_recoveryKind rfl, if_pos driving]; rfl
  obtain ⟨state, -, phase, off⟩ := enterRecovery_line 4 (takeRaising .chainSlip 0 0 s)
  obtain ⟨-, -, -, -, -, -, lowered, -⟩ := lower_line (raise .chainSlip 0 0 s) .chainSlip
  simp only [pulse, lowered, lower_state, lower_frame]
  rw [raised]
  exact ⟨state, phase, off⟩

/-- Outside the drive states a chain slip changes no line state (R155). -/
theorem pulse_chainSlip_state {s : State} (idle : driveState s.line.state = false) :
    (pulse .chainSlip s).line.state = s.line.state := by
  simp only [pulse, lower_state]
  rw [raise_recoveryKind rfl, if_neg (by simp [idle]), takeRaising_state]

/-- The index search count stands at POCKETS+2 in PRIMING (R7). -/
theorem searchSpent_iff (s : State) : searchSpent s = true ↔
    s.line.state = .priming ∧ ∃ p, profileOf s = some p ∧ p.pockets + 2 ≤ s.pitch.searchCount := by
  simp [searchSpent, Option.any_eq_true]

/-- The set deadline is met by an unfinished set whose pitches have reached the working deadline (R80). -/
theorem deadlineMet_iff (x : SetRec) (s : State) :
    deadlineMet x s = true ↔ x.finish = none ∧ ∃ w, s.tables.work = some w ∧ w.deadline ≤ x.pitches := by
  unfold deadlineMet
  cases s.tables.work <;> simp

/-- A stage that the deadline's judging changes in its two slots only, and where no set can be released, settles at once (R87). -/
theorem settle_of_held {s : State} (release : releasePocket s = none) (h : held s = true) : settle s = s :=
  settle_eq_self release (by simp [h])

theorem exec_setDeadlineExpiry {s : State} (high : s.pins.resetN = true) (on : s.pitch.driveEn = true) :
    exec .setDeadlineExpiry s = .next (settle (judgeDeadline s)) := by
  simp [exec, execSetDeadlineExpiry, run, deadlineExpiry, high, on]

theorem judgeDeadline_of_met {s : State} {x : SetRec} (slot : s.stage.assembly = some x) (met : deadlineMet x s = true) :
    judgeDeadline s = putStage (moveUp { s.stage with assembly := some (deadlineFinish x) }) s := by
  simp only [judgeDeadline, slot, met, if_true]

theorem judgeDeadline_eq_self {s : State} (h : ∀ x, s.stage.assembly = some x → deadlineMet x s = false) : judgeDeadline s = s := by
  unfold judgeDeadline
  split
  · rename_i x slot
    simp [h x slot]
  · rfl

/-- A finished set stays in the assembly slot while the release slot is occupied, and moves up as READY when it is empty (R82). -/
theorem moveUp_of_occupied {t : Stage} (h : t.ready.isSome = true) : moveUp t = t := by
  unfold moveUp
  split
  · rename_i empty; simp [empty] at h
  · rfl

theorem moveUp_of_empty {t : Stage} {x : SetRec} (slot : t.assembly = some x) (empty : t.ready = none)
    (finished : x.finish.isSome = true) : moveUp t = { t with assembly := none, ready := some { x with state := .ready } } := by
  simp only [moveUp, slot, empty, finished, if_true]

/-- Settles O21: the search's end is a chain slip from PRIMING; the deadline's end finishes the set where it stands. -/
theorem searchAndDeadlineEnd : Obligations.SearchAndDeadlineEnd := by
  refine ⟨fun s high => ⟨fun running => ?_, fun p priming profile spent => ?_⟩,
    fun s high release hold => ⟨fun x w on slot finish work due => ⟨fun occupied => ?_, fun empty vacancy => ?_⟩, fun idle => ?_⟩⟩
  · have unspent : searchSpent s = false := by simpa using mt (searchSpent_iff s).1 running
    simp [exec, execIndexSearchExpiry, run, searchExpiry, unspent]
  · have spent' : searchSpent s = true := (searchSpent_iff s).2 ⟨priming, p, profile, spent⟩
    let u := putPitch (slipped s.pitch).unit s
    obtain ⟨state, phase, off⟩ := pulse_chainSlip_line (s := u) (by simp [u, priming, driveState])
    have reports := takeReports_of_not_priming (s := pulse .chainSlip u) (by simp [state])
    refine ⟨reported (pulse .chainSlip u), ?_, ?_, ?_, ?_, ?_, state, phase, off, latch_pulse (by decide) (by decide) u, ?_⟩
    · simp only [exec, execIndexSearchExpiry, run, high, Bool.and_self, if_true, searchExpiry, spent', ← reports, u]
    · simp [reported, u, slipped]
    · simp [reported, u, slipped]
    · simp [reported, pulse, raise_searchCount (k := .chainSlip) rfl, u, slipped]
    · simp [reported, u, slipped]
    · simp [reported, u]
  · have met := (deadlineMet_iff x s).2 ⟨finish, w, work, due⟩
    have finished : judgeDeadline s = putStage { s.stage with assembly := some (deadlineFinish x) } s := by
      rw [judgeDeadline_of_met slot met, moveUp_of_occupied (t := { s.stage with assembly := some (deadlineFinish x) }) occupied]
    rw [exec_setDeadlineExpiry high on, finished, settle_of_held]
    · rfl
    · exact release
    · simp [held, stageHeld]
  · have met := (deadlineMet_iff x s).2 ⟨finish, w, work, due⟩
    have finished : judgeDeadline s =
        putStage { s.stage with assembly := none, ready := some { deadlineFinish x with state := .ready } } s := by
      rw [judgeDeadline_of_met slot met,
        moveUp_of_empty (t := { s.stage with assembly := some (deadlineFinish x) }) rfl empty rfl]
    rw [exec_setDeadlineExpiry high on, finished, settle_of_held]
    · rfl
    · simp [releasePocket, vacancy]
    · simp [held, stageHeld]
  · by_cases on : s.pitch.driveEn = true
    · have unmet : ∀ x, s.stage.assembly = some x → deadlineMet x s = false := by
        intro x slot
        rw [Bool.eq_false_iff, ne_eq, deadlineMet_iff]
        rintro ⟨unfinished, w, work, due⟩
        rcases idle with off | none | none | ⟨y, same, finished | early⟩
        · simp [on] at off
        · simp [slot] at none
        · simp [work] at none
        · simp_all
        · have := early w work
          simp_all
          omega
      rw [exec_setDeadlineExpiry high on, judgeDeadline_eq_self unmet, settle_of_held release hold]
    · simp [exec, execSetDeadlineExpiry, run, deadlineExpiry, on]

end Sys2Proof.Machine
end

section
/-! A read answers from the state as it stands (O41). -/

namespace Sys2Proof.Machine

/-! ### READ's answer (O41, R27, R28) -/

/-- READ looks at nothing that the taking of its own request changes (R26, R28). -/
theorem readEntry_handed (item i : Nat) (c : Cell) (s : State) : readEntry item i (handed c s) = readEntry item i s := rfl

theorem entryIndexes_handed (item : Nat) (c : Cell) (s : State) : entryIndexes item (handed c s) = entryIndexes item s := rfl

theorem readEntries_handed (item i : Nat) (c : Cell) (s : State) : readEntries item i (handed c s) = readEntries item i s := rfl

/-- A READ that names entries is answered with them; one that names none is refused with ARG (R27, R28). -/
theorem exec_read_some {c : Cell} {s : State} (h : Takes 0x32 c s) {l : List (List Byte)}
    (named : readEntries (payByte c 4) (payNum c 5 2) s = some l) : exec .read s = .next (answer c (readItems l) (handed c s)) := by
  rw [exec, execRead, request_of_takes h, readHandler, readEntries_handed, named]

theorem exec_read_none {c : Cell} {s : State} (h : Takes 0x32 c s)
    (named : readEntries (payByte c 4) (payNum c 5 2) s = none) : exec .read s = .next (replied c .arg [] (handed c s)) := by
  rw [exec, execRead, request_of_takes h, readHandler, readEntries_handed, named]
  rfl

theorem readEntries_one {item i : Nat} (one : i ≠ 65535) (s : State) :
    readEntries item i s = (readEntry item i s).map fun d => [d] := if_neg one

theorem readEntries_all (item : Nat) (s : State) :
    readEntries item 65535 s = (entryIndexes item s).map fun l => l.filterMap fun k => readEntry item k s := if_pos rfl

/-- An item that does not exist has no entry and no list of entries (R28). -/
theorem readEntries_unknown {item : Nat} (h : item = 0 ∨ 16 ≤ item) (i : Nat) (s : State) : readEntries item i s = none := by
  have entry : readEntry item i s = none := by
    unfold readEntry
    split <;> first | omega | rfl
  have indexes : entryIndexes item s = none := by
    unfold entryIndexes
    split <;> first | omega | rfl
  by_cases all : i = 65535
  · rw [all, readEntries_all, indexes]; rfl
  · rw [readEntries_one all, entry]; rfl

/-- An entry of at most 13 bytes is one piece (R28). -/
theorem pieces_short {d : List Byte} (h : d.length ≤ 13) : pieces d = [d] := if_pos h

theorem pieces_long {d : List Byte} (h : 13 < d.length) : pieces d = [d.take 13, d.drop 13] := if_neg (by omega)

theorem readItems_of_ne_nil {l : List (List Byte)} (h : l ≠ []) : readItems l = (l.flatMap pieces).map fun d => (.accepted, d) := by
  unfold readItems
  split
  · exact absurd rfl h
  · rfl

/-- Entries of at most 13 bytes are answered with one REPLY for each (R28). -/
theorem readItems_all_short {l : List (List Byte)} (nonempty : l ≠ []) (short : ∀ d ∈ l, d.length ≤ 13) :
    readItems l = l.map fun d => (.accepted, d) := by
  have whole : l.flatMap pieces = l := by
    clear nonempty
    induction l with
    | nil => rfl
    | cons d l ih =>
      rw [List.flatMap_cons, pieces_short (short d List.mem_cons_self), ih fun e h => short e (List.mem_cons_of_mem d h)]
      rfl
  rw [readItems_of_ne_nil nonempty, whole]

theorem length_beBytes (w n : Nat) : (beBytes w n).length = w := by simp [beBytes]

/-! Counters, one by its number or all of them (R34, R169). -/

theorem length_readCounter {n : Nat} (v : Vector Nat n) (i : Nat) : (readCounter v i).length = 5 := by
  simp [readCounter, length_beBytes]

/-- READ of counters, in an item whose entries are a vector's counters 1 to n (R34, R169). -/
theorem exec_read_counters {c : Cell} {s : State} (h : Takes 0x32 c s) {n : Nat} (v : Vector Nat n) (nonempty : n ≠ 0) (few : n < 65535)
    (entry : ∀ i, readEntry (payByte c 4) i s = inRange 1 n i (readCounter v i))
    (indexes : entryIndexes (payByte c 4) s = some ((List.range n).map (· + 1))) :
    (1 ≤ payNum c 5 2 → payNum c 5 2 ≤ n → exec .read s = .next (replied c .accepted
      (beBytes 1 (payNum c 5 2) ++ beBytes 4 (vget v (payNum c 5 2 - 1))) (handed c s))) ∧
    (payNum c 5 2 = 65535 → exec .read s = .next (answer c ((List.range n).map fun k =>
      (.accepted, beBytes 1 (k + 1) ++ beBytes 4 (vget v k))) (handed c s))) ∧
    (¬(1 ≤ payNum c 5 2 ∧ payNum c 5 2 ≤ n) → payNum c 5 2 ≠ 65535 → exec .read s = .next (replied c .arg [] (handed c s))) := by
  have short : ∀ i, (readCounter v i).length ≤ 13 := fun i => by rw [length_readCounter]; decide
  refine ⟨fun low high => ?_, fun all => ?_, fun out one => ?_⟩
  · have named : readEntries (payByte c 4) (payNum c 5 2) s = some [readCounter v (payNum c 5 2)] := by
      rw [readEntries_one (by omega), entry, inRange, if_pos ⟨low, high⟩]; rfl
    rw [exec_read_some h named, readItems_all_short (by simp) (by simpa using short _)]
    rfl
  · have entries : ((List.range n).map (· + 1)).filterMap (fun k => readEntry (payByte c 4) k s) =
        (List.range n).map fun k => readCounter v (k + 1) := by
      rw [List.filterMap_map, ← List.filterMap_eq_map]
      refine List.filterMap_congr fun k hk => ?_
      simp only [Function.comp, entry, inRange]
      rw [if_pos ⟨by omega, List.mem_range.1 hk⟩]
    have named : readEntries (payByte c 4) (payNum c 5 2) s = some ((List.range n).map fun k => readCounter v (k + 1)) := by
      rw [all, readEntries_all, indexes, Option.map_some, entries]
    rw [exec_read_some h named, readItems_all_short (by simpa using nonempty) (by simpa using fun k _ => short (k + 1)), List.map_map]
    rfl
  · have named : readEntries (payByte c 4) (payNum c 5 2) s = none := by
      rw [readEntries_one one, entry, inRange, if_neg out]; rfl
    exact exec_read_none h named

/-! Fields as (width, value) pairs (R28). -/

theorem flagByte_eq (b : Bool) : flagByte b = beBytes 1 (if b then 1 else 0) := by cases b <;> rfl

theorem beBytes_one (n : Nat) : beBytes 1 n = [BitVec.ofNat 8 n] := by simp [beBytes]

theorem singleton_byte (b : Byte) : [b] = beBytes 1 b.toNat := by simp [beBytes_one]

/-- A bit map is the sum of its flags' places, from a place `w` upwards (R28). -/
theorem sum_flags (l : List (Bool × Nat)) (w : Nat) (places : l.map (·.2) = (List.range l.length).map fun k => w * 2 ^ k) :
    (l.map fun b => if b.1 = true then b.2 else 0).sum = w * bitMap (l.map (·.1)) := by
  induction l generalizing w with
  | nil => rfl
  | cons b l ih =>
    rw [List.length_cons, List.range_succ_eq_map, List.map_cons, List.map_cons, List.map_map, List.cons.injEq] at places
    obtain ⟨place, rest⟩ := places
    have tail := ih (2 * w) (rest.trans (List.map_congr_left fun k _ => by simp [Function.comp, Nat.pow_succ]; ring))
    rw [List.map_cons, List.sum_cons, tail, List.map_cons, place]
    simp only [bitMap, List.foldr_cons]
    split <;> ring

theorem bitMap_eq_sum (l : List (Bool × Nat)) (places : l.map (·.2) = (List.range l.length).map fun k => 2 ^ k) :
    bitMap (l.map (·.1)) = (l.map fun b => if b.1 = true then b.2 else 0).sum := by
  rw [sum_flags l 1 (by simpa using places), Nat.one_mul]

theorem present_eq {n : Nat} (v : Vector (Option Nat) n) : present v = (List.range n).map fun k => (vget v k).isSome := by
  apply List.ext_getElem
  · simp [present]
  · intro k h _
    have : k < n := by simpa [present] using h
    simp [present, vget, this]

theorem bitMap_present {n : Nat} (v : Vector (Option Nat) n) :
    bitMap (present v) = (((List.range n).map fun k => ((vget v k).isSome, 2 ^ k)).map fun b => if b.1 = true then b.2 else 0).sum := by
  rw [← bitMap_eq_sum _ (by simp), present_eq, List.map_map]
  rfl

/-- The data of an item as its fields, in the order of its table (R28). -/
def fieldBytes (l : List (Nat × Nat)) : List Byte := l.flatMap fun f => beBytes f.1 f.2

theorem fieldBytes_cons (f : Nat × Nat) (l : List (Nat × Nat)) : fieldBytes (f :: l) = beBytes f.1 f.2 ++ fieldBytes l :=
  List.flatMap_cons ..

theorem fieldBytes_nil : fieldBytes [] = [] := rfl

theorem fieldBytes_append (l m : List (Nat × Nat)) : fieldBytes (l ++ m) = fieldBytes l ++ fieldBytes m := List.flatMap_append ..

/-- A rotation list of at most five bins, one byte for each and 0 beyond its end (R129, R144). -/
theorem padTo_rotation (l : List Nat) (h : l.length ≤ 5) :
    padTo 5 (l.map (BitVec.ofNat 8)) = fieldBytes ((List.range 5).map fun b => (1, l.getD b 0)) := by
  match l, h with
  | [], _ | [_], _ | [_, _], _ | [_, _, _], _ | [_, _, _, _], _ | [_, _, _, _, _], _ =>
    simp [padTo, fieldBytes, beBytes_one, List.range_succ]

theorem isNone_find?_not {α : Type} (p : α → Bool) (l : List α) : (l.find? fun x => !p x).isNone = l.all p := by
  induction l with
  | nil => rfl
  | cons x l ih => rw [List.find?_cons, List.all_cons]; cases p x <;> simp [ih]

theorem bitMap_fields (g : Staged) : bitMap g.fields =
    ([(g.tolerance.isSome, 1), (g.sheetCaliper.isSome, 2), (g.envCaliper.isSome, 4), (g.missLimit.isSome, 16), (g.fold.isSome, 64),
      (g.envClass.isSome, 128), (g.deadline.isSome, 256)].map fun b => if b.1 = true then b.2 else 0).sum := by
  refine (bitMap_eq_sum [(g.tolerance.isSome, 1), (g.sheetCaliper.isSome, 2), (g.envCaliper.isSome, 4), (false, 8),
    (g.missLimit.isSome, 16), (false, 32), (g.fold.isSome, 64), (g.envClass.isSome, 128), (g.deadline.isSome, 256)]
    (by simp [List.range_succ])).trans ?_
  simp

/-- A number of a table is that of the table it names (R36). -/
theorem tableNumber_of {i : Nat} {t : TableId} (h : tableOfNumber i = some t) : tableNumber t = i := by
  simpa using List.find?_some h

/-- READ of all entries, where the entries' indexes are those the item has (R28). -/
theorem exec_read_all {c : Cell} {s : State} (h : Takes 0x32 c s) (all : payNum c 5 2 = 65535) {ks : List Nat}
    (indexes : entryIndexes (payByte c 4) s = some ks) :
    exec .read s = .next (answer c (readItems (ks.filterMap fun k => readEntry (payByte c 4) k s)) (handed c s)) :=
  exec_read_some h (by rw [all, readEntries_all, indexes]; rfl)

/-- READ of one entry (R28). -/
theorem exec_read_one {c : Cell} {s : State} (h : Takes 0x32 c s) (one : payNum c 5 2 ≠ 65535) {data : List Byte}
    (entry : readEntry (payByte c 4) (payNum c 5 2) s = some data) :
    exec .read s = .next (answer c (readItems [data]) (handed c s)) :=
  exec_read_some h (by rw [readEntries_one one, entry]; rfl)

theorem latchOfCode_ne_all {i : Nat} {k : LatchKind} (h : latchOfCode i = some k) : i ≠ 65535 := by
  rintro rfl
  exact absurd h (by decide +revert)

/-- Settles O41: READ's answer by the entries it names, then the fields of each item. -/
theorem readAnswersWithTheStateAsItStands : Obligations.ReadAnswersWithTheStateAsItStands := by
  refine ⟨fun c s takes => ⟨fun none => exec_read_none takes none, fun unknown => exec_read_none takes (readEntries_unknown unknown _ s),
    fun data one entry short => ?_, fun data one entry long => ?_, fun item => ?_, fun item => ?_, fun item k code => ?_,
    fun all => ⟨fun none => ?_, fun ks indexes => ⟨fun k hk node => ?_, fun empty => ?_, fun nonempty => ?_⟩⟩⟩, fun s => ?_⟩
  · rw [exec_read_one takes one entry, readItems_all_short (by simp) (by simpa using short)]
    rfl
  · rw [exec_read_one takes one entry, readItems_of_ne_nil (by simp), List.flatMap_singleton, pieces_long long]
    rfl
  · exact exec_read_counters takes s.outcomes.counters (by decide) (by decide) (fun i => by rw [item]; rfl) (by rw [item]; rfl)
  · exact exec_read_counters takes s.loop.counters (by decide) (by decide) (fun i => by rw [item]; rfl) (by rw [item]; rfl)
  · have entry : readEntry (payByte c 4) (payNum c 5 2) s = some (readLatch k s) := by
      rw [item, readEntry, code]; rfl
    rw [exec_read_one takes (latchOfCode_ne_all code) entry,
      readItems_all_short (by simp) (by simp [readLatch, length_beBytes])]
    simp [readLatch, beBytes_one, replied, one]
  · exact exec_read_none takes (by rw [all, readEntries_all]; exact congrArg _ none)
  · exact readEntry_of_entryIndexes _ k s ks indexes hk node
  · rw [exec_read_all takes all indexes, empty]
    rfl
  · rw [exec_read_all takes all indexes, readItems_of_ne_nil nonempty]
    rfl
  · intro sent yes bits p w o g feeders
    have joined : ∀ l, sent l = some (fieldBytes l) := fun _ => rfl
    refine ⟨?_, ?_, fun i n r node record role hrole => ?_, fun i t number => ?_, ?_, fun k low high => ?_, fun k high short => ?_, ?_,
      fun k low high => ?_, ?_, fun i e entry => ?_, ?_, ?_⟩
    · have flags := bitMap_eq_sum [(p.counterValid, 1), (p.indexPending, 2), (decide (p.meter.length = 8), 4), (p.estopAsserted, 8),
        (p.driveEn, 16), (p.driveCrawl, 32)] rfl
      simp only [joined, fieldBytes_cons, fieldBytes_nil, List.append_nil, bits, ← flags]
      simp only [readEntry, inRange, readPitch, List.append_assoc]
      rfl
    · have flags := bitMap_eq_sum [(s.loop.returned, 1), (s.loop.ringBreakUp, 2)] rfl
      simp only [joined, fieldBytes_cons, fieldBytes_nil, List.append_nil, bits, ← flags]
      simp only [readEntry, inRange, readRoll, List.append_assoc]
      rfl
    · simp only [joined, fieldBytes_cons, fieldBytes_nil, List.append_nil, readEntry, readNode, node, record, hrole, flagByte_eq,
        singleton_byte, List.append_assoc]
      cases r.status <;> rfl
    · intro x
      simp only [joined, fieldBytes_cons, fieldBytes_nil, List.append_nil, readEntry, number, Option.map_some, readTable,
        tableNumber_of number, List.append_assoc, x]
    · simp only [joined, fieldBytes_cons, fieldBytes_nil, List.append_nil, readEntry, inRange, readLine, flagByte_eq, List.append_assoc]
      rw [← isNone_find?_not]
      rfl
    · intro n j
      simp only [joined, fieldBytes_cons, fieldBytes_nil, List.append_nil, readEntry, inRange, low, high, and_self, if_true,
        readFeeder, flagByte_eq, List.append_assoc]
      rfl
    · simp only [joined, fieldBytes_append, ← padTo_rotation _ short, fieldBytes_cons, fieldBytes_nil, List.append_nil, readEntry,
        inRange, high, Nat.zero_le, and_self, if_true, readGroup, List.append_assoc]
      rfl
    · simp only [joined, fieldBytes_cons, fieldBytes_nil, List.append_nil, readEntry, inRange, readBin, flagByte_eq, List.append_assoc]
      rfl
    · intro r
      simp only [joined, fieldBytes_cons, fieldBytes_nil, List.append_nil, readEntry, inRange, high, Nat.zero_le, and_self, if_true,
        readBin, if_neg (Nat.one_le_iff_ne_zero.1 low), List.append_assoc]
      rfl
    · simp only [joined, fieldBytes_cons, fieldBytes_nil, List.append_nil, readEntry, inRange, readAccounts, List.append_assoc]
      rfl
    · simp only [joined, fieldBytes_cons, fieldBytes_nil, List.append_nil, readEntry, entry, Option.map_some, readPull,
        List.append_assoc]
    · simp only [joined, fieldBytes_cons, fieldBytes_nil, List.append_nil, readEntry, inRange, readOutcomes, List.append_assoc]
      rfl
    · simp only [joined, fieldBytes_cons, fieldBytes_nil, List.append_nil, readEntry, inRange, readStaged, flagByte_eq,
        bitMap_fields, bitMap_present, List.append_assoc]
      rfl

end Sys2Proof.Machine
end

section
/-! A pitch notice moves the track (O15). -/

namespace Sys2Proof.Machine

/-! ### What an operation at one position leaves at the others (R101) -/

theorem modPocket_elsewhere {p i : Nat} (f : PocketRec → PocketRec) (s : State) (h : i ≠ p) :
    (modPocket p f s).track.recs[i]? = s.track.recs[i]? := by
  simp [modPocket, Ne.symm h]

theorem await_elsewhere {p i : Nat} (n : NodeEntry) (role : Role) (subtype : Nat) (s : State) (h : i ≠ p) :
    (await p n role subtype s).track.recs[i]? = s.track.recs[i]? := modPocket_elsewhere _ s h

theorem raise_groupExhausted_track (cell seq : Nat) (s : State) : (raise .groupExhausted cell seq s).track = s.track := by
  simp only [raise, raiseFor]
  rw [if_neg (by simp)]
  simp only [respond, respondGroup]
  split
  all_goals simp

theorem exhaust_track (g : Nat) (s : State) : (exhaust g s).track = s.track := by
  simp only [exhaust]
  split
  · exact raise_groupExhausted_track _ _ _
  · rfl

theorem advanceIndex_track (g : Nat) (s : State) : (advanceIndex g s).track = s.track := by
  simp only [advanceIndex]
  split
  · rfl
  · split
    · rfl
    · exact exhaust_track g s

theorem overflowPiece_track (g : Nat) (why : HeldReason) (s : State) : (overflowPiece g why s).1.track = s.track := by
  simp only [overflowPiece]
  split <;> simp

theorem placePiece_track (g b seq : Nat) (s : State) : (placePiece g b seq s).1.track = s.track := by
  simp only [placePiece]
  repeat' split
  all_goals simp [advanceIndex_track, putBin]

/-- An exit decision is the presort's: it leaves the track as it was (R132). -/
theorem exitDecision_track (g seq : Nat) (s : State) : (exitDecision g seq s).1.track = s.track := by
  simp only [exitDecision]
  repeat' split
  all_goals simp only [overflowPiece_track, placePiece_track, exhaust_track]
  all_goals rfl

theorem arriveAt_elsewhere {i : Nat} (n : NodeEntry) (s : State) (h : i ≠ n.position) :
    (arriveAt s n).track.recs[i]? = s.track.recs[i]? := by
  simp only [arriveAt]
  split
  · rfl
  · split
    case h_1 => simp only [arriveFeeder]; split <;> simp [await_elsewhere, h, Ne.symm h]
    case h_2 => exact await_elsewhere _ _ _ s h
    case h_3 => simp [arriveEnvelope, await_elsewhere, h]
    case h_4 => simp only [arriveCaliper]; split <;> simp [await_elsewhere, h, Ne.symm h]
    case h_5 => simp only [arriveGate]; split <;> simp [await_elsewhere, h, Ne.symm h]
    case h_6 => simp [arriveSorter, await_elsewhere, exitDecision_track, h, Ne.symm h]
    case h_7 => rfl

theorem arriveOff_elsewhere {i : Nat} (n : NodeEntry) (s : State) (h : i ≠ n.position) :
    (arriveOff s n).track.recs[i]? = s.track.recs[i]? := by
  simp only [arriveOff]
  split
  case h_5 => rfl
  all_goals exact modPocket_elsewhere _ s h

theorem foldl_stations_elsewhere {i : Nat} {f : State → NodeEntry → State}
    (keeps : ∀ n s, i ≠ n.position → (f s n).track.recs[i]? = s.track.recs[i]?) (l : List NodeEntry) (s : State)
    (h : ∀ n ∈ l, n.position ≠ i) : (l.foldl f s).track.recs[i]? = s.track.recs[i]? := by
  induction l generalizing s with
  | nil => rfl
  | cons n l ih =>
    rw [List.foldl_cons, ih _ fun m hm => h m (List.mem_cons_of_mem n hm)]
    exact keeps n s (h n List.mem_cons_self).symm

theorem mem_nodesOf_of_trackNodes {n : NodeEntry} {s : State} (h : n ∈ trackNodes s) : n ∈ nodesOf s := by
  unfold trackNodes at h
  split at h
  · exact h
  · cases h

theorem mem_stationsInOrder {n : NodeEntry} {s : State} (h : n ∈ stationsInOrder s) : n ∈ nodesOf s ∧ positioned n.role = true := by
  have listed := (sortBy_spec NodeEntry.position _).1.mem_iff.1 h
  obtain ⟨node, acts⟩ := List.mem_filter.1 listed
  exact ⟨mem_nodesOf_of_trackNodes node, acts⟩

theorem nodesOf_of_tables {s t : State} (h : t.tables = s.tables) : nodesOf t = nodesOf s := by rw [nodesOf, nodesOf, h]

/-- A record at a position with no station is untouched by the arrivals (R93, R108). -/
theorem trackArrive_elsewhere {i : Nat} (on : Bool) (s : State)
    (h : ∀ m ∈ nodesOf s, positioned m.role = true → m.position ≠ i) :
    (trackArrive on s).track.recs[i]? = s.track.recs[i]? := by
  have stations : ∀ n ∈ stationsInOrder s, n.position ≠ i := fun n hn => by
    obtain ⟨node, acts⟩ := mem_stationsInOrder hn
    exact h n node acts
  cases on with
  | true => exact foldl_stations_elsewhere (fun n s => arriveAt_elsewhere n s) _ s stations
  | false => exact foldl_stations_elsewhere (fun n s => arriveOff_elsewhere n s) _ s stations

theorem writeRecord_emptied_elsewhere {p i : Nat} (out : Record) (s : State) (h : i ≠ p) :
    (writeRecord out (modPocket p emptied s)).track.recs[i]? = s.track.recs[i]? := by
  simpa using modPocket_elsewhere emptied s h

theorem departExit_elsewhere {i : Nat} (on : Bool) (s : State) (h : i + 1 < s.track.recs.length) :
    (departExit on s).track.recs[i]? = s.track.recs[i]? := by
  simp only [departExit]
  split
  · rfl
  · split
    · rfl
    · exact writeRecord_emptied_elsewhere _ s (by omega)

theorem mem_of_positionOf {role : Role} {d : Nat} {s : State} (h : positionOf role s = some d) :
    ∃ m ∈ nodesOf s, m.role = some role ∧ m.position = d := by
  obtain ⟨m, found, rfl⟩ := Option.map_eq_some_iff.1 h
  have isRole := List.find?_some found
  simp only [Bool.and_eq_true, beq_iff_eq] at isRole
  exact ⟨m, mem_nodesOf_of_trackNodes (List.mem_of_find?_eq_some found), isRole.1, rfl⟩

/-- A record that does not depart from D stays as it is: it is not at D, holds no set, or passes with the drive on (R105, R106). -/
theorem departGate_elsewhere {p : Nat} {r : PocketRec} {on : Bool} {s : State} (here : s.track.recs[p]? = some r)
    (stays : ∀ d ∈ nodesOf s, d.role = some .divertGate → d.position = p → r.content = none ∨ on = true ∧ r.gateOrder = .pass) :
    (departGate on s).track.recs[p]? = some r := by
  simp only [departGate]
  split
  · exact here
  · rename_i d gate
    obtain ⟨m, node, isGate, rfl⟩ := mem_of_positionOf gate
    by_cases e : m.position = p
    · rw [e, pocketAt, here]
      rcases stays m node isGate e with empty | ⟨rfl, pass⟩
      · simp [empty, here]
      · cases content : r.content <;> simp [gateOutcome, pass, content, here]
    · split
      · exact here
      · split
        · exact here
        · split
          · rw [writeRecord_emptied_elsewhere _ s (Ne.symm e), here]
          · exact here

/-- The move puts every record one position further on (R101). -/
theorem trackMove_succ {p : Nat} (entry : Option Nat) (s : State) (h : p + 1 < s.track.recs.length) :
    (trackMove entry s).track.recs[p + 1]? = s.track.recs[p]? := by
  have occupied : s.track.recs.isEmpty = false := by
    rw [List.isEmpty_eq_false_iff]
    rintro none
    simp [none] at h
  simp only [trackMove, occupied, Bool.false_eq_true, if_false, putTrack, List.getElem?_cons_succ]
  rw [List.getElem?_dropLast, if_pos (by omega)]

theorem trackMove_pockets (entry : Option Nat) (s : State) :
    pockets (trackMove entry s) = if pockets s = [] then [] else entry :: (pockets s).dropLast := by
  unfold trackMove pockets
  cases e : s.track.recs with
  | nil => simp [e]
  | cons r l => simp [putTrack, newPocket, List.map_dropLast]

theorem recs_length_of_pockets {s t : State} (h : pockets t = pockets s) : t.track.recs.length = s.track.recs.length := by
  simpa [pockets] using congrArg List.length h

theorem trackNotice_pockets (n : Notice) (s : State) :
    pockets (trackNotice n s) = if pockets s = [] then [] else n.entry :: (pockets s).dropLast := by
  simp only [trackNotice, trackArrive_pockets, trackMove_pockets, departExit_pockets, departGate_pockets, trackClose_pockets]
  rfl

/-- A whole record, as the close leaves it, stands one position further on after the notice (R101). -/
theorem trackNotice_moves_record {n : Notice} {s : State} {p : Nat} {r : PocketRec}
    (here : (trackClose (takePositions s)).track.recs[p]? = some r) (inside : p + 1 < s.track.recs.length)
    (stays : ∀ d ∈ nodesOf s, d.role = some .divertGate → d.position = p → r.content = none ∨ n.driveOn = true ∧ r.gateOrder = .pass)
    (noStation : ∀ m ∈ nodesOf s, positioned m.role = true → m.position ≠ p + 1) :
    (trackNotice n s).track.recs[p + 1]? = some r := by
  rw [trackNotice]
  set closed := trackClose (takePositions s) with hclosed
  have length : closed.track.recs.length = s.track.recs.length := recs_length_of_pockets (trackClose_pockets _)
  have nodes : nodesOf closed = nodesOf s := nodesOf_of_tables (by simp [hclosed, takePositions])
  have left : (departGate n.driveOn closed).track.recs[p]? = some r := departGate_elsewhere here (by rwa [nodes])
  have leftLength : (departGate n.driveOn closed).track.recs.length = s.track.recs.length :=
    (recs_length_of_pockets (departGate_pockets _ _)).trans length
  have exitLength : (departExit n.driveOn (departGate n.driveOn closed)).track.recs.length = s.track.recs.length :=
    (recs_length_of_pockets (departExit_pockets _ _)).trans leftLength
  rw [trackArrive_elsewhere, trackMove_succ _ _ (by omega), departExit_elsewhere _ _ (by omega), left]
  rw [nodesOf_of_tables (s := closed) (by simp), nodes]
  exact noStation

/-! ### The number at a position (R6) -/

/-- The counter less `p`, modulo POCKETS, is the number that `p` more gives the counter again (R6). -/
theorem counter_less {counter pockets p : Nat} (h : counter < pockets) (hp : p ≤ pockets) :
    ((counter + (pockets - p)) % pockets + p) % pockets = counter := by
  rw [Nat.mod_add_mod, show counter + (pockets - p) + p = counter + pockets by omega, Nat.add_mod_right, Nat.mod_eq_of_lt h]

theorem pocketNumber_eq_none {s : State} (h : s.pitch.counterValid = false ∨ profileOf s = none) (p : Nat) : pocketNumber p s = none := by
  unfold pocketNumber
  rcases h with invalid | absent
  · cases profileOf s <;> simp [invalid]
  · simp [absent]

theorem pocketNumber_eq_some {s : State} {f : Profile} {p : Nat} (h : profileOf s = some f) (valid : s.pitch.counterValid = true)
    (inside : p < f.trackLen) : pocketNumber p s = some ((s.pitch.counter + (f.pockets - p)) % f.pockets) := by
  simp [pocketNumber, h, valid, inside]

/-- Settles O15: the notice is its four steps, of which only the move changes the pocket numbers and only a departure or an arrival at
its position changes a record the close has left. -/
theorem pitchNoticeMovesTheTrack : Obligations.PitchNoticeMovesTheTrack := by
  refine ⟨fun n s => ⟨rfl, ?_, fun p r here inside stays noStation => trackNotice_moves_record here inside stays noStation⟩,
    fun s on => ⟨rfl, pocketNumber_eq_none, fun f p profile valid inRange inside fits => ?_⟩⟩
  · simpa [pockets] using trackNotice_pockets n s
  · exact ⟨_, pocketNumber_eq_some profile valid inside, Nat.mod_lt _ (by omega), counter_less inRange (by omega)⟩

end Sys2Proof.Machine
end

section
/-! A pitch mark: the counter, the conditions and the notice handed on (O14). -/

namespace Sys2Proof.Machine

/-! ### The pocket counter at a mark (R3, R5, R7) -/

/-- The index search ends at this mark: PRIMING, and the count reaches POCKETS+2 (R7). -/
abbrev searchEnds (p : Profile) (s : State) : Prop := s.line.state = .priming ∧ p.pockets + 2 ≤ s.pitch.searchCount + 1

/-- The mark finds a chain slip: an index at a number that is not 0, or the end of the index search (R5, R7). -/
def markSlips (s : State) : Prop := ∃ p, profileOf s = some p ∧
  (s.pitch.indexPending = true ∧ s.pitch.counterValid = true ∧ advance p.pockets s.pitch.counter ≠ 0 ∨
    s.pitch.indexPending = false ∧ searchEnds p s)

/-- The Pitch Unit's counter at a mark, in the state the mark is taken in (R3). -/
def counted (s : State) : Marked := markCounter ((profileOf s).map (·.pockets)) (s.line.state == .priming) s.pitch

theorem consumeIndex_eq (p : PitchUnit) : consumeIndex p = if p.counterValid = true ∧ p.counter ≠ 0 then
      slipped { p with indexPending := false, searchCount := 0 }
    else { unit := { p with indexPending := false, searchCount := 0, counter := 0, counterValid := true }, slip := false } := rfl

theorem counted_of_no_profile {s : State} (h : profileOf s = none) :
    counted s = { unit := { s.pitch with counter := 0, counterValid := false, indexPending := false }, slip := false } := by
  simp [counted, markCounter, h]

theorem counted_of_index {s : State} {p : Profile} (h : profileOf s = some p) (pending : s.pitch.indexPending = true) :
    counted s = consumeIndex { s.pitch with counter := advance p.pockets s.pitch.counter } := by
  simp [counted, markCounter, h, pending]

theorem counted_of_search_end {s : State} {p : Profile} (h : profileOf s = some p) (noIndex : s.pitch.indexPending = false)
    (ends : searchEnds p s) : counted s = slipped { s.pitch with counter := advance p.pockets s.pitch.counter } := by
  obtain ⟨priming, count⟩ := ends
  simp [counted, markCounter, h, noIndex, searchIndex, priming, count]

theorem counted_of_search {s : State} {p : Profile} (h : profileOf s = some p) (noIndex : s.pitch.indexPending = false)
    (goesOn : ¬searchEnds p s) : counted s =
      { unit := { s.pitch with
          counter := advance p.pockets s.pitch.counter
          searchCount := if s.line.state = .priming then s.pitch.searchCount + 1 else s.pitch.searchCount }
        slip := false } := by
  by_cases priming : s.line.state = .priming
  · have count : ¬p.pockets + 2 ≤ s.pitch.searchCount + 1 := fun c => goesOn ⟨priming, c⟩
    simp [counted, markCounter, h, noIndex, searchIndex, priming, count]
  · simp [counted, markCounter, h, noIndex, searchIndex, priming]

theorem counted_slip (s : State) : (counted s).slip = true ↔ markSlips s := by
  unfold markSlips
  cases h : profileOf s with
  | none => simp [counted_of_no_profile h]
  | some p =>
    cases pending : s.pitch.indexPending with
    | true =>
      rw [counted_of_index h pending, consumeIndex_eq]
      split <;> rename_i tied <;> simpa [slipped] using tied
    | false =>
      by_cases ends : searchEnds p s
      · exact iff_of_true (by rw [counted_of_search_end h pending ends]; rfl) ⟨p, rfl, .inr ⟨rfl, ends⟩⟩
      · simp [counted_of_search h pending ends, ends]

/-- The counter after the mark: advanced, tied to 0 by an index, or invalid after a slip (R3, R5, R7). -/
theorem counted_counter {s : State} {p : Profile} (h : profileOf s = some p) :
    (s.pitch.indexPending = true → (counted s).unit.counter = 0) ∧
    (s.pitch.indexPending = true → (s.pitch.counterValid = false ∨ advance p.pockets s.pitch.counter = 0) →
      (counted s).unit.counterValid = true) ∧
    (s.pitch.indexPending = true → s.pitch.counterValid = true → advance p.pockets s.pitch.counter ≠ 0 →
      (counted s).unit.counterValid = false) ∧
    (s.pitch.indexPending = false → searchEnds p s → (counted s).unit.counter = 0 ∧ (counted s).unit.counterValid = false) ∧
    (s.pitch.indexPending = false → ¬searchEnds p s →
      (counted s).unit.counter = advance p.pockets s.pitch.counter ∧ (counted s).unit.counterValid = s.pitch.counterValid) := by
  refine ⟨fun pending => ?_, fun pending tied => ?_, fun pending valid off => ?_, fun noIndex ends => ?_, fun noIndex goesOn => ?_⟩
  · rw [counted_of_index h pending, consumeIndex_eq]
    split <;> rfl
  · rw [counted_of_index h pending, consumeIndex_eq, if_neg]
    rintro ⟨valid, off⟩
    rcases tied with invalid | zero
    · simp [invalid] at valid
    · exact off zero
  · rw [counted_of_index h pending, consumeIndex_eq, if_pos ⟨valid, off⟩]
    rfl
  · rw [counted_of_search_end h noIndex ends]
    exact ⟨rfl, rfl⟩
  · rw [counted_of_search h noIndex goesOn]
    exact ⟨rfl, rfl⟩

theorem counted_searchCount {s : State} {p : Profile} (h : profileOf s = some p) : (counted s).unit.searchCount =
    if s.pitch.indexPending = true then 0 else if s.line.state ≠ .priming then s.pitch.searchCount
    else if searchEnds p s then 0 else s.pitch.searchCount + 1 := by
  cases pending : s.pitch.indexPending with
  | true =>
    rw [counted_of_index h pending, consumeIndex_eq]
    split <;> rfl
  | false =>
    by_cases ends : searchEnds p s
    · simp [counted_of_search_end h pending ends, slipped, ends]
    · by_cases priming : s.line.state = .priming
      · simp [counted_of_search h pending ends, ends, priming]
      · simp [counted_of_search h pending ends, priming]

/-- What the counter's part of a mark leaves as it was. -/
theorem counted_keeps (s : State) :
    (counted s).unit.meter = s.pitch.meter ∧ (counted s).unit.openPeriod = s.pitch.openPeriod ∧
    (counted s).unit.driveEn = s.pitch.driveEn ∧ (counted s).unit.driveRateUp = s.pitch.driveRateUp ∧
    (counted s).unit.unexpectedUp = s.pitch.unexpectedUp ∧ (counted s).unit.estopAsserted = s.pitch.estopAsserted ∧
    (counted s).unit.indexPending = false := by
  cases h : profileOf s with
  | none => simp [counted_of_no_profile h]
  | some p =>
    cases pending : s.pitch.indexPending with
    | true =>
      rw [counted_of_index h pending, consumeIndex_eq]
      split <;> simp [slipped]
    | false =>
      by_cases ends : searchEnds p s
      · simp [counted_of_search_end h pending ends, slipped, pending]
      · simp [counted_of_search h pending ends, pending]

/-! ### The Pitch Unit's state after a mark (R2, R8, R10) -/

/-- The meter's part of a mark touches the meter's list and the open period only (R10). -/
theorem markMeter_eq (p : PitchUnit) : markMeter p =
    { p with meter := (markMeter p).meter, openPeriod := (markMeter p).openPeriod } := by
  unfold markMeter
  repeat' split
  all_goals rfl

theorem markMeter_meter_congr {p q : PitchUnit} (meter : p.meter = q.meter) (period : p.openPeriod = q.openPeriod) :
    (markMeter p).meter = (markMeter q).meter := by
  unfold markMeter
  rw [period]
  cases q.openPeriod with
  | none => simp only; split <;> split <;> exact meter
  | some t => simp only [meter]

/-- The state a mark's conditions are judged in: the Pitch Unit's own part of the mark is done (R3). -/
def unitMarked (s : State) : State := putPitch (markUnit s).unit s

/-- The Pitch Unit's own part of a mark, field by field (R2, R3, R8, R10). -/
theorem unitMarked_pitch (s : State) : (unitMarked s).pitch =
    { (counted s).unit with
      lastSpan := phaseNow s
      phase := 0
      meter := (markMeter s.pitch).meter
      openPeriod := (unitMarked s).pitch.openPeriod } := by
  obtain ⟨meter, period, -⟩ := counted_keeps s
  have joined : (markMeter (markPhase (phaseNow s) (counted s).unit)).meter = (markMeter s.pitch).meter :=
    markMeter_meter_congr meter period
  rw [← joined]
  exact markMeter_eq _

/-! ### The conditions of a mark (R5, R7, R12, R14) -/

/-- The run-speed check of a mark raises DRIVE RATE (R12). -/
def runsFast (s : State) : Prop :=
  s.line.state = .running ∧ s.pitch.driveEn = true ∧ s.pitch.driveRateUp = false ∧ rateOut s

theorem raise_unexpectedMotion (s : State) : raise .unexpectedMotion 0 0 s = takeRaising .unexpectedMotion 0 0 s := rfl

theorem speedCheck_of_fast {s : State} (h : runsFast s) :
    (speedCheck s).line.state = .recovery ∧ (speedCheck s).line.lastCause = 3 := by
  obtain ⟨running, on, down, out⟩ := h
  rw [speedCheck_stops running on out down]
  obtain ⟨state, cause, -⟩ := enterRecovery_line 3 (takeRaising .driveRate 0 0 (putPitch { s.pitch with driveRateUp := true } s))
  exact ⟨state, cause⟩

theorem speedCheck_of_not_fast {s : State} (h : ¬runsFast s) : speedCheck s = s := by
  classical
  rw [speedCheck_eq, if_neg]
  rintro ⟨running, on, out, down⟩
  exact h ⟨running, on, down, out⟩

/-- The run-speed check leaves the counter, the search count and every latch but DRIVE RATE's own and STATION TIMING's. -/
theorem speedCheck_keeps_pitch (s : State) :
    (speedCheck s).pitch.searchCount = s.pitch.searchCount ∧
    ∀ k, k ≠ .driveRate → k ≠ .stationTiming → latch k (speedCheck s) = latch k s := by
  unfold speedCheck
  split
  · exact ⟨by rw [raise_searchCount rfl]; rfl, fun k rate timing => by rw [latch_raise _ _ _ rate timing, if_neg rate]; rfl⟩
  · exact ⟨rfl, fun _ _ _ => rfl⟩

@[simp] theorem speedCheck_frame (s : State) :
    (speedCheck s).pins = s.pins ∧ (speedCheck s).pitch.counter = s.pitch.counter ∧
    (speedCheck s).pitch.counterValid = s.pitch.counterValid ∧ (speedCheck s).pitch.indexPending = s.pitch.indexPending ∧
    (speedCheck s).pitch.phase = s.pitch.phase ∧ (speedCheck s).pitch.lastSpan = s.pitch.lastSpan ∧
    (speedCheck s).pitch.estopAsserted = s.pitch.estopAsserted ∧ (speedCheck s).pitch.unexpectedUp = s.pitch.unexpectedUp ∧
    (speedCheck s).loop.mgmtIn = s.loop.mgmtIn ∧ (speedCheck s).loop.nodeRecs = s.loop.nodeRecs ∧
    (speedCheck s).loop.noticeMask = s.loop.noticeMask ∧ (speedCheck s).loop.dispatcher = s.loop.dispatcher ∧
    (speedCheck s).tables = s.tables ∧ (speedCheck s).acct.halfA = s.acct.halfA ∧ (speedCheck s).acct.tail = s.acct.tail ∧
    (speedCheck s).acct.base = s.acct.base ∧ (speedCheck s).draws = s.draws ∧ (speedCheck s).pending = s.pending := by
  unfold speedCheck
  split <;> simp [putPitch]

@[simp] theorem unexpectedMotion_frame (on : Bool) (s : State) :
    (unexpectedMotion on s).pins = s.pins ∧ (unexpectedMotion on s).pitch.counter = s.pitch.counter ∧
    (unexpectedMotion on s).pitch.counterValid = s.pitch.counterValid ∧
    (unexpectedMotion on s).pitch.searchCount = s.pitch.searchCount ∧
    (unexpectedMotion on s).pitch.indexPending = s.pitch.indexPending ∧
    (unexpectedMotion on s).pitch.phase = s.pitch.phase ∧ (unexpectedMotion on s).pitch.lastSpan = s.pitch.lastSpan ∧
    (unexpectedMotion on s).pitch.estopAsserted = s.pitch.estopAsserted ∧
    (unexpectedMotion on s).loop.mgmtIn = s.loop.mgmtIn ∧ (unexpectedMotion on s).loop.nodeRecs = s.loop.nodeRecs ∧
    (unexpectedMotion on s).loop.noticeMask = s.loop.noticeMask ∧
    (unexpectedMotion on s).loop.dispatcher = s.loop.dispatcher ∧ (unexpectedMotion on s).tables = s.tables ∧
    (unexpectedMotion on s).acct.halfA = s.acct.halfA ∧ (unexpectedMotion on s).acct.tail = s.acct.tail ∧
    (unexpectedMotion on s).acct.base = s.acct.base ∧ (unexpectedMotion on s).line.state = s.line.state ∧
    (unexpectedMotion on s).draws = s.draws ∧ (unexpectedMotion on s).pending = s.pending := by
  simp only [unexpectedMotion, raise_unexpectedMotion]
  repeat' split
  all_goals simp [putPitch]

theorem takeRaising_lastCause (k : LatchKind) (a b : Nat) (s : State) :
    (takeRaising k a b s).line.lastCause = s.line.lastCause := by
  simp [takeRaising]

theorem unexpectedMotion_lastCause (on : Bool) (s : State) : (unexpectedMotion on s).line.lastCause = s.line.lastCause := by
  simp only [unexpectedMotion, raise_unexpectedMotion]
  repeat' split
  · exact (lower_line _ _).2.1
  · rfl
  · rfl
  · exact takeRaising_lastCause _ _ _ _

/-- UNEXPECTED MOTION is known to be up after a mark exactly when the drive was off (R14). -/
theorem unexpectedMotion_up (on : Bool) (s : State) : (unexpectedMotion on s).pitch.unexpectedUp = !on := by
  cases on <;> cases up : s.pitch.unexpectedUp <;> simp [unexpectedMotion, raise_unexpectedMotion, up]

theorem unexpectedMotion_latch_other {k : LatchKind} (h : k ≠ .unexpectedMotion) (on : Bool) (s : State) :
    latch k (unexpectedMotion on s) = latch k s := by
  simp only [unexpectedMotion, raise_unexpectedMotion]
  repeat' split
  · rw [latch_lower_of_ne _ h]; rfl
  · rfl
  · rfl
  · rw [latch_takeRaising, if_neg h]; rfl

/-- A chain slip has taken the line out of RUNNING, so the run-speed check after it finds nothing (R5, R7, R12, R155). -/
theorem speedCheck_after_slip (s : State) : speedCheck (pulse .chainSlip s) = pulse .chainSlip s := by
  refine speedCheck_of_not_fast fun fast => ?_
  cases driving : driveState s.line.state with
  | true =>
    obtain ⟨recovery, -⟩ := pulse_chainSlip_line driving
    exact absurd fast.1 (by simp [recovery])
  | false =>
    have running := (pulse_chainSlip_state driving).symm.trans fast.1
    simp [running, driveState] at driving

theorem markConditions_of_slip (joined on : Bool) (s : State) :
    markConditions true joined on s = unexpectedMotion on (pulse .chainSlip s) := by
  cases joined
  · rfl
  · exact congrArg (unexpectedMotion on) (speedCheck_after_slip s)

theorem markConditions_of_no_slip (joined on : Bool) (s : State) :
    markConditions false joined on s = unexpectedMotion on (if joined = true then speedCheck s else s) := rfl

/-- What the conditions of a mark leave as it was. -/
@[simp] theorem markConditions_frame (slip joined on : Bool) (s : State) :
    (markConditions slip joined on s).pins = s.pins ∧
    (markConditions slip joined on s).pitch.counter = s.pitch.counter ∧
    (markConditions slip joined on s).pitch.counterValid = s.pitch.counterValid ∧
    (markConditions slip joined on s).pitch.indexPending = s.pitch.indexPending ∧
    (markConditions slip joined on s).pitch.phase = s.pitch.phase ∧
    (markConditions slip joined on s).pitch.lastSpan = s.pitch.lastSpan ∧
    (markConditions slip joined on s).pitch.estopAsserted = s.pitch.estopAsserted ∧
    (markConditions slip joined on s).loop.mgmtIn = s.loop.mgmtIn ∧
    (markConditions slip joined on s).loop.nodeRecs = s.loop.nodeRecs ∧
    (markConditions slip joined on s).loop.noticeMask = s.loop.noticeMask ∧
    (markConditions slip joined on s).loop.dispatcher = s.loop.dispatcher ∧
    (markConditions slip joined on s).tables = s.tables ∧
    (markConditions slip joined on s).acct.halfA = s.acct.halfA ∧
    (markConditions slip joined on s).acct.tail = s.acct.tail ∧
    (markConditions slip joined on s).acct.base = s.acct.base ∧
    (markConditions slip joined on s).draws = s.draws ∧ (markConditions slip joined on s).pending = s.pending := by
  cases slip
  · rw [markConditions_of_no_slip]
    split <;> simp
  · rw [markConditions_of_slip]
    simp

theorem pulse_searchCount (s : State) : (pulse .chainSlip s).pitch.searchCount = s.pitch.searchCount := by
  simp [pulse, raise_searchCount (k := .chainSlip) rfl]

theorem latch_pulse_other {j k : LatchKind} (other : j ≠ k) (rate : j ≠ .driveRate) (timing : j ≠ .stationTiming) (s : State) :
    latch j (pulse k s) = latch j s := by
  rw [pulse, latch_lower_of_ne _ other, latch_raise _ _ _ rate timing, if_neg other]

theorem markConditions_searchCount (slip joined on : Bool) (s : State) :
    (markConditions slip joined on s).pitch.searchCount = s.pitch.searchCount := by
  cases slip
  · rw [markConditions_of_no_slip]
    split <;> simp [(speedCheck_keeps_pitch s).1]
  · simp [markConditions_of_slip, pulse_searchCount]

/-- UNEXPECTED MOTION is judged with its latch and its bookkeeping as the mark found them (R14, log 7). -/
theorem markConditions_before_motion (slip joined on : Bool) (s : State) :
    ∃ w, markConditions slip joined on s = unexpectedMotion on w ∧
    w.pitch.unexpectedUp = s.pitch.unexpectedUp ∧ latch .unexpectedMotion w = latch .unexpectedMotion s := by
  cases slip
  · refine ⟨_, markConditions_of_no_slip joined on s, ?_⟩
    split
    · exact ⟨by simp, (speedCheck_keeps_pitch s).2 _ (by decide) (by decide)⟩
    · exact ⟨rfl, rfl⟩
  · exact ⟨_, markConditions_of_slip joined on s, by simp, latch_pulse_other (by decide) (by decide) (by decide) s⟩

/-- UNEXPECTED MOTION at a mark, in the three cases in which it is judged (R14). -/
theorem markConditions_motion (slip joined : Bool) (s : State) :
    (s.pitch.unexpectedUp = false →
      latch .unexpectedMotion (markConditions slip joined false s) = (latch .unexpectedMotion s).raised 0 0) ∧
    (s.pitch.unexpectedUp = true → latch .unexpectedMotion (markConditions slip joined false s) = latch .unexpectedMotion s) ∧
    (s.pitch.unexpectedUp = true → up .unexpectedMotion (markConditions slip joined true s) = false) ∧
    ∀ on, (markConditions slip joined on s).pitch.unexpectedUp = !on := by
  refine ⟨fun down => ?_, fun known => ?_, fun known => ?_, fun on => ?_⟩
  · obtain ⟨w, e, isUp, same⟩ := markConditions_before_motion slip joined false s
    rw [e, ← same]
    simp [unexpectedMotion, isUp, down, raise_unexpectedMotion]
    rfl
  · obtain ⟨w, e, isUp, same⟩ := markConditions_before_motion slip joined false s
    rw [e, ← same]
    simp [unexpectedMotion, isUp, known]
  · obtain ⟨w, e, isUp, -⟩ := markConditions_before_motion slip joined true s
    rw [e]
    simp [unexpectedMotion, isUp, known, up_lower]
  · obtain ⟨w, e, -⟩ := markConditions_before_motion slip joined on s
    rw [e, unexpectedMotion_up]

/-- A chain slip at a mark: its latch, and the line state (R5, R7, R155). -/
theorem markConditions_slip (joined on : Bool) (s : State) :
    latch .chainSlip (markConditions true joined on s) = { (latch .chainSlip s).raised 0 0 with state := .latched } ∧
    (markConditions true joined on s).line.state = if driveState s.line.state = true then .recovery else s.line.state := by
  rw [markConditions_of_slip]
  refine ⟨?_, ?_⟩
  · rw [unexpectedMotion_latch_other (by decide), latch_pulse (by decide) (by decide)]
  · cases driving : driveState s.line.state with
    | true => simp [(pulse_chainSlip_line driving).1]
    | false => simp [pulse_chainSlip_state driving]

/-- A mark without a chain slip: CHAIN SLIP stands, and only the run-speed check moves the line (R12). -/
theorem markConditions_no_slip (joined on : Bool) (s : State) :
    latch .chainSlip (markConditions false joined on s) = latch .chainSlip s ∧
    (¬(joined = true ∧ runsFast s) → (markConditions false joined on s).line.state = s.line.state) ∧
    (joined = true ∧ runsFast s →
      (markConditions false joined on s).line.state = .recovery ∧ (markConditions false joined on s).line.lastCause = 3) := by
  rw [markConditions_of_no_slip, unexpectedMotion_latch_other (by decide), unexpectedMotion_lastCause]
  refine ⟨?_, fun slow => ?_, fun ⟨closed, fast⟩ => ?_⟩
  · split
    · exact (speedCheck_keeps_pitch s).2 _ (by decide) (by decide)
    · rfl
  · split
    · rename_i closed
      simp [speedCheck_of_not_fast fun fast => slow ⟨closed, fast⟩]
    · simp
  · obtain ⟨state, cause⟩ := speedCheck_of_fast fast
    simp [closed, state, cause]

/-! ### The mark taken and its notice handed on (R3, R4) -/

theorem takeMark_eq (s : State) : takeMark s =
    (markConditions (counted s).slip s.pitch.openPeriod.isSome s.pitch.driveEn (unitMarked s), noticeOf s.pitch.driveEn (unitMarked s)) :=
  rfl

theorem pocketNumber_congr {s t : State} (tables : t.tables = s.tables) (valid : t.pitch.counterValid = s.pitch.counterValid)
    (counter : t.pitch.counter = s.pitch.counter) (p : Nat) : pocketNumber p t = pocketNumber p s := by
  unfold pocketNumber profileOf
  rw [tables, valid, counter]

/-- The run-speed check's condition at a mark, from the state before it (R10, R12). -/
theorem runsFast_unitMarked (s : State) : runsFast (unitMarked s) ↔
    s.line.state = .running ∧ s.pitch.driveEn = true ∧ s.pitch.driveRateUp = false ∧ (markMeter s.pitch).meter.length = 8 ∧
      ∃ p, profileOf s = some p ∧ ((markMeter s.pitch).meter.sum / 8 < p.periodLo ∨ p.periodHi < (markMeter s.pitch).meter.sum / 8) := by
  obtain ⟨-, -, on, rate, -⟩ := counted_keeps s
  unfold runsFast rateOut
  rw [unitMarked_pitch]
  simp only [on, rate]
  rfl

theorem foldl_addNew_prefix {α : Type} [DecidableEq α] (l m : List α) :
    ∃ rest, m.foldl (fun l r => if r ∈ l then l else l ++ [r]) l = l ++ rest := by
  induction m generalizing l with
  | nil => exact ⟨[], by simp⟩
  | cons a m ih =>
    obtain ⟨rest, e⟩ := ih (if a ∈ l then l else l ++ [a])
    rw [List.foldl_cons, e]
    split
    · exact ⟨rest, rfl⟩
    · exact ⟨a :: rest, by simp⟩

theorem foldl_addNew_nodup {α : Type} [DecidableEq α] (l m : List α) (h : (l ++ m).Nodup) :
    m.foldl (fun l r => if r ∈ l then l else l ++ [r]) l = l ++ m := by
  induction m generalizing l with
  | nil => simp
  | cons a m ih =>
    have new : a ∉ l := fun old => (List.nodup_append.1 h).2.2 a old a List.mem_cons_self rfl
    rw [List.foldl_cons, if_neg new, ih _ (by simpa using h)]
    simp

/-- An order without repetitions is kept, and the receivers it leaves out follow it (R4, log 6). -/
theorem receiverOrder_prefix {order : List Receiver} (h : order.Nodup) : ∃ rest, receiverOrder order = order ++ rest := by
  rw [receiverOrder, List.foldl_append, foldl_addNew_nodup [] order h]
  exact foldl_addNew_prefix _ _

/-- A mark's own part at a state: the counter, the phase and the conditions that follow, with the notice (R3, R8). -/
theorem takeMark_notice (s : State) : (takeMark s).2 =
    { entry := pocketNumber 0 (takeMark s).1, driveOn := s.pitch.driveEn, counterValid := (takeMark s).1.pitch.counterValid } := by
  rw [takeMark_eq]
  simp only [noticeOf, markConditions_frame]
  rw [pocketNumber_congr (s := unitMarked s) (t := markConditions _ _ _ (unitMarked s)) (by simp) (by simp) (by simp)]

/-- The Pitch Unit's counter and phase once the mark's conditions are judged (R3, R8). -/
theorem takeMark_pitch (s : State) :
    (takeMark s).1.pitch.counter = (counted s).unit.counter ∧ (takeMark s).1.pitch.counterValid = (counted s).unit.counterValid ∧
    (takeMark s).1.pitch.searchCount = (counted s).unit.searchCount ∧ (takeMark s).1.pitch.phase = 0 ∧
    (takeMark s).1.pitch.lastSpan = phaseNow s ∧ (takeMark s).1.pitch.indexPending = false ∧
    (takeMark s).1.pitch.estopAsserted = s.pitch.estopAsserted ∧ (takeMark s).1.pitch.unexpectedUp = !s.pitch.driveEn := by
  obtain ⟨-, -, -, -, -, estop, pending⟩ := counted_keeps s
  obtain ⟨-, -, -, motion⟩ := markConditions_motion (counted s).slip s.pitch.openPeriod.isSome (unitMarked s)
  rw [takeMark_eq]
  simp only [markConditions_frame, markConditions_searchCount, motion]
  rw [unitMarked_pitch]
  exact ⟨rfl, rfl, rfl, rfl, rfl, pending, estop, trivial⟩

/-- A chain slip at a mark: its latch, and RECOVERY from a drive state (R5, R7, R155). -/
theorem takeMark_slip {s : State} (h : markSlips s) :
    latch .chainSlip (takeMark s).1 = { (latch .chainSlip s).raised 0 0 with state := .latched } ∧
    (takeMark s).1.line.state = if driveState s.line.state = true then .recovery else s.line.state := by
  rw [takeMark_eq, (counted_slip s).2 h]
  exact markConditions_slip _ _ (unitMarked s)

/-- A mark without a chain slip: only the run-speed check moves the line (R12). -/
theorem takeMark_no_slip {s : State} (h : ¬markSlips s) :
    latch .chainSlip (takeMark s).1 = latch .chainSlip s ∧
    (¬(s.pitch.openPeriod.isSome = true ∧ runsFast (unitMarked s)) → (takeMark s).1.line.state = s.line.state) ∧
    (s.pitch.openPeriod.isSome = true ∧ runsFast (unitMarked s) →
      (takeMark s).1.line.state = .recovery ∧ (takeMark s).1.line.lastCause = 3) := by
  rw [takeMark_eq, Bool.eq_false_iff.2 (mt (counted_slip s).1 h)]
  exact markConditions_no_slip _ _ (unitMarked s)

/-- UNEXPECTED MOTION at a mark (R14). -/
theorem takeMark_motion (s : State) :
    (s.pitch.driveEn = false → s.pitch.unexpectedUp = false →
      latch .unexpectedMotion (takeMark s).1 = (latch .unexpectedMotion s).raised 0 0) ∧
    (s.pitch.driveEn = false → s.pitch.unexpectedUp = true → latch .unexpectedMotion (takeMark s).1 = latch .unexpectedMotion s) ∧
    (s.pitch.driveEn = true → s.pitch.unexpectedUp = true → up .unexpectedMotion (takeMark s).1 = false) := by
  obtain ⟨-, -, -, -, known, -⟩ := counted_keeps s
  obtain ⟨raised, kept, lowered, -⟩ := markConditions_motion (counted s).slip s.pitch.openPeriod.isSome (unitMarked s)
  rw [unitMarked_pitch] at raised kept lowered
  rw [takeMark_eq]
  refine ⟨fun off down => ?_, fun off isUp => ?_, fun on isUp => ?_⟩
  · rw [off]; exact raised (known.trans down)
  · rw [off]; exact kept (known.trans isUp)
  · rw [on]; exact lowered (known.trans isUp)

/-- What the Pitch Unit's part of a mark leaves as it was (R3). -/
theorem takeMark_frame (s : State) :
    (takeMark s).1.pins = s.pins ∧ (takeMark s).1.loop.mgmtIn = s.loop.mgmtIn ∧ (takeMark s).1.loop.nodeRecs = s.loop.nodeRecs ∧
    (takeMark s).1.loop.noticeMask = s.loop.noticeMask ∧ (takeMark s).1.loop.dispatcher = s.loop.dispatcher ∧
    (takeMark s).1.tables = s.tables ∧ (takeMark s).1.acct.halfA = s.acct.halfA ∧ (takeMark s).1.acct.tail = s.acct.tail ∧
    (takeMark s).1.acct.base = s.acct.base ∧ (takeMark s).1.draws = s.draws ∧ (takeMark s).1.pending = s.pending := by
  rw [takeMark_eq]
  simp [unitMarked, putPitch]

/-- The receivers change no table (R4). -/
theorem handOn_get (n : Notice) (order : List Receiver) (s : State) (i : TableId) : (handOn n order s).tables.get i = s.tables.get i := by
  cases i <;> simp [TableStore.get]

theorem pitchMark_eq (n : Nat) (order : List Receiver) (s : State) :
    pitchMark n order s = handOn (takeMark (elapse n s)).2 (receiverOrder order) (takeMark (elapse n s)).1 := rfl

theorem exec_pitchMark {s : State} (high : s.pins.resetN = true) (n : Nat) (order : List Receiver) :
    exec (.pitchMark n order) s = .next (pitchMark n order s) := by
  change run true (pitchMark n order) s = _
  rw [run, high]
  rfl

/-- The condition of R12 at a mark, `n` units after the command before it. -/
theorem joined_fast_iff (n : Nat) (s : State) :
    ((elapse n s).pitch.openPeriod.isSome = true ∧ runsFast (unitMarked (elapse n s))) ↔
      s.line.state = .running ∧ s.pitch.driveEn = true ∧ s.pitch.driveRateUp = false ∧ s.pitch.openPeriod.isSome = true ∧
        (markMeter (elapse n s).pitch).meter.length = 8 ∧ ∃ p, profileOf s = some p ∧
          ((markMeter (elapse n s).pitch).meter.sum / 8 < p.periodLo ∨ p.periodHi < (markMeter (elapse n s).pitch).meter.sum / 8) := by
  have closed : (elapse n s).pitch.openPeriod.isSome = s.pitch.openPeriod.isSome := Option.isSome_map ..
  have fast := runsFast_unitMarked (elapse n s)
  rw [closed]
  exact ⟨fun ⟨c, f⟩ => have ⟨running, on, down, out⟩ := fast.1 f; ⟨running, on, down, c, out⟩,
    fun ⟨running, on, down, c, out⟩ => ⟨c, fast.2 ⟨running, on, down, out⟩⟩⟩

/-- The end of an event: a release, then the held flags' judgement (R87, R146). -/
theorem settle_eq (s : State) : settle s =
    if ((tryRelease s).line.state = .paused ∨ (tryRelease s).line.state = .draining) ∧ held (tryRelease s) = false then
      setLine .halted 0 (tryRelease s)
    else tryRelease s := rfl

/-- Settles O14: the Pitch Unit's part of a mark, its conditions, and the notice handed to each receiver in turn. -/
theorem markMovesCounterAndPhase : Obligations.MarkMovesCounterAndPhase := by
  refine ⟨fun n order s high => ?_, fun order => ⟨(receiverOrder_each_once order).1, fun r => ⟨(receiverOrder_each_once order).2 r, ?_⟩,
    receiverOrder_prefix⟩, fun n u => ⟨rfl, rfl, rfl, rfl, fun on => ?_, fun off => ?_⟩,
    fun u => ⟨fun h => ?_, fun h => ?_⟩⟩
  · intro taken u handed next spent slip meter fast
    obtain ⟨counter, valid, count, phase, span, pending, estop, motion⟩ := takeMark_pitch (elapse n s)
    obtain ⟨raised, kept, lowered⟩ := takeMark_motion (elapse n s)
    have isFast : _ ↔ fast := joined_fast_iff n s
    refine ⟨takeMark_notice _, takeMark_slip (s := elapse n s), fun h => ?_, raised, kept, lowered, fun p profile => ?_,
      pitchMark n order s, exec_pitchMark high n order, rfl, ?_⟩
    · obtain ⟨latched, slow, quick⟩ := takeMark_no_slip (s := elapse n s) h
      exact ⟨latched, fun h => slow (mt isFast.1 h), fun h => quick (isFast.2 h)⟩
    · exact count.trans (counted_searchCount profile)
    · obtain ⟨pins, mgmt, recs, mask, dispatcher, tables, halfA, tail, base, draws, pend⟩ := takeMark_frame (elapse n s)
      rw [pitchMark_eq]
      simp only [handOn_frame, handOn_get, counter, valid, phase, span, pending, estop, motion, pins, mgmt, recs, mask, dispatcher,
        tables, halfA, tail, base, draws, pend]
      refine ⟨trivial, rfl, trivial, rfl, fun noProfile => ?_, fun p profile => counted_counter (s := elapse n s) profile, rfl, rfl,
        fun i => rfl, rfl, rfl, rfl, rfl, rfl, rfl, rfl, rfl, rfl⟩
      rw [counted_of_no_profile (s := elapse n s) noProfile]
      exact ⟨rfl, rfl⟩
  · cases r <;> simp
  · simp [receive, on]
  · simp [receive, off]
  · exact (settle_eq u).trans (if_pos h)
  · exact (settle_eq u).trans (if_neg h)

end Sys2Proof.Machine
end

section
/-! The loop's queues stay within their capacities (O6). -/

namespace Sys2Proof.Machine

/-- The bounds of the loop's queues under every update the part's operations are made of: only the two that touch the loop matter,
and the outputs' change touches its roll timer alone (R18, R20, R21, R25, R31). -/
theorem closed_loopBounded : Closed LoopBounded where
  pins _ _ h := h
  stage _ _ h := h
  track _ _ h := h
  feeders _ _ h := h
  presort _ _ h := h
  outcomes _ _ h := h
  draws _ _ h := h
  pitch _ _ _ _ _ h := h
  line _ _ _ _ h := h
  raised _ _ _ _ h := h
  lowered _ _ _ h := h
  cleared _ _ _ h := h
  moved s n c h := by
    let moved := lowerTiming s.line.state n { s with line := lineChanged n c s.line }
    obtain ⟨timer, loop⟩ := updateDrive_loop moved
    have same : moved.loop = s.loop := by simp [moved]
    rw [LoopBounded, loop, same]
    exact bounded_of_eq h rfl rfl rfl rfl rfl rfl
  estop s b t h := by
    obtain ⟨timer, loop⟩ := updateDrive_loop (putPitch { s.pitch with estopAsserted := b, releaseTimer := t } s)
    rw [LoopBounded, loop]
    exact bounded_of_eq h rfl rfl rfl rfl rfl rfl
  loop _ _ bounds h := bounds h
  tables _ _ _ _ h := h
  pull _ _ _ h := h
  acct _ _ _ h := h

/-- The cold values have every queue empty and nothing dropped (R34). -/
theorem loopBounded_cold (p : Pins) (d : Nat) (q : List Instr) : LoopBounded (State.cold p d q) := by
  constructor <;> exact Nat.zero_le _

/-- A DEVICE RESET gives the Loop Interface its cold values but for the node records (R34). -/
theorem deviceValues_loop (s : State) : (deviceValues s).loop =
    { LoopIf.cold with nodeRecs := List.replicate (nodesOf s).length NodeRec.fresh } := by
  unfold deviceValues
  dsimp only
  split <;> rfl

theorem loopBounded_deviceValues (s : State) : LoopBounded (deviceValues s) := by
  rw [LoopBounded, deviceValues_loop]
  exact bounded_of_eq (loopBounded_cold s.pins s.draws s.pending) rfl rfl rfl rfl rfl rfl

/-- Settles O6: the bounds are closed under the updates every operation is made of, and the two resets establish them. -/
theorem loopQueuesStayBounded : Obligations.LoopQueuesStayBounded := fun _ _ h e =>
  step_keeps closed_loopBounded loopBounded_cold (fun s _ => loopBounded_deviceValues s) (fun _ _ h => h) e h

end Sys2Proof.Machine
end

section
/-! Every command completes, and keeps the queue of commands (O3). -/

namespace Sys2Proof.Machine

/-- No update that an operation is made of touches the queue of commands. -/
theorem closed_pending (q : List Instr) : Closed fun t => t.pending = q where
  pins _ _ h := h
  stage _ _ h := h
  track _ _ h := h
  feeders _ _ h := h
  presort _ _ h := h
  outcomes _ _ h := h
  draws _ _ h := h
  pitch _ _ _ _ _ h := h
  line _ _ _ _ h := h
  raised _ _ _ _ h := h
  lowered _ _ _ h := h
  cleared _ _ _ h := h
  moved _ _ _ h := by simpa using h
  estop _ _ _ h := by simpa using h
  loop _ _ _ h := h
  tables _ _ _ _ h := h
  pull _ _ _ h := h
  acct _ _ _ h := h

/-- What keeps every closed property keeps the queue of commands. -/
theorem pending_of_keeps {f : State → State} (keeps : ∀ {P : State → Prop}, Closed P → ∀ {s}, P s → P (f s)) (s : State) :
    (f s).pending = s.pending := keeps (closed_pending s.pending) rfl

theorem deviceValues_pending (s : State) : (deviceValues s).pending = s.pending := by
  unfold deviceValues
  dsimp only
  split <;> rfl

/-- The request rows: each is the dispatcher's taking of a request of its kind, and its handler keeps every closed property (R25). -/
theorem exec_requestRow {kind : Nat} {i : Instr} (row : (kind, i) ∈ requestRows) :
    ∃ h : Handler, (∀ s, exec i s = run true (request kind h) s) ∧
      ∀ {P : State → Prop}, Closed P → ∀ c s, P s → P (h c s).1 := by
  simp only [requestRows, List.mem_cons, Prod.mk.injEq, List.not_mem_nil, or_false] at row
  rcases row with ⟨rfl, rfl⟩ | ⟨rfl, rfl⟩ | ⟨rfl, rfl⟩ | ⟨rfl, rfl⟩ | ⟨rfl, rfl⟩ | ⟨rfl, rfl⟩ | ⟨rfl, rfl⟩ | ⟨rfl, rfl⟩ | ⟨rfl, rfl⟩ |
    ⟨rfl, rfl⟩ | ⟨rfl, rfl⟩ | ⟨rfl, rfl⟩ | ⟨rfl, rfl⟩ | ⟨rfl, rfl⟩ | ⟨rfl, rfl⟩ | ⟨rfl, rfl⟩ | ⟨rfl, rfl⟩ | ⟨rfl, rfl⟩ | ⟨rfl, rfl⟩ |
    ⟨rfl, rfl⟩ | ⟨rfl, rfl⟩ | ⟨rfl, rfl⟩ | ⟨rfl, rfl⟩
  · exact ⟨loadHandler, fun _ => rfl, fun hP c _ => loadHandler_keeps hP c⟩
  · exact ⟨commitHandler, fun _ => rfl, fun hP c _ => commitHandler_keeps hP c⟩
  · exact ⟨readHandler, fun _ => rfl, fun _ c _ => readHandler_keeps c⟩
  · exact ⟨acctAHandler, fun _ => rfl, fun hP c _ => acctAHandler_keeps hP c⟩
  · exact ⟨acctBHandler, fun _ => rfl, fun hP c _ => acctBHandler_keeps hP c⟩
  · exact ⟨pullAddHandler, fun _ => rfl, fun hP c _ => pullAddHandler_keeps hP c⟩
  · exact ⟨pullRemoveHandler, fun _ => rfl, fun hP c _ => pullRemoveHandler_keeps hP c⟩
  · exact ⟨recallHandler, fun _ => rfl, fun hP c _ => recallHandler_keeps hP c⟩
  · exact ⟨stageHandler, fun _ => rfl, fun hP c _ => stageHandler_keeps hP c⟩
  · exact ⟨holdHandler true, fun _ => rfl, fun hP c _ => holdHandler_keeps hP true c⟩
  · exact ⟨holdHandler false, fun _ => rfl, fun hP c _ => holdHandler_keeps hP false c⟩
  · exact ⟨startHandler, fun _ => rfl, fun hP c _ => startHandler_keeps hP c⟩
  · exact ⟨stopHandler, fun _ => rfl, fun hP c _ => stopHandler_keeps hP c⟩
  · exact ⟨cutHandler, fun _ => rfl, fun hP c _ => cutHandler_keeps hP c⟩
  · exact ⟨feederEnableHandler, fun _ => rfl, fun hP c _ => feederEnableHandler_keeps hP c⟩
  · exact ⟨feederDisableHandler, fun _ => rfl, fun hP c _ => feederDisableHandler_keeps hP c⟩
  · exact ⟨closeGroupHandler, fun _ => rfl, fun hP c _ => closeGroupHandler_keeps hP c⟩
  · exact ⟨restartGroupHandler, fun _ => rfl, fun hP c _ => restartGroupHandler_keeps hP c⟩
  · exact ⟨clearFaultHandler, fun _ => rfl, fun hP c _ => clearFaultHandler_keeps hP c⟩
  · exact ⟨fetchHandler, fun _ => rfl, fun hP c _ => fetchHandler_keeps hP c⟩
  · exact ⟨clearRunHandler, fun _ => rfl, fun hP c _ => clearRunHandler_keeps hP c⟩
  · exact ⟨deviceResetHandler, fun _ => rfl, fun hP c _ => deviceResetHandler_keeps hP c⟩
  · exact ⟨noticeMaskHandler, fun _ => rfl, fun hP c _ => noticeMaskHandler_keeps hP c⟩

/-- A command is run: it has an effect that keeps the queue, taken while RESET_N is high by operands that are an event of its row. -/
def Runs (i : Instr) : Prop :=
  ∃ f : State → State, (∀ s, exec i s = run i.wf f s) ∧ ∀ s, (f s).pending = s.pending

theorem runs_of_keeps {i : Instr} {f : State → State} (eq : ∀ s, exec i s = run i.wf f s)
    (keeps : ∀ {P : State → Prop}, Closed P → ∀ {s}, P s → P (f s)) : Runs i := ⟨f, eq, pending_of_keeps keeps⟩

theorem runs_of_requestRow {i : Instr} (row : i ∈ requestRows.map (·.2)) (wf : i.wf = true) : Runs i := by
  obtain ⟨⟨kind, j⟩, mem, rfl⟩ := List.mem_map.1 row
  obtain ⟨h, eq, keeps⟩ := exec_requestRow mem
  exact runs_of_keeps (fun s => by rw [wf, eq]) fun hP => request_keeps hP _ _ (keeps hP)

/-- Every command but the reset's own and the levels of the encoder and of ESTOP_N is run (log 3, log 4). -/
theorem exec_runs (i : Instr) (notReset : i ≠ .coldReset) (notEnd : i ≠ .coldResetEnd) (notStep : ∀ a b, i ≠ .encoderStep a b)
    (notAssert : i ≠ .estopAssert) (notRise : i ≠ .estopRise) : Runs i := by
  cases i
  case coldReset => exact absurd rfl notReset
  case coldResetEnd => exact absurd rfl notEnd
  case encoderStep a b => exact absurd rfl (notStep a b)
  case estopAssert => exact absurd rfl notAssert
  case estopRise => exact absurd rfl notRise
  case pitchMark n l => exact runs_of_keeps (fun _ => rfl) fun hP => pitchMark_keeps hP n l
  case index => exact runs_of_keeps (fun _ => rfl) fun hP _ => putPitch_keeps hP rfl rfl rfl
  case estopReleaseTimerExpiry => exact runs_of_keeps (fun _ => rfl) estopRelease_keeps
  case meterStallEntry => exact runs_of_keeps (fun _ => rfl) meterStall_keeps
  case indexSearchExpiry => exact runs_of_keeps (fun _ => rfl) searchExpiry_keeps
  case setDeadlineExpiry => exact runs_of_keeps (fun _ => rfl) deadlineExpiry_keeps
  case cleanPitchCountExpiry => exact runs_of_keeps (fun _ => rfl) cleanExpiry_keeps
  case recoveryHoldExpiry => exact runs_of_keeps (fun _ => rfl) recoveryExpiry_keeps
  case rollTimerExpiry => exact runs_of_keeps (fun _ => rfl) rollTimerEnd_keeps
  case crcErrorDiscard c w => exact runs_of_keeps (fun _ => rfl) fun hP => crcDiscard_keeps hP c w
  case forwardedCell c => exact runs_of_keeps (fun _ => rfl) fun hP => forwardCell_keeps hP c
  case rollReturn q m => exact runs_of_keeps (fun _ => rfl) fun hP => rollReturned_keeps hP q m
  case unknownKindCell a k => exact runs_of_keeps (fun _ => rfl) fun hP => unknownCell_keeps hP a
  case managementCellArrival c => exact runs_of_keeps (fun _ => rfl) fun hP => managementArrival_keeps hP c
  case sheet => exact runs_of_keeps (fun _ => rfl) fun hP => report_keeps hP _ _ _ fun _ _ _ k => settle_keeps hP (routeSheet_keeps hP _ _ k)
  case done => exact runs_of_keeps (fun _ => rfl) fun hP => report_keeps hP _ _ _ fun _ _ _ => doneReport_keeps hP _ _ _ _ _ _ _
  case envread => exact runs_of_keeps (fun _ => rfl) fun hP => report_keeps hP _ _ _ fun _ _ _ => trackEnvread_keeps hP _ _ _
  case status => exact runs_of_keeps (fun _ => rfl) fun hP => report_keeps hP _ _ _ fun _ _ _ => statusReport_keeps hP _ _ _ _ _
  case binEmptied =>
    exact runs_of_keeps (fun _ => rfl) fun hP => report_keeps hP _ _ _ fun _ _ _ => binReport_keeps hP _ (fun _ _ => binEmptied_keeps hP _) _
  case binOffline =>
    exact runs_of_keeps (fun _ => rfl) fun hP => report_keeps hP _ _ _ fun _ _ _ => binReport_keeps hP _ (fun _ _ => binOffline_keeps hP _) _
  case binOnline =>
    exact runs_of_keeps (fun _ => rfl) fun hP => report_keeps hP _ _ _ fun _ _ _ => binReport_keeps hP _ (fun _ _ => binOnline_keeps hP _) _
  case unknownBinReport => exact runs_of_keeps (fun _ => rfl) fun hP => report_keeps hP _ _ _ fun _ _ _ => bumpRun_keeps hP _
  case replyPlace => exact runs_of_keeps (fun _ => rfl) replyPlace_keeps
  case cellSent => exact runs_of_keeps (fun _ => rfl) cellSent_keeps
  case deviceResetEffect =>
    refine ⟨_, fun _ => rfl, fun s => ?_⟩
    split
    · exact (pending_of_keeps (f := fun s => readEstop (startRollTimer s))
        (fun hP _ h => readEstop_keeps hP (startRollTimer_keeps hP h)) _).trans (deviceValues_pending s)
    · rfl
  all_goals exact runs_of_requestRow (by simp [requestRows]) rfl

/-- A command that is run has a next state with the queue kept, and changes nothing when its operands are no event (log 3). -/
theorem completes_of_runs {i : Instr} (h : Runs i) (s : State) :
    ∃ t, exec i s = .next t ∧ t.pending = s.pending ∧ (i.wf = false → t = s) := by
  obtain ⟨f, eq, keeps⟩ := h
  refine ⟨_, eq s, ?_, fun ill => by rw [ill, Bool.and_false]; rfl⟩
  split
  · exact keeps s
  · rfl

/-- Settles O3: a command is run, or it is one of the five that RESET_N does not hold back, whose operands are always an event. -/
theorem everyCommandCompletes : Obligations.EveryCommandCompletes := by
  refine ⟨fun i s => ?_, fun i s low notReset notEnd notStep notAssert notRise => ?_⟩
  · cases i
    case coldReset => exact ⟨_, rfl, rfl, nofun⟩
    case coldResetEnd =>
      refine ⟨_, rfl, ?_, nofun⟩
      split
      · rfl
      · exact pending_of_keeps coldResetEnd_keeps s
    case encoderStep a b =>
      refine ⟨_, rfl, ?_, nofun⟩
      dsimp only
      split <;> rfl
    case estopAssert =>
      refine ⟨_, rfl, ?_, nofun⟩
      repeat' split
      · exact pending_of_keeps estopFall_keeps s
      all_goals rfl
    case estopRise =>
      refine ⟨_, rfl, ?_, nofun⟩
      repeat' split
      · rfl
      · exact pending_of_keeps estopRise_keeps s
      · rfl
    all_goals
      refine completes_of_runs (exec_runs _ ?_ ?_ ?_ ?_ ?_) s
      all_goals nofun
  · obtain ⟨f, eq, -⟩ := exec_runs i notReset notEnd notStep notAssert notRise
    rw [eq, run, low]
    rfl

end Sys2Proof.Machine
end

section
/-! The bytes of a cell (O11). -/

namespace Sys2Proof.Machine

/-- A 16-bit number is that of its two bytes (02, "Cell and record layouts"). -/
theorem beNum_beBytes_two {n : Nat} (h : n < 65536) : beNum (beBytes 2 n) = n := by
  have bytes : beBytes 2 n = [BitVec.ofNat 8 (n / 256), BitVec.ofNat 8 n] := by simp [beBytes, List.range_succ]
  simp only [bytes, beNum, List.foldl_cons, List.foldl_nil, BitVec.toNat_ofNat]
  omega

theorem padTo_of_length {n : Nat} {l : List Byte} (h : l.length = n) : padTo n l = l := by
  rw [padTo, ← h, List.take_left]

/-- Settles O11: bytes 0 to 17 stand as they are in a well-formed cell, and bytes 18 and 19 are the check word's. -/
theorem cellBytesGiveBackTheCell : Obligations.CellBytesGiveBackTheCell := by
  intro c wf
  have length : c.payload.length = 14 := by simpa [Cell.wf] using wf
  have head : cellBytes c = [c.dest, c.src, c.kind, c.tag] ++ c.payload ++ beBytes 2 (cellCrc c).toNat := by
    rw [cellBytes, cellHead, padTo_of_length length]
  have payload : ((cellBytes c).drop 4).take 14 = c.payload := by
    rw [head, ← length]
    simp
  have word : BitVec.ofNat 16 (beNum ((cellBytes c).drop 18)) = cellCrc c := by
    have last : (cellBytes c).drop 18 = beBytes 2 (cellCrc c).toNat := by
      rw [head, List.drop_append_of_le_length (by simp [length])]
      simp [length]
    rw [last, beNum_beBytes_two (cellCrc c).isLt, BitVec.ofNat_toNat, BitVec.setWidth_eq]
  have bytes : (cellBytes c).length = 20 := by simp [head, length, length_beBytes]
  rw [cellOfBytes, if_pos bytes, payload, word, head]
  rfl

end Sys2Proof.Machine
end

section
/-! Requests: queued, admitted, refused (O36). -/

namespace Sys2Proof.Machine

/-- A command whose operands are an event of its row takes effect while RESET_N is high. -/
theorem run_of_wf {ok : Bool} {s : State} (high : s.pins.resetN = true) (wf : ok = true) (f : State → State) :
    run ok f s = .next (f s) := by
  simp only [run, high, wf, Bool.and_self, if_true]

theorem exec_managementCellArrival {c : Cell} {s : State} (high : s.pins.resetN = true)
    (wf : (Instr.managementCellArrival c).wf = true) : exec (.managementCellArrival c) s = .next (managementArrival c s) :=
  run_of_wf high wf _

/-- The dispatcher takes the oldest cell of the input queue, when it is of the kind and the dispatcher is idle (R25). -/
theorem nextRequest_eq_some {kind : Nat} {c : Cell} {s : State} : nextRequest kind s = some c ↔
    s.loop.mgmtIn.head? = some c ∧ kindCode c.kind = kind ∧ s.loop.dispatcher = Dispatcher.idle := by
  simp only [nextRequest, idle, beq_iff_eq]
  cases s.loop.mgmtIn with
  | nil => simp
  | cons a l =>
    simp only [List.head?_cons, Option.some.injEq, Option.ite_none_right_eq_some]
    constructor
    · rintro ⟨taken, rfl⟩
      exact ⟨rfl, taken⟩
    · rintro ⟨rfl, taken⟩
      exact ⟨taken, rfl⟩

/-- With no request to take nothing happens (log 2, log 9). -/
theorem request_of_none {kind : Nat} {s : State} (h : nextRequest kind s = none) (f : Handler) : request kind f s = s := by
  simp only [request, h]

/-- A request whose source is not admitted is answered NOT MANAGER, and its cell has left the input queue (R25, R26). -/
theorem request_of_refused {kind : Nat} {c : Cell} {s : State} (h : nextRequest kind s = some c) (refused : admitted c s = false)
    (f : Handler) : request kind f s =
      replied c .notManager [] { s with loop := { s.loop with mgmtIn := s.loop.mgmtIn.tail } } := by
  have popped : admitted c (popRequest s) = false := refused
  simp only [request, h, serve, popped, Bool.false_eq_true, if_false]
  rfl

theorem admitted_of_not_valid {s : State} (h : s.tables.node.state ≠ .valid) (c : Cell) : admitted c s = true := if_neg h

/-- The sources that a VALID node table admits: a LINE COMPUTER for every kind, a PANEL for its own (R26). -/
theorem admitted_iff {s : State} (h : s.tables.node.state = .valid) (c : Cell) : admitted c s = true ↔
    ∃ n, nodeAt c.src.toNat s = some n ∧ (n.role = some .lineComputer ∨ n.role = some .panel ∧ kindCode c.kind ∈ panelKinds) := by
  simp only [admitted, h, if_true]
  cases nodeAt c.src.toNat s with
  | none => simp
  | some n => simp

/-- Settles O36: the arrival by the room in the input queue, a request by what `nextRequest` gives and `admitted` says. -/
theorem requestsQueueAndAreAdmitted : Obligations.RequestsQueueAndAreAdmitted := by
  refine fun s high => ⟨fun c cell dest src kind => ?_, fun kind i row => ?_, fun c => ⟨fun h => admitted_of_not_valid h c,
    fun h => admitted_iff h c⟩⟩
  · have wf : (Instr.managementCellArrival c).wf = true := by simpa [Instr.wf, cell, dest, kind] using src
    rw [exec_managementCellArrival high wf]
    exact ⟨fun room => congrArg _ (if_pos room), fun full => congrArg _ (if_neg (Nat.not_lt.2 full))⟩
  · obtain ⟨h, eq, -⟩ := exec_requestRow row
    have taken : exec i s = .next (request kind h s) := (eq s).trans (run_of_wf high rfl _)
    rw [taken]
    refine ⟨fun none => ?_, fun c oldest kindIs idle refused => ?_⟩
    · rw [request_of_none]
      refine Option.eq_none_iff_forall_not_mem.2 fun c mem => ?_
      obtain ⟨oldest, kindIs, idle⟩ := nextRequest_eq_some.1 mem
      exact (none c oldest).elim (· kindIs) (· idle)
    · rw [request_of_refused (nextRequest_eq_some.2 ⟨oldest, kindIs, idle⟩) refused]

end Sys2Proof.Machine
end

section
/-! DEVICE RESET (O51). -/

namespace Sys2Proof.Machine

/-- The device-reset values, block by block: the cold values but for the kept tables and what follows from them (R16, R34, R53, R109,
R127). -/
theorem deviceValues_eq (s : State) : deviceValues s = { State.cold s.pins s.draws s.pending with
    tables := s.tables.kept
    loop := { LoopIf.cold with nodeRecs := List.replicate (nodesOf s).length NodeRec.fresh }
    track := { TrackUnit.cold with
      recs := ((profileOf s).map fun p => freshTrack p.trackLen).getD [], positions := s.tables.node.state == .valid }
    feeders := { FeederMgr.cold with recs := presentFeeders s } } := by
  have profile : profileOf { State.cold s.pins s.draws s.pending with tables := s.tables.kept } = profileOf s := rfl
  unfold deviceValues
  simp only [profile]
  cases profileOf s <;> rfl

/-! The roll timer is none of the arbiter's (R20, R21). -/

theorem ownNext_rollTimer {l m : LoopIf} {c : Cell} (h : l.ownNext = some (c, m)) : m.rollTimer = l.rollTimer := by
  unfold LoopIf.ownNext at h
  split at h <;> simp only [Option.some.injEq, Prod.mk.injEq, reduceCtorEq] at h
  all_goals
    obtain ⟨-, rfl⟩ := h
    rfl

@[simp] theorem choose_rollTimer (l : LoopIf) : l.choose.rollTimer = l.rollTimer := by
  unfold LoopIf.choose
  split
  · rfl
  · rename_i own
    simpa using ownNext_rollTimer own
  · rfl
  · rename_i own
    split
    · rfl
    · simpa using ownNext_rollTimer own

@[simp] theorem start_rollTimer (l : LoopIf) : l.start.rollTimer = l.rollTimer := by
  unfold LoopIf.start
  split
  · exact choose_rollTimer l
  · rfl

@[simp] theorem placeNotice_rollTimer (cls : Nat) (data : List Byte) (l : LoopIf) (dest : Nat) :
    (LoopIf.placeNotice cls data l dest).rollTimer = l.rollTimer := by
  unfold LoopIf.placeNotice
  split
  · exact start_rollTimer _
  · rfl

@[simp] theorem notice_rollTimer (cls : Nat) (data : List Byte) (s : State) :
    (notice cls data s).loop.rollTimer = s.loop.rollTimer := by
  unfold notice
  split
  · exact foldl_keeps LoopIf.rollTimer _ (placeNotice_rollTimer cls data) _ _
  · rfl

@[simp] theorem takeRaising_rollTimer (k : LatchKind) (a b : Nat) (s : State) :
    (takeRaising k a b s).loop.rollTimer = s.loop.rollTimer := notice_rollTimer ..

/-- ESTOP raised in HALTED changes no line state (R161). -/
theorem raise_estop_of_halted {s : State} (h : s.line.state = .halted) (a b : Nat) :
    raise .estop a b s = takeRaising .estop a b s := by
  simp [raise, raiseFor, respond, respondEstop, h]

/-- ESTOP_N found low by a Pitch Unit and a Line Controller at their cold values: the outputs are off and the line is HALTED, so ESTOP
is raised and nothing else follows (R15, R161). -/
theorem estopFall_of_cold {s : State} (pitch : s.pitch = PitchUnit.cold) (line : s.line = LineCtl.cold) :
    estopFall s = takeRaising .estop 0 0 { s with pitch := { PitchUnit.cold with estopAsserted := true } } := by
  have outputs : updateDrive (putPitch { s.pitch with estopAsserted := true, releaseTimer := none } s) =
      { s with pitch := { PitchUnit.cold with estopAsserted := true } } := by
    obtain ⟨pins, _, loop, tables, acct, stage, track, feeders, presort, _, outcomes, draws, pending⟩ := s
    cases pitch
    cases line
    rfl
  have released : s.pitch.estopAsserted = false := by rw [pitch]; rfl
  rw [estopFall, if_neg (by simp [released]), outputs]
  exact raise_estop_of_halted (by rw [line]; rfl) 0 0

/-- A feeder's record when the node table has come into use (R110). -/
theorem vget_presentFeeders {k : Nat} (low : 1 ≤ k) (high : k ≤ 12) (s : State) : vget (presentFeeders s) (k - 1) =
    { state := if (nodeOf .insertFeeder k s).isSome then .ready else .none, misses := 0, timing := 0 } := by
  obtain ⟨j, rfl⟩ := Nat.exists_eq_add_of_le' low
  have place : j < 12 := by omega
  simp [vget, presentFeeders, place]

/-- The state a DEVICE RESET leaves before ESTOP_N is read: the device-reset values, with the roll timer running (R21, R33). -/
def deviceStarted (s : State) : State := startRollTimer (deviceValues s)

theorem exec_deviceResetEffect {s : State} (high : s.pins.resetN = true) (sent : s.loop.dispatcher.reset = .sent) :
    exec .deviceResetEffect s = .next (readEstop (deviceStarted s)) :=
  (run_of_wf high rfl _).trans (congrArg _ (if_pos sent))

theorem readEstop_deviceStarted_of_high {s : State} (h : s.pins.estopN = true) : readEstop (deviceStarted s) = deviceStarted s := by
  have pins : (deviceStarted s).pins = s.pins := by rw [deviceStarted, deviceValues_eq]; rfl
  rw [readEstop, pins, if_pos h]

theorem readEstop_deviceStarted_of_low {s : State} (h : s.pins.estopN = false) : readEstop (deviceStarted s) =
    takeRaising .estop 0 0 { deviceStarted s with pitch := { PitchUnit.cold with estopAsserted := true } } := by
  have pins : (deviceStarted s).pins = s.pins := by rw [deviceStarted, deviceValues_eq]; rfl
  rw [readEstop, pins, if_neg (by simp [h])]
  exact estopFall_of_cold (by rw [deviceStarted, deviceValues_eq]; rfl) (by rw [deviceStarted, deviceValues_eq]; rfl)

/-- Settles O51: the request by DRIVE_EN; its effect by the level of ESTOP_N, a low one being a raising on the device-reset values. -/
theorem deviceResetKeepsProfileAndNodes : Obligations.DeviceResetKeepsProfileAndNodes := by
  refine ⟨fun c s takes => ⟨fun on => ?_, fun off => ?_⟩, fun s high => ⟨fun waits => ?_, fun sent => ?_⟩⟩
  · have drive : (handed c s).pitch.driveEn = true := on
    simp only [exec, execDeviceReset, request_of_takes takes, deviceResetHandler, drive, if_true, replied]
  · have drive : (handed c s).pitch.driveEn = false := off
    have idle : (handed c s).loop.dispatcher = Dispatcher.idle := takes.idle
    simp only [exec, execDeviceReset, request_of_takes takes, deviceResetHandler, drive, Bool.false_eq_true, if_false, replied,
      putDispatcher, idle]
  · exact (run_of_wf high rfl _).trans (congrArg _ (if_neg waits))
  · refine ⟨_, exec_deviceResetEffect high sent, ?_⟩
    cases estop : s.pins.estopN with
    | true =>
      rw [readEstop_deviceStarted_of_high estop, deviceStarted, deviceValues_eq]
      refine ⟨rfl, rfl, rfl, rfl, rfl, rfl, rfl, ?_, rfl, rfl, rfl, fun k low high => vget_presentFeeders low high s,
        fun _ => ⟨rfl, rfl⟩, nofun⟩
      cases profileOf s <;> rfl
    | false =>
      rw [readEstop_deviceStarted_of_low estop, deviceStarted, deviceValues_eq]
      simp only [takeRaising_frame, takeRaising_state, takeRaising_rollTimer, latch_takeRaising]
      refine ⟨rfl, rfl, rfl, rfl, rfl, rfl, rfl, ?_, rfl, rfl, rfl, fun k low high => ?_, nofun, fun _ => ⟨rfl, rfl, rfl, rfl⟩⟩
      · cases profileOf s <;> rfl
      · simp only [feederRec, takeRaising_frame]
        exact vget_presentFeeders low high s

end Sys2Proof.Machine
end

section
/-! NOTICE MASK (O52). -/

namespace Sys2Proof.Machine

@[simp] theorem placeReplies_noticeMask (cells : List Cell) (l : LoopIf) : (placeReplies cells l).1.noticeMask = l.noticeMask := by
  induction cells generalizing l with
  | nil => rfl
  | cons c cells ih =>
    unfold placeReplies
    split
    · rw [ih]
      simp only [LoopIf_reply_keeps]
    · rfl

@[simp] theorem answer_noticeMask (c : Cell) (items : List Item) (s : State) :
    (answer c items s).loop.noticeMask = s.loop.noticeMask := placeReplies_noticeMask ..

/-- The bit map of five classes, class by class (R32). -/
theorem bitMap_classes (v : Vector Bool 5) : bitMap v.toList =
    (if vget v 0 then 1 else 0) + 2 * (if vget v 1 then 1 else 0) + 4 * (if vget v 2 then 1 else 0) +
      8 * (if vget v 3 then 1 else 0) + 16 * (if vget v 4 then 1 else 0) := by
  have classes : v.toList = [vget v 0, vget v 1, vget v 2, vget v 3, vget v 4] := by
    refine List.ext_getElem (by simp) fun i h _ => ?_
    have place : i < 5 := by simpa using h
    interval_cases i <;> simp [vget]
  rw [classes]
  simp only [bitMap, List.foldr_cons, List.foldr_nil]
  omega

theorem readEstop_noticeMask (s : State) : (readEstop s).loop.noticeMask = s.loop.noticeMask := by
  simp only [readEstop, estopFall]
  repeat' split
  all_goals simp

theorem clearRunHandler_noticeMask (c : Cell) (s : State) : (clearRunHandler c s).1.loop.noticeMask = s.loop.noticeMask := by
  simp only [clearRunHandler]
  split
  · simp [runClear, clearRest]
  · rfl

/-- Settles O52: the mask is the request's own, and of the other commands only the two resets give it a value. -/
theorem noticeMaskReplacesTheMask : Obligations.NoticeMaskReplacesTheMask := by
  refine ⟨fun c s takes => ?_, fun cls data s _ _ => ⟨fun off => ?_, fun on => ?_⟩, fun s => ⟨_, rfl, rfl⟩, fun s high sent => ?_,
    fun c s takes => ?_⟩
  · have mask : (handed c s).loop.noticeMask = s.loop.noticeMask := rfl
    simp only [exec, execNoticeMask, request_of_takes takes, noticeMaskHandler, mask, bitMap_classes, beBytes_one, replied]
  · simp [notice, off]
  · simp [notice, on]
  · refine ⟨_, exec_deviceResetEffect high sent, ?_⟩
    rw [readEstop_noticeMask, deviceStarted, deviceValues_eq]
    rfl
  · refine ⟨_, request_of_takes takes clearRunHandler, ?_⟩
    rw [answer_noticeMask, clearRunHandler_noticeMask]
    rfl

end Sys2Proof.Machine
end

section
/-! Cells that no block takes (O24). -/

namespace Sys2Proof.Machine

theorem exec_crcErrorDiscard {c : Cell} {crc : Word16} {s : State} (high : s.pins.resetN = true) (wf : c.wf = true) :
    exec (.crcErrorDiscard c crc) s = .next (crcDiscard c crc s) := run_of_wf high wf _

theorem exec_forwardedCell {c : Cell} {s : State} (high : s.pins.resetN = true) (wf : c.wf = true) (elsewhere : c.dest ≠ 0) :
    exec (.forwardedCell c) s = .next (forwardCell c s) :=
  run_of_wf high (by simpa [Instr.wf, wf] using elsewhere) _

theorem forwardCell_of_own {c : Cell} (own : c.src = 0) (s : State) : forwardCell c s = bumpLoop 4 s := if_pos own

/-- A cell for another node that is not the part's own: an orphan when it has passed before, else forwarded or a forward overrun
(R18). -/
theorem forwardCell_of_passed {c : Cell} (notOwn : c.src ≠ 0) (passed : passedFlag c = true) (s : State) :
    forwardCell c s = bumpRun 13 (bumpLoop 2 s) := (if_neg notOwn).trans (if_pos passed)

theorem forwardCell_of_new {c : Cell} (notOwn : c.src ≠ 0) (new : passedFlag c = false) (s : State) : forwardCell c s =
    if s.loop.forward.length < Config.forwardCapacity then
      putLoop (LoopIf.start { s.loop with forward := s.loop.forward ++ [setPassed c] }) s
    else bumpLoop 3 s := (if_neg notOwn).trans (if_neg (by simp [new]))

theorem exec_unknownKindCell {src kind : Byte} {s : State} (high : s.pins.resetN = true)
    (wf : (Instr.unknownKindCell src kind).wf = true) : exec (.unknownKindCell src kind) s = .next (unknownCell src s) :=
  run_of_wf high wf _

/-- Settles O24: a cell by its check word, a cell for another node by its source, its passed flag and the room, any other by its
source. -/
theorem cellsNobodyTakesAreCounted : Obligations.CellsNobodyTakesAreCounted := by
  refine fun s high => ⟨fun c crc cell bad => ?_, fun c cell dest own => ?_, fun c cell dest src passed => ?_,
    fun c cell dest src new room => ?_, fun c cell dest src new full => ?_, fun kind code => ?_, fun src kind source mgmt station => ?_⟩
  · rw [exec_crcErrorDiscard high cell, crcDiscard, if_neg bad]
  · rw [exec_forwardedCell high cell dest, forwardCell_of_own own]
  · rw [exec_forwardedCell high cell dest, forwardCell_of_passed src passed]
  · rw [exec_forwardedCell high cell dest, forwardCell_of_new src new]
    exact congrArg _ (if_pos room)
  · rw [exec_forwardedCell high cell dest, forwardCell_of_new src new]
    exact congrArg _ (if_neg (Nat.not_lt.2 full))
  · exact (exec_unknownKindCell high (by simpa [Instr.wf] using code)).trans (congrArg _ (if_pos rfl))
  · have notOwn : ¬src = 0#8 := source
    exact (exec_unknownKindCell high (by simp [Instr.wf, notOwn, mgmt, station])).trans (congrArg _ (if_neg source))

end Sys2Proof.Machine
end

section
/-! Station reports that answer nothing, and the confirmation of a release (O27). -/

namespace Sys2Proof.Machine

/-- A station report that is not handed on: the part's own, or refused by the node table (R19). -/
theorem report_of_own (kind : Nat) (f : NodeEntry → Role → State → State) (s : State) : report kind 0 f s = bumpLoop 4 s := if_pos rfl

theorem report_of_refused {kind : Nat} {src : Byte} {s : State} (address : src ≠ 0) (refused : acceptReport kind src s = none)
    (f : NodeEntry → Role → State → State) : report kind src f s = bumpLoop 6 s := by
  rw [report, if_neg address, refused]

/-- A report that is not handed on is counted, whatever its handling would be (R19). -/
theorem exec_report_counted {kind : Nat} {src : Byte} {i : Instr} {s : State} {f : NodeEntry → Role → State → State}
    (eq : exec i s = .next (report kind src f s)) :
    (src = 0 → exec i s = .next (bumpLoop 4 s)) ∧ (src ≠ 0 → acceptReport kind src s = none → exec i s = .next (bumpLoop 6 s)) := by
  refine ⟨?_, fun address refused => ?_⟩
  · rintro rfl
    rw [eq, report_of_own]
  · rw [eq, report_of_refused address refused]

theorem nodesOf_of_not_valid {s : State} (h : s.tables.node.state ≠ .valid) : nodesOf s = [] := by
  rw [nodesOf, contents, if_neg h, List.map_nil]

theorem acceptReport_of_not_valid {s : State} (h : s.tables.node.state ≠ .valid) (kind : Nat) (src : Byte) :
    acceptReport kind src s = none := by
  rw [acceptReport, nodeAt, nodesOf_of_not_valid h]
  rfl

/-- A DONE answers nothing when the Track Unit has no positions, or the record at its station's position awaits nothing or holds another
pocket (R92, R95). -/
theorem doneMatches_eq_none {n : NodeEntry} {role : Role} {pocket subtype bin : Nat} {s : State}
    (h : s.track.positions = false ∨ ∀ p, s.track.recs[n.position]? = some p → p.awaited = none ∨ p.pocket ≠ some pocket) :
    (recordAt n s).bind (doneMatches n role pocket subtype bin) = none := by
  rw [Option.bind_eq_none_iff]
  intro p here
  rcases h with none | nothing
  · simp [recordAt, none] at here
  · have stands : s.track.recs[n.position]? = some p := by
      rw [recordAt] at here
      split at here
      · exact here
      · cases here
    rw [doneMatches]
    rcases nothing p stands with idle | other
    · rw [idle]
    · split
      · rw [if_neg fun answers => other answers.2.2.1]
      · rfl

theorem doneReport_of_release (pocket result thickness bin : Nat) (n : NodeEntry) (s : State) :
    doneReport pocket 2 result thickness bin n .sheetStation s = releaseDone pocket s := if_pos ⟨rfl, rfl⟩

theorem exec_done {src pocket subtype result bin : Byte} {thickness : Word16} {n : NodeEntry} {r : Role} {s : State}
    (h : Reports 0x11 src n r s) : exec (.done src pocket subtype result thickness bin) s =
      .next (doneReport pocket.toNat subtype.toNat result.toNat thickness.toNat bin.toNat n r s) := report_of_reports h _

/-- A report code that no other row has (R139). -/
theorem wf_unknownBinReport {code : Byte} (h : ¬(1 ≤ code.toNat ∧ code.toNat ≤ 3)) (src bin : Byte) :
    (Instr.unknownBinReport src code bin).wf = true := by
  simp only [Instr.wf, Bool.not_eq_true', Bool.and_eq_false_iff, decide_eq_false_iff_not]
  exact not_and_or.1 h

/-- Settles O27: a report by whether it is handed on, and a DONE by what it answers. -/
theorem reportsThatAnswerNothing : Obligations.ReportsThatAnswerNothing := by
  refine ⟨fun src s high => ⟨fun _ _ _ _ _ _ => ?_, fun _ _ _ _ _ => ?_, fun _ _ _ => ?_, fun _ _ => ?_, fun bin => ⟨?_, ?_, ?_,
    fun code other => ?_⟩, fun invalid kind => acceptReport_of_not_valid invalid kind src⟩,
    fun src pocket subtype result bin thickness n r s reports => ⟨fun notRelease nothing => ?_, ?_, ?_⟩⟩
  · exact exec_report_counted (run_of_wf high rfl _)
  · exact exec_report_counted (run_of_wf high rfl _)
  · exact exec_report_counted (run_of_wf high rfl _)
  · exact exec_report_counted (run_of_wf high rfl _)
  · exact exec_report_counted (run_of_wf high rfl _)
  · exact exec_report_counted (run_of_wf high rfl _)
  · exact exec_report_counted (run_of_wf high rfl _)
  · exact exec_report_counted (run_of_wf high (wf_unknownBinReport other src bin) _)
  · rw [exec_done reports, doneReport, if_neg notRelease, trackDone, doneMatches_eq_none nothing]
  · rintro rfl release awaited
    rw [exec_done reports, release, doneReport_of_release, releaseDone, if_pos awaited]
    rfl
  · rintro rfl release other
    rw [exec_done reports, release, doneReport_of_release, releaseDone, if_neg other]

end Sys2Proof.Machine
end

section
/-! Cells join their queues and leave in turn (O26). -/

namespace Sys2Proof.Machine

/-! ### The arbiter (R20) -/

theorem ownNext_of_roll {l : LoopIf} {c : Cell} (roll : l.rollSlot = some c) : l.ownNext = some (c, { l with rollSlot := none }) := by
  simp only [LoopIf.ownNext, roll]

theorem ownNext_of_order {l : LoopIf} {c : Cell} {cs : List Cell} (roll : l.rollSlot = none) (orders : l.orders = c :: cs) :
    l.ownNext = some (c, { l with orders := cs }) := by
  simp only [LoopIf.ownNext, roll, orders]

theorem ownNext_of_reply {l : LoopIf} {c : Cell} {cs : List Cell} (roll : l.rollSlot = none) (orders : l.orders = [])
    (replies : l.replies = c :: cs) : l.ownNext = some (c, { l with replies := cs }) := by
  simp only [LoopIf.ownNext, roll, orders, replies]

theorem ownNext_of_notice {l : LoopIf} {c : Cell} {cs : List Cell} (roll : l.rollSlot = none) (orders : l.orders = [])
    (replies : l.replies = []) (notices : l.notices = c :: cs) : l.ownNext = some (c, { l with notices := cs }) := by
  simp only [LoopIf.ownNext, roll, orders, replies, notices]

/-- A cell of the part's own waits for sending (R20). -/
def ownWaits (l : LoopIf) : Prop := l.rollSlot.isSome ∨ l.orders ≠ [] ∨ l.replies ≠ [] ∨ l.notices ≠ []

theorem ownNext_of_none {l : LoopIf} (h : ¬ownWaits l) : l.ownNext = none := by
  obtain ⟨roll, orders, replies, notices⟩ : l.rollSlot = none ∧ l.orders = [] ∧ l.replies = [] ∧ l.notices = [] := by
    simpa [ownWaits] using h
  simp only [LoopIf.ownNext, roll, orders, replies, notices]

/-- With none waiting LOOP_OUT idles (R20). -/
theorem choose_of_none {l : LoopIf} (own : l.ownNext = none) (forward : l.forward = []) : l.choose = { l with wire := none } := by
  simp only [LoopIf.choose, forward, own]

/-- A forwarded cell is sent when none of the part's own waits, or the last one sent was (R20). -/
theorem choose_of_forward {l : LoopIf} {c : Cell} {cs : List Cell} (forward : l.forward = c :: cs)
    (turn : l.ownNext = none ∨ l.lastSide = some .own) : l.choose = { l with forward := cs, wire := some (c, .forwarded) } := by
  cases own : l.ownNext with
  | none => simp only [LoopIf.choose, forward, own]
  | some next =>
    have last : l.lastSide = some .own := turn.resolve_left (by simp [own])
    simp only [LoopIf.choose, forward, own, last, if_true]

/-- The part's own next cell is sent when no forwarded one waits, or the last one sent was not the part's own (R20, log 12). -/
theorem choose_of_own {l m : LoopIf} {c : Cell} (own : l.ownNext = some (c, m)) (turn : l.forward = [] ∨ l.lastSide ≠ some .own) :
    l.choose = { m with wire := some (c, .own) } := by
  cases forward : l.forward with
  | nil => simp only [LoopIf.choose, forward, own]
  | cons f fs =>
    have last : l.lastSide ≠ some .own := turn.resolve_left (by simp [forward])
    simp only [LoopIf.choose, forward, own, last, if_false]

/-! The dispatcher is none of the arbiter's. -/

theorem ownNext_dispatcher (l : LoopIf) (d : Dispatcher) :
    LoopIf.ownNext { l with dispatcher := d } = l.ownNext.map fun p => (p.1, { p.2 with dispatcher := d }) := by
  simp only [LoopIf.ownNext]
  split <;> simp_all

theorem choose_dispatcher (l : LoopIf) (d : Dispatcher) :
    LoopIf.choose { l with dispatcher := d } = { l.choose with dispatcher := d } := by
  simp only [LoopIf.choose, ownNext_dispatcher]
  cases l.forward <;> cases l.ownNext <;> try rfl
  simp only [Option.map_some]
  split <;> rfl

theorem start_dispatcher (l : LoopIf) (d : Dispatcher) :
    LoopIf.start { l with dispatcher := d } = { l.start with dispatcher := d } := by
  simp only [LoopIf.start]
  split
  · exact choose_dispatcher l d
  · rfl

/-! ### Notices (R31) -/

theorem placeNotice_of_room {l : LoopIf} (room : l.notices.length < 16) (cls : Nat) (data : List Byte) (dest : Nat) :
    LoopIf.placeNotice cls data l dest = LoopIf.start { l with
      notices := l.notices ++ [ownCell dest 0x51 0 (beBytes 1 cls ++ beBytes 1 l.dropped ++ data)], dropped := 0 } := if_pos room

theorem placeNotice_of_full {l : LoopIf} (full : 16 ≤ l.notices.length) (cls : Nat) (data : List Byte) (dest : Nat) :
    LoopIf.placeNotice cls data l dest = { l with
      counters := vmod l.counters 8 (satInc 4294967295), dropped := satInc 255 l.dropped } := if_neg (Nat.not_lt.2 full)

theorem vget_vmod {α : Type} [Inhabited α] {n : Nat} (v : Vector α n) (i j : Nat) (f : α → α) (h : j < n) :
    vget (vmod v i f) j = if i = j then f (vget v i) else vget v j := vget_vset v i j _ h

/-! ### Replies (R25, R27) -/

/-- The REPLY of an answer of one: to the request's source with its tag, the result code with the last-item flag, and the data (R27). -/
theorem replyCell_last (c : Cell) (code : ResultCode) (data : List Byte) : replyCell c.src.toNat c.tag true (code, data) =
    { dest := c.src, src := 0, kind := 0x50, tag := c.tag
      payload := BitVec.ofNat 8 (resultNumber code + 128) :: padTo 13 data } := by
  have payload : padTo 14 (BitVec.ofNat 8 (resultNumber code + 128) :: padTo 13 data) =
      BitVec.ofNat 8 (resultNumber code + 128) :: padTo 13 data := padTo_of_length (by simp [padTo])
  simp only [replyCell, ownCell, if_true, payload, BitVec.ofNat_toNat, BitVec.setWidth_eq]
  rfl

theorem reply_dispatcher (c : Cell) (l : LoopIf) : (l.reply c).dispatcher = l.dispatcher := by simp only [LoopIf_reply_keeps]

/-- A REPLY that finds room joins the reply queue; nothing waits at the dispatcher then or before (R25). -/
theorem replied_of_room {s : State} (waiting : s.loop.dispatcher.waiting = []) (room : s.loop.replies.length < 8) (c : Cell)
    (code : ResultCode) (data : List Byte) :
    replied c code data s = { s with loop := s.loop.reply (replyCell c.src.toNat c.tag true (code, data)) } := by
  have placed : placeReplies (replyCells c.src.toNat c.tag (one code data)) s.loop =
      (s.loop.reply (replyCell c.src.toNat c.tag true (code, data)), []) := if_pos room
  have kept : (s.loop.reply (replyCell c.src.toNat c.tag true (code, data))).dispatcher = s.loop.dispatcher := reply_dispatcher ..
  have same : { s.loop.dispatcher with waiting := [] } = s.loop.dispatcher := by rw [← waiting]
  simp only [replied, answer, placed, kept, same]
  rw [← kept]

/-- A REPLY that finds no room waits at the dispatcher (R25). -/
theorem replied_of_full {s : State} (full : 8 ≤ s.loop.replies.length) (c : Cell) (code : ResultCode) (data : List Byte) :
    replied c code data s = { s with loop := { s.loop with dispatcher := { s.loop.dispatcher with
      waiting := [replyCell c.src.toNat c.tag true (code, data)] } } } := by
  have placed : placeReplies (replyCells c.src.toNat c.tag (one code data)) s.loop =
      (s.loop, [replyCell c.src.toNat c.tag true (code, data)]) := if_neg (Nat.not_lt.2 full)
  simp only [replied, answer, placed]

theorem exec_replyPlace {s : State} (high : s.pins.resetN = true) : exec .replyPlace s = .next (replyPlace s) := run_of_wf high rfl _

/-- The next waiting REPLY joins the reply queue, once there is room (R25). -/
theorem replyPlace_of_waiting {s : State} {c : Cell} {rest : List Cell} (waiting : s.loop.dispatcher.waiting = c :: rest)
    (room : s.loop.replies.length < 8) : replyPlace s = { s with
      loop := LoopIf.start { s.loop with
        replies := s.loop.replies ++ [c], dispatcher := { s.loop.dispatcher with waiting := rest } } } := by
  have kept : (s.loop.reply c).dispatcher = s.loop.dispatcher := reply_dispatcher ..
  rw [start_dispatcher { s.loop with replies := s.loop.replies ++ [c] }]
  simp only [replyPlace, Config.replyCapacity, room, if_true, waiting, placeWaiting, putDispatcher, kept]
  rfl

theorem replyPlace_of_none {s : State}
    (h : 8 ≤ s.loop.replies.length ∨ s.loop.dispatcher.waiting = [] ∧ s.loop.dispatcher.fetch = none) : replyPlace s = s := by
  rcases h with full | ⟨waiting, fetch⟩
  · exact if_neg (Nat.not_lt.2 full)
  · simp only [replyPlace, waiting, fetch, ite_self]

/-! ### The cell sent (R20, R33) -/

theorem exec_cellSent {s : State} (high : s.pins.resetN = true) : exec .cellSent s = .next { s with loop := s.loop.sent } :=
  run_of_wf high rfl _

theorem sent_of_idle {l : LoopIf} (idle : l.wire = none) : l.sent = l := by simp only [LoopIf.sent, idle]

/-- A cell sent is followed by the arbiter's next, while no DEVICE RESET waits for its REPLY to go out (R20). -/
theorem sent_of_wire {l : LoopIf} {c : Cell} {side : Side} (wire : l.wire = some (c, side)) (reset : l.dispatcher.reset ≠ .accepted) :
    l.sent = LoopIf.choose { l with lastSide := some side } := by
  simp [LoopIf.sent, wire, resetSent, reset]

/-- The REPLY that accepted a DEVICE RESET lets it take effect once it has been sent (R33). -/
theorem sent_of_reset {l : LoopIf} {c : Cell} (wire : l.wire = some (c, .own)) (kind : kindCode c.kind = 0x50)
    (reset : l.dispatcher.reset = .accepted) (replies : l.replies = []) (waiting : l.dispatcher.waiting = []) :
    l.sent.dispatcher.reset = .sent := by
  have mine : resetSent c .own l = true := by simp [resetSent, kind, reset, replies, waiting]
  simp only [LoopIf.sent, wire, mine, if_true, LoopIf_choose_keeps]

/-- The own side is next when no forwarded cell waits, or the cell just sent was a forwarded one (R20). -/
theorem choose_of_own_after {l m : LoopIf} {c : Cell} {side : Side} (turn : l.forward = [] ∨ side = .forwarded)
    (own : LoopIf.ownNext { l with lastSide := some side } = some (c, m)) :
    LoopIf.choose { l with lastSide := some side } = { m with wire := some (c, .own) } :=
  choose_of_own own (turn.imp_right fun last => by simp [last])

/-- Settles O26: each queue by the room it has, and the arbiter by what waits and the side of the cell just sent. -/
theorem cellsJoinTheirQueuesAndLeaveInTurn : Obligations.CellsJoinTheirQueuesAndLeaveInTurn := by
  refine ⟨fun cls data dest l => ⟨fun room => placeNotice_of_room room cls data dest, fun full =>
    ⟨_, placeNotice_of_full full cls data dest, fun i low => ?_, ?_⟩⟩, fun s high => ⟨fun c code data waiting =>
    ⟨fun room => ?_, fun full => ?_⟩, fun c rest waiting room => ?_, fun h => ?_⟩, fun s high => ⟨fun idle => ?_,
    fun x side wire reset => ?_, fun x wire kind reset replies waiting => ?_⟩⟩
  · rw [vget_vmod _ _ _ _ (by omega), if_neg (by omega)]
  · rw [vget_vmod _ _ _ _ (by omega), if_pos rfl]
    rfl
  · rw [replied_of_room waiting room, replyCell_last]
    rfl
  · rw [replied_of_full full, replyCell_last]
  · rw [exec_replyPlace high, replyPlace_of_waiting waiting room]
  · rw [exec_replyPlace high, replyPlace_of_none h]
  · rw [exec_cellSent high, sent_of_idle idle]
  · have goes {l : LoopIf} (next : LoopIf.choose { s.loop with lastSide := some side } = l) :
        exec .cellSent s = .next { s with loop := l } := by rw [exec_cellSent high, sent_of_wire wire reset, next]
    refine ⟨fun none forward => ?_, fun f fs forward turn => ?_, fun turn => ⟨fun o roll => ?_, fun o os roll orders => ?_,
      fun o os roll orders replies => ?_, fun o os roll orders replies notices => ?_⟩⟩
    · exact goes (choose_of_none (ownNext_of_none none) forward)
    · exact goes (choose_of_forward forward (turn.imp ownNext_of_none (congrArg some)))
    · exact goes (choose_of_own_after turn (ownNext_of_roll roll))
    · exact goes (choose_of_own_after turn (ownNext_of_order roll orders))
    · exact goes (choose_of_own_after turn (ownNext_of_reply roll orders replies))
    · exact goes (choose_of_own_after turn (ownNext_of_notice roll orders replies notices))
  · exact ⟨_, exec_cellSent high, sent_of_reset wire kind reset replies waiting⟩

end Sys2Proof.Machine
end

section
/-! The roll timer makes a roll due (O23). -/

namespace Sys2Proof.Machine

/-- A recovery kind takes a drive state to RECOVERY and leaves any other (R155). -/
theorem raise_recoveryKind_state {k : LatchKind} (h : recoveryKind k = true) (a b : Nat) (s : State) :
    (raise k a b s).line.state = if driveState s.line.state = true then .recovery else s.line.state := by
  rw [raise_recoveryKind h]
  split
  · exact (enterRecovery_line _ _).1
  · exact takeRaising_state ..

/-- The ROLL of a serial, byte by byte: bit 0 of its mask set (R21). -/
theorem rollCell_eq (serial : Nat) : rollCell serial = {
    dest := 0, src := 0, kind := 0x21, tag := 0
    payload := [BitVec.ofNat 8 serial, 0, 0, 0, 0, 0, 0, 0, 1, 0, 0, 0, 0, 0] } := by
  rw [rollCell, beBytes_one]
  rfl

/-- The judging of the roll before: one that returned sets the misses to 0 (R22). -/
theorem judgeRoll_of_returned {s : State} (returned : s.loop.returned = true) :
    judgeRoll s = putLoop { s.loop with misses := 0 } s := if_pos returned

/-- One that did not return adds a miss; RING BREAK is not raised at the first miss, or while it is up (R22). -/
theorem judgeRoll_of_missed {s : State} (missed : s.loop.returned = false)
    (noBreak : ¬(satInc 2 s.loop.misses = 2 ∧ s.loop.ringBreakUp = false)) :
    judgeRoll s = putLoop { s.loop with misses := satInc 2 s.loop.misses } s :=
  (if_neg (by simp [missed])).trans (if_neg noBreak)

/-- The second miss raises RING BREAK (R22). -/
theorem judgeRoll_of_break {s : State} (missed : s.loop.returned = false) (misses : s.loop.misses = 1)
    (down : s.loop.ringBreakUp = false) :
    judgeRoll s = raise .ringBreak 0 0 (putLoop { s.loop with misses := 2, ringBreakUp := true } s) := by
  simp [judgeRoll, missed, misses, down, satInc]

/-- A roll becomes due with RING BREAK left as it is: the misses as judged, and the new ROLL in the roll slot with the next serial
(R21, R22). -/
theorem rollDue_of_misses {s : State} {n : Nat} (judged : judgeRoll s = putLoop { s.loop with misses := n } s) :
    rollDue s = { s with loop := LoopIf.start { s.loop with
      misses := n, rollSerial := (s.loop.rollSerial + 1) % 256, returned := false
      rollSlot := some {
        dest := 0, src := 0, kind := 0x21, tag := 0
        payload := [BitVec.ofNat 8 ((s.loop.rollSerial + 1) % 256), 0, 0, 0, 0, 0, 0, 0, 1, 0, 0, 0, 0, 0] } } } := by
  rw [rollDue, judged, ← rollCell_eq]
  rfl

/-- The new ROLL leaves the misses and RING BREAK as judged (R21). -/
theorem makeRoll_roll (l : LoopIf) : (makeRoll l).misses = l.misses ∧ (makeRoll l).ringBreakUp = l.ringBreakUp ∧
    (makeRoll l).rollSerial = (l.rollSerial + 1) % 256 ∧ (makeRoll l).returned = false := by simp [makeRoll]

/-- The roll timer, run for `k`, has ended and started again (R21, log 5). -/
def rollTimerEnded (k : Nat) (s : State) : State :=
  putLoop { (elapse (Config.rollTime - k) s).loop with rollTimer := some 0 } (elapse (Config.rollTime - k) s)

theorem exec_rollTimerExpiry {s : State} {k : Nat} (high : s.pins.resetN = true) (running : s.loop.rollTimer = some k) :
    exec .rollTimerExpiry s = .next (rollDue (rollTimerEnded k s)) := by
  refine (run_of_wf high rfl _).trans (congrArg _ ?_)
  simp only [rollTimerEnd, running]
  rfl

/-- Settles O23: the roll before is judged by `judgeRoll` in one of its three ways, then `makeRoll` sends the new one. -/
theorem rollTimerMakesARollDue : Obligations.RollTimerMakesARollDue := by
  refine fun s high => ⟨fun stopped => ?_, fun k running => ?_⟩
  · refine (run_of_wf high rfl _).trans (congrArg _ ?_)
    simp only [rollTimerEnd, stopped]
  · rw [exec_rollTimerExpiry high running]
    let u := rollTimerEnded k s
    refine ⟨fun returned => ?_, fun missed first => ?_, fun missed low top up => ?_, fun missed one down => ?_⟩
    · exact congrArg _ (rollDue_of_misses (judgeRoll_of_returned (s := u) returned))
    · have misses : satInc 2 u.loop.misses = 1 := (congrArg (satInc 2) first).trans rfl
      have judged := judgeRoll_of_missed (s := u) missed (by simp [misses])
      exact congrArg _ (rollDue_of_misses (misses ▸ judged))
    · have misses : satInc 2 u.loop.misses = 2 := by
        have range : 1 ≤ u.loop.misses ∧ u.loop.misses ≤ 2 := ⟨low, top⟩
        simp only [satInc]
        split <;> omega
      have judged := judgeRoll_of_missed (s := u) missed fun raises => by
        rw [show u.loop.ringBreakUp = true from up] at raises
        exact absurd raises.2 nofun
      exact congrArg _ (rollDue_of_misses (misses ▸ judged))
    · let broken := putLoop { u.loop with misses := 2, ringBreakUp := true } u
      have due : rollDue u = putLoop (makeRoll (raise .ringBreak 0 0 broken).loop) (raise .ringBreak 0 0 broken) := by
        rw [rollDue, judgeRoll_of_break (s := u) missed one down]
      have raised : latch .ringBreak (raise .ringBreak 0 0 broken) = (latch .ringBreak s).raised 0 0 :=
        (latch_raise _ _ _ (by decide) (by decide)).trans (if_pos rfl)
      refine ⟨_, congrArg _ due, ?_⟩
      simp only [putLoop_loop, putLoop_tables, putLoop_acct, putLoop_outcomes, putLoop_line, makeRoll_roll, raise_frame,
        raise_recoveryKind_state (k := .ringBreak) rfl]
      exact ⟨rfl, rfl, rfl, trivial, raised, rfl, rfl, rfl, rfl⟩

end Sys2Proof.Machine
end

section
/-! A ROLL that returns judges the nodes (O25): what one judging does, and what the presence check keeps. -/

namespace Sys2Proof.Machine

/-! ### The latch of NODE LOST -/

/-- A feeder's change of state reaches FEEDER FAULT, ESSENTIAL LOST and, by the line's move, the two timing latches only (R115,
R122). -/
theorem latch_feederBecomes {j : LatchKind} (fault : j ≠ .feederFault) (essential : j ≠ .essentialLost) (rate : j ≠ .driveRate)
    (timing : j ≠ .stationTiming) (k : Nat) (st : FeederState) (s : State) : latch j (feederBecomes k st s) = latch j s := by
  have pairs : ∀ u : State, latch j (evalPairs u) = latch j u := fun u => by
    simp only [evalPairs]
    repeat' split
    · rw [latch_raise _ _ _ rate timing, if_neg essential]; rfl
    · rfl
    · rw [latch_lower_of_ne _ essential]; rfl
  have present : ∀ u : State, latch j (evalFault u) = latch j u := fun u => by
    simp only [evalFault]
    split
    · rfl
    · exact latch_lower_of_ne _ fault
  simp only [feederBecomes, pairs, present]
  split
  · rw [latch_raise _ _ _ rate timing, if_neg fault]; rfl
  · rfl

/-! ### The recovery of a line in WAIT -/

/-- A recovery in WAIT, or one that has ended in LOCKOUT (R158, R160). -/
def WaitsOrLocked (s : State) : Prop := s.line.state = .recovery ∧ s.line.phase = .wait ∨ s.line.state = .lockout

theorem WaitsOrLocked.of_line {s t : State} (h : WaitsOrLocked s) (state : t.line.state = s.line.state)
    (phase : t.line.phase = s.line.phase) : WaitsOrLocked t := by
  simp only [WaitsOrLocked, state, phase]
  exact h

theorem WaitsOrLocked.not_drive {s : State} (h : WaitsOrLocked s) : driveState s.line.state = false := by
  rcases h with ⟨state, _⟩ | state <;> rw [state] <;> rfl

theorem lower_phase (k : LatchKind) (s : State) : (lower k s).line.phase = s.line.phase := by simp only [lower_line]

theorem lower_waitsOrLocked (k : LatchKind) {s : State} (h : WaitsOrLocked s) : WaitsOrLocked (lower k s) :=
  h.of_line (lower_state s k) (lower_phase k s)

theorem takeRaising_waitsOrLocked (k : LatchKind) (a b : Nat) {s : State} (h : WaitsOrLocked s) :
    WaitsOrLocked (takeRaising k a b s) := h.of_line (by simp) (by simp [takeRaising, putLatch])

theorem respondEssential_waitsOrLocked {s : State} (h : WaitsOrLocked s) : WaitsOrLocked (respondEssential s) := by
  rcases h with ⟨state, phase⟩ | state <;> simp only [respondEssential, state]
  · split
    · exact .inl ⟨state, phase⟩
    · exact .inr (by simp)
  · exact .inr state

/-- Raising NODE LOST, FEEDER FAULT or ESSENTIAL LOST moves a recovery to LOCKOUT or nowhere (R155, R160). -/
theorem raiseFor_waitsOrLocked {k : LatchKind} (kind : k = .nodeLost ∨ k = .feederFault ∨ k = .essentialLost) (r : Option Role)
    (a b : Nat) {s : State} (h : WaitsOrLocked s) : WaitsOrLocked (raiseFor r k a b s) := by
  have taken := takeRaising_waitsOrLocked k a b h
  have still (c : Nat) : respondRecovery c (takeRaising k a b s) = takeRaising k a b s :=
    if_neg (by rw [taken.not_drive]; nofun)
  rcases kind with rfl | rfl | rfl
  · show WaitsOrLocked (if _ then respondRecovery _ _ else _)
    rw [still, ite_self]
    exact taken
  · exact taken
  · exact respondEssential_waitsOrLocked taken

theorem evalFault_waitsOrLocked {s : State} (h : WaitsOrLocked s) : WaitsOrLocked (evalFault s) := by
  simp only [evalFault]
  split
  · exact h
  · exact lower_waitsOrLocked _ h

theorem evalPairs_waitsOrLocked {s : State} (h : WaitsOrLocked s) : WaitsOrLocked (evalPairs s) := by
  simp only [evalPairs]
  repeat' split
  · exact raiseFor_waitsOrLocked (.inr (.inr rfl)) none _ _ (h.of_line rfl rfl)
  · exact h.of_line rfl rfl
  · exact lower_waitsOrLocked _ (h.of_line rfl rfl)

theorem feederBecomes_waitsOrLocked (k : Nat) (st : FeederState) {s : State} (h : WaitsOrLocked s) :
    WaitsOrLocked (feederBecomes k st s) := by
  simp only [feederBecomes]
  refine evalPairs_waitsOrLocked (evalFault_waitsOrLocked ?_)
  split
  · exact raiseFor_waitsOrLocked (.inr (.inl rfl)) none _ _ (h.of_line rfl rfl)
  · exact h.of_line rfl rfl

/-! ### One judging, case by case (R23) -/

section Judge

variable {i : Nat} {n : NodeEntry} {r : NodeRec} {s : State}

/-- A node seen that was not lost: its absent count returns to 0. -/
theorem judgeNode_of_present (rec : s.loop.nodeRecs[i]? = some r) (present : r.lost = false) :
    judgeNode i n true s = putNodeRec i { r with absent := 0 } s := by
  obtain ⟨a, l, st⟩ := r
  obtain rfl : l = false := present
  simp [judgeNode, rec]

/-- A lost node seen again. -/
theorem judgeNode_of_back (rec : s.loop.nodeRecs[i]? = some r) (lost : r.lost = true) :
    judgeNode i n true s = nodeSeen n (putNodeRec i { r with absent := 0, lost := false } s) := by
  simp [judgeNode, rec, lost]

/-- A node not seen that does not become lost by it. -/
theorem judgeNode_of_absent (rec : s.loop.nodeRecs[i]? = some r) (stays : ¬(satInc 3 r.absent = 3 ∧ r.lost = false)) :
    judgeNode i n false s = putNodeRec i { r with absent := satInc 3 r.absent } s := by
  simp only [judgeNode, rec, Bool.false_eq_true, if_false, if_neg stays]

/-- A node not seen that becomes lost. -/
theorem judgeNode_of_gone (rec : s.loop.nodeRecs[i]? = some r) (third : satInc 3 r.absent = 3) (present : r.lost = false) :
    judgeNode i n false s = nodeGone n (putNodeRec i { absent := 3, lost := true, status := none } s) := by
  simp [judgeNode, rec, third, present]

end Judge

/-- A lost node seen again: NODE LOST is lowered when no other node is lost (R23). -/
theorem nodeSeen_eq (n : NodeEntry) (s : State) : nodeSeen n s =
    let left := stationSeen n s
    let told := if n.role = some .insertFeeder ∧ (feederRec n.feeder s).state = .lost then feederBecomes n.feeder .faulted left
      else left
    if s.loop.nodeRecs.any (·.lost) then told else lower .nodeLost told := by
  have same : feederRec n.feeder (stationSeen n s) = feederRec n.feeder s := rfl
  by_cases role : n.role = some .insertFeeder <;> by_cases lost : (feederRec n.feeder s).state = .lost <;>
    simp [nodeSeen, feederNodeSeen, role, lost, same] <;> rfl

/-- A node that becomes lost joins the station-loss set if its role is a station's (R156). -/
def lossJoined (n : NodeEntry) (s : State) : State :=
  if (n.role.map stationRole).getD false then
    { s with line := { s.line with stationLoss := s.line.stationLoss ++ [n.addr] } }
  else s

theorem lossJoined_frame (n : NodeEntry) (s : State) : (lossJoined n s).feeders = s.feeders ∧
    (lossJoined n s).line.latches = s.line.latches ∧ (lossJoined n s).line.state = s.line.state ∧
    (lossJoined n s).line.phase = s.line.phase ∧ (lossJoined n s).loop = s.loop := by
  simp only [lossJoined]
  split <;> exact ⟨rfl, rfl, rfl, rfl, rfl⟩

/-- A node becomes lost: NODE LOST is raised, and a feeder that is present is told (R23, R112). -/
theorem nodeGone_eq (n : NodeEntry) (s : State) : nodeGone n s =
    let raised := raiseFor n.role .nodeLost 1 n.addr (lossJoined n s)
    if n.role = some .insertFeeder ∧ (feederRec n.feeder s).state ≠ .none then feederBecomes n.feeder .lost raised else raised := by
  have same : feederRec n.feeder (raiseFor n.role .nodeLost 1 n.addr (lossJoined n s)) = feederRec n.feeder s := by
    simp [feederRec, lossJoined_frame]
  have told : nodeGone n s = if n.role = some .insertFeeder
    then feederNodeLost n.feeder (raiseFor n.role .nodeLost 1 n.addr (lossJoined n s))
    else raiseFor n.role .nodeLost 1 n.addr (lossJoined n s) := rfl
  rw [told, feederNodeLost, same]
  by_cases role : n.role = some .insertFeeder <;> simp [role]

theorem latch_nodeLost_nodeGone (n : NodeEntry) (s : State) :
    latch .nodeLost (nodeGone n s) = (latch .nodeLost s).raised 1 n.addr := by
  have raised : latch .nodeLost (raiseFor n.role .nodeLost 1 n.addr (lossJoined n s)) = (latch .nodeLost s).raised 1 n.addr := by
    rw [latch_raiseFor _ _ _ _ (by decide) (by decide), if_pos rfl, latch_of _ (lossJoined_frame n s).2.1]
  rw [nodeGone_eq]
  dsimp only
  split
  · rw [latch_feederBecomes (by decide) (by decide) (by decide) (by decide), raised]
  · exact raised

/-! ### What each judging keeps -/

theorem nodeSeen_waitsOrLocked (n : NodeEntry) {s : State} (h : WaitsOrLocked s) : WaitsOrLocked (nodeSeen n s) := by
  have left : WaitsOrLocked (stationSeen n s) := h.of_line rfl rfl
  have told := feederBecomes_waitsOrLocked n.feeder .faulted left
  rw [nodeSeen_eq]
  dsimp only
  repeat' split
  · exact told
  · exact left
  · exact lower_waitsOrLocked _ told
  · exact lower_waitsOrLocked _ left

theorem nodeGone_waitsOrLocked (n : NodeEntry) {s : State} (h : WaitsOrLocked s) : WaitsOrLocked (nodeGone n s) := by
  obtain ⟨_, _, state, phase, _⟩ := lossJoined_frame n s
  have raised := raiseFor_waitsOrLocked (.inl rfl) n.role 1 n.addr (h.of_line state phase)
  rw [nodeGone_eq]
  dsimp only
  split
  · exact feederBecomes_waitsOrLocked _ _ raised
  · exact raised

theorem judgeNode_waitsOrLocked (i : Nat) (n : NodeEntry) (seen : Bool) {s : State} (h : WaitsOrLocked s) :
    WaitsOrLocked (judgeNode i n seen s) := by
  have put (r : NodeRec) : WaitsOrLocked (putNodeRec i r s) := h.of_line rfl rfl
  simp only [judgeNode]
  repeat' split
  · exact h
  · exact nodeSeen_waitsOrLocked n (put _)
  · exact put _
  · exact nodeGone_waitsOrLocked n (put _)
  · exact put _

/-- NODE LOST is not up unless a node is lost (R23). -/
def LossIsHeld (s : State) : Prop := (∃ r ∈ s.loop.nodeRecs, r.lost = true) ∨ up .nodeLost s = false

theorem nodeSeen_lossIsHeld (n : NodeEntry) (s : State) : LossIsHeld (nodeSeen n s) := by
  by_cases lost : s.loop.nodeRecs.any (·.lost) = true
  · refine .inl ?_
    rw [nodeSeen_nodeRecs]
    simpa using lost
  · refine .inr ?_
    rw [nodeSeen_eq]
    simp only [if_neg lost]
    exact up_lower _ _

/-- A record put for one as lost as it changes which nodes are lost in nothing. -/
theorem putNodeRec_lossIsHeld {i : Nat} {q r : NodeRec} {s : State} (rec : s.loop.nodeRecs[i]? = some r) (same : q.lost = r.lost)
    (h : LossIsHeld s) : LossIsHeld (putNodeRec i q s) := by
  obtain ⟨inside, rfl⟩ := List.getElem?_eq_some_iff.1 rec
  have losses : (s.loop.nodeRecs.set i q).map (·.lost) = s.loop.nodeRecs.map (·.lost) := by
    rw [List.map_set, same, ← List.getElem_map NodeRec.lost (h := by simpa using inside)]
    exact List.set_getElem_self _
  have held : (∃ r ∈ s.loop.nodeRecs.set i q, r.lost = true) ↔ ∃ r ∈ s.loop.nodeRecs, r.lost = true := by
    rw [← List.mem_map, losses, List.mem_map]
  exact h.imp_left held.2

theorem judgeNode_lossIsHeld (i : Nat) (n : NodeEntry) (seen : Bool) {s : State} (h : LossIsHeld s) :
    LossIsHeld (judgeNode i n seen s) := by
  cases rec : s.loop.nodeRecs[i]? with
  | none =>
    rw [judgeNode, rec]
    exact h
  | some r =>
    obtain ⟨inside, _⟩ := List.getElem?_eq_some_iff.1 rec
    cases seen
    · by_cases goes : satInc 3 r.absent = 3 ∧ r.lost = false
      · rw [judgeNode_of_gone rec goes.1 goes.2]
        refine .inl ⟨{ absent := 3, lost := true, status := none }, ?_, rfl⟩
        rw [nodeGone_nodeRecs]
        exact List.mem_set inside _
      · rw [judgeNode_of_absent rec goes]
        exact putNodeRec_lossIsHeld rec rfl h
    · cases lost : r.lost
      · rw [judgeNode_of_present rec lost]
        exact putNodeRec_lossIsHeld rec rfl h
      · rw [judgeNode_of_back rec lost]
        exact nodeSeen_lossIsHeld _ _

/-- What every judging keeps, the presence check keeps. -/
theorem checkPresence_of_judge {P : State → Prop}
    (judge : ∀ (i : Nat) (n : NodeEntry) (seen : Bool) {v : State}, P v → P (judgeNode i n seen v))
    (mask : BitVec 64) (i : Nat) (l : List NodeEntry) {s : State} (h : P s) : P (checkPresence mask i l s) := by
  induction l generalizing i s with
  | nil => exact h
  | cons n l ih => exact ih (i + 1) (judge i n _ h)

/-! ### The ROLL (R22) -/

theorem exec_rollReturn (serial : Byte) (mask : BitVec 64) {s : State} (high : s.pins.resetN = true) :
    exec (.rollReturn serial mask) s = .next (rollReturned serial mask s) := run_of_wf high rfl _

theorem rollReturned_of_stale {serial : Byte} {s : State} (stale : serial.toNat ≠ s.loop.rollSerial) (mask : BitVec 64) :
    rollReturned serial mask s = s := if_neg stale

theorem rollReturned_of_current {serial : Byte} {s : State} (current : serial.toNat = s.loop.rollSerial) (mask : BitVec 64) :
    rollReturned serial mask s = endWait s (currentRoll mask s) := if_pos current

/-- The record the presence check finds: the returned roll, its mask, and no miss (R22). -/
def rollNoted (mask : BitVec 64) (s : State) : State :=
  { s with loop := { s.loop with returned := true, lastMask := mask, misses := 0 } }

theorem currentRoll_check (mask : BitVec 64) (s : State) :
    currentRoll mask s = endRingBreak (checkPresence mask 0 (nodesOf s) (rollNoted mask s)) := rfl

/-- The ROLL as O25 writes it: the entries judged in table order, then RING BREAK (R22, R23). -/
theorem currentRoll_eq (mask : BitVec 64) (s : State) : currentRoll mask s =
    let judged := (nodesOf s).zipIdx.foldl (fun v p => judgeNode p.2 p.1 (mask.getLsbD p.1.addr) v) (rollNoted mask s)
    if s.loop.ringBreakUp = true then lower .ringBreak { judged with loop := { judged.loop with ringBreakUp := false } }
    else judged := by
  have judged : checkPresence mask 0 (nodesOf s) (rollNoted mask s) =
      (nodesOf s).zipIdx.foldl (fun v p => judgeNode p.2 p.1 (mask.getLsbD p.1.addr) v) (rollNoted mask s) := checkPresence_fold ..
  have up : (checkPresence mask 0 (nodesOf s) (rollNoted mask s)).loop.ringBreakUp = s.loop.ringBreakUp :=
    (checkPresence_presence ..).ringBreakUp
  rw [currentRoll_check, endRingBreak, up, judged]
  rfl

/-- What the lowering of RING BREAK leaves. -/
theorem endRingBreak_frame (s : State) : (endRingBreak s).loop = { s.loop with ringBreakUp := false } ∧
    (endRingBreak s).tables = s.tables ∧ (endRingBreak s).acct = s.acct ∧
    latch .nodeLost (endRingBreak s) = latch .nodeLost s := by
  simp only [endRingBreak]
  split
  · rw [latch_lower_of_ne _ (by decide)]
    exact ⟨lower_loop _ _, by simp only [lower_frame]; rfl, by simp only [lower_frame]; rfl, rfl⟩
  · rename_i down
    refine ⟨?_, rfl, rfl, rfl⟩
    simp only [Bool.not_eq_true] at down
    rw [← down]

/-- What the ROLL records, and what it leaves (R22, R23). -/
theorem currentRoll_frame (mask : BitVec 64) (s : State) :
    (currentRoll mask s).loop.returned = true ∧ (currentRoll mask s).loop.lastMask = mask ∧
    (currentRoll mask s).loop.misses = 0 ∧ (currentRoll mask s).loop.ringBreakUp = false ∧
    (currentRoll mask s).loop.rollSerial = s.loop.rollSerial ∧ (currentRoll mask s).tables = s.tables ∧
    (currentRoll mask s).acct.queue = s.acct.queue := by
  have kept := checkPresence_presence (rollNoted mask s) mask 0 (nodesOf s)
  obtain ⟨loop, tables, acct, _⟩ := endRingBreak_frame (checkPresence mask 0 (nodesOf s) (rollNoted mask s))
  simp only [currentRoll_check, loop, tables, acct]
  exact ⟨kept.returned, kept.lastMask, kept.misses, trivial, kept.rollSerial, kept.tables, kept.queue⟩

/-- One node record after the ROLL: as judged against its own bit (R23). -/
theorem currentRoll_nodeRec {mask : BitVec 64} {s : State} {i : Nat} {n : NodeEntry} {r : NodeRec}
    (node : (nodesOf s)[i]? = some n) (rec : s.loop.nodeRecs[i]? = some r) :
    (currentRoll mask s).loop.nodeRecs[i]? = some (
      if mask.getLsbD n.addr = true then { r with absent := 0, lost := false }
      else if satInc 3 r.absent = 3 ∧ r.lost = false then { absent := 3, lost := true, status := none }
      else { r with absent := satInc 3 r.absent }) := by
  have loop := (endRingBreak_frame (checkPresence mask 0 (nodesOf s) (rollNoted mask s))).1
  have noted : (rollNoted mask s).loop.nodeRecs[i]? = some r := rec
  rw [currentRoll_check, loop]
  show (checkPresence mask 0 (nodesOf s) (rollNoted mask s)).loop.nodeRecs[i]? = _
  rw [checkPresence_nodeRecs, Nat.sub_zero, node]
  simp [judgeNode_nodeRecs, noted]

/-- When the last lost node has been seen, NODE LOST is not up (R23). -/
theorem currentRoll_nodeLost {mask : BitVec 64} {s : State} (some_lost : ∃ r ∈ s.loop.nodeRecs, r.lost = true)
    (none_lost : ∀ r ∈ (currentRoll mask s).loop.nodeRecs, r.lost = false) : up .nodeLost (currentRoll mask s) = false := by
  have judged : LossIsHeld (checkPresence mask 0 (nodesOf s) (rollNoted mask s)) :=
    checkPresence_of_judge judgeNode_lossIsHeld mask 0 _ (.inl some_lost)
  obtain ⟨loop, _, _, latch⟩ := endRingBreak_frame (checkPresence mask 0 (nodesOf s) (rollNoted mask s))
  have held : LossIsHeld (currentRoll mask s) := by
    rw [currentRoll_check]
    simpa only [LossIsHeld, up, loop, latch] using judged
  rcases held with ⟨r, mem, lost⟩ | down
  · rw [none_lost r mem] at lost
    cases lost
  · exact down

/-- A recovery in WAIT is in WAIT after the judging, or has ended in LOCKOUT (R158, R160). -/
theorem currentRoll_waitsOrLocked (mask : BitVec 64) {s : State} (h : WaitsOrLocked s) : WaitsOrLocked (currentRoll mask s) := by
  have judged : WaitsOrLocked (checkPresence mask 0 (nodesOf s) (rollNoted mask s)) :=
    checkPresence_of_judge judgeNode_waitsOrLocked mask 0 _ (h.of_line rfl rfl)
  rw [currentRoll_check, endRingBreak]
  split
  · exact lower_waitsOrLocked _ (judged.of_line rfl rfl)
  · exact judged

/-- The judgement of WAIT with the hold of the state the event found, where the event left the tables (R157, R158). -/
theorem endWait_eq {s t : State} (tables : t.tables = s.tables) : endWait s t =
    if t.line.phase = .wait ∧ recoveryCondition s = true ∧ recoveryCondition t = false then
      { t with line := { t.line with phase := .hold, holdLeft := fullHold s } } else t := by
  have hold : fullHold t = fullHold s := by simp only [fullHold, profileOf, tables]
  rw [endWait, hold]

theorem recoveryCondition_endWait (b s : State) : recoveryCondition (endWait b s) = recoveryCondition s := by
  simp [recoveryCondition, up]

/-- The roles of R155's stations, by name. -/
theorem lossJoined_eq (n : NodeEntry) (s : State) : lossJoined n s =
    if (match n.role with
      | some .sheetStation | some .envReader | some .envStation | some .caliper | some .divertGate | some .closer
      | some .sorter => true
      | _ => false) = true
    then { s with line := { s.line with stationLoss := s.line.stationLoss ++ [n.addr] } } else s := by
  rcases role : n.role with _ | role'
  · simp only [lossJoined, role] <;> rfl
  · cases role' <;> simp only [lossJoined, role] <;> rfl

/-- Settles O25: the presence check judges one entry after another, each by `judgeNode` in one of its cases; what the recovery and
the NODE LOST latch keep through it is kept by every judging. -/
theorem rollsReturnAndJudgeTheNodes : Obligations.RollsReturnAndJudgeTheNodes := by
  refine ⟨fun serial mask s high => ⟨fun stale => ?_, fun current => ?_, fun current empty down => ?_⟩, fun i n r s rec => ?_⟩
  · rw [exec_rollReturn _ _ high, rollReturned_of_stale stale]
  · obtain ⟨returned, lastMask, misses, ringBreak, rollSerial, tables, queue⟩ := currentRoll_frame mask s
    refine ⟨endWait s (currentRoll mask s), ?_, ?_, fun i n r node rec => ?_, fun some_lost none_lost => ?_, ?_⟩
    · rw [exec_rollReturn _ _ high, rollReturned_of_current current]
    · rw [endWait_eq tables, currentRoll_eq]
      rfl
    · rw [(endWait_frame _ s).2.2.1]
      exact currentRoll_nodeRec node rec
    · rw [(endWait_frame _ s).2.2.1] at none_lost
      rw [up, latch_endWait]
      exact currentRoll_nodeLost some_lost none_lost
    · simp only [endWait_frame, returned, lastMask, misses, ringBreak, rollSerial, tables, queue, endWait_state, true_and,
        recoveryCondition_endWait]
      intro wait recovery condition still
      have waits : (currentRoll mask s).line.phase = .wait := by
        rcases currentRoll_waitsOrLocked mask (.inl ⟨recovery, wait⟩) with ⟨_, waits⟩ | locked
        · exact waits
        · rw [locked] at still
          cases still
      rw [endWait_eq tables]
      refine ⟨fun ended => ?_, fun goes_on => ?_⟩
      · rw [if_pos ⟨waits, condition, ended⟩]
        exact ⟨rfl, rfl⟩
      · rw [if_neg (by simp [goes_on])]
        exact waits
  · have noted : currentRoll mask s = rollNoted mask s := by
      rw [currentRoll_eq, empty]
      exact if_neg (by simp [down])
    rw [exec_rollReturn _ _ high, rollReturned_of_current current, noted]
    exact congrArg _ (endWait_none _ _ (.inr rfl))
  · obtain ⟨inside, _⟩ := List.getElem?_eq_some_iff.1 rec
    refine ⟨fun seen j other => ?_, fun present => ?_, fun lost => ?_, fun low => ?_, fun absent lost => ?_,
      fun absent present => ?_⟩
    · rw [judgeNode_nodeRecs, List.getElem?_modify_ne _ _ (Ne.symm other)]
    · exact judgeNode_of_present rec present
    · rw [judgeNode_of_back rec lost, nodeSeen_eq]
      refine ⟨fun none_lost => ?_, fun some_lost => ?_⟩
      · exact if_neg (by simpa [putNodeRec] using none_lost)
      · exact if_pos (by simpa [putNodeRec] using some_lost)
    · have next : satInc 3 r.absent = r.absent + 1 := if_pos (by omega)
      rw [judgeNode_of_absent rec (by omega), next]
      rfl
    · have next : satInc 3 r.absent = r.absent := if_neg (by omega)
      obtain ⟨_, rfl⟩ := List.getElem?_eq_some_iff.1 rec
      rw [judgeNode_of_absent rec (by simp [lost]), next]
      show { s with loop := { s.loop with nodeRecs := s.loop.nodeRecs.set i s.loop.nodeRecs[i] } } = s
      rw [List.set_getElem_self]
    · have third : satInc 3 r.absent = 3 := by
        rcases absent with absent | absent <;> rw [absent] <;> rfl
      intro gone joined raised
      have joins : lossJoined n gone = joined := lossJoined_eq n gone
      have judged : judgeNode i n false s = nodeGone n gone := judgeNode_of_gone rec third present
      have told := nodeGone_eq n gone
      rw [joins] at told
      rw [judged]
      refine ⟨fun feeder => told.trans (if_pos feeder), fun other => told.trans (if_neg ?_), ?_, latch_nodeLost_nodeGone n gone⟩
      · rintro ⟨feeder, state⟩
        exact other.elim (absurd feeder) state
      · rw [nodeGone_nodeRecs]
        exact List.getElem?_set_self inside

end Sys2Proof.Machine
end

section
/-! STATUS reports are recorded and handed on (O33). -/

namespace Sys2Proof.Machine

/-- The record of a STATUS: the node's last status (R23). -/
def statusNoted (i : Nat) (st : StationState) (detail : Byte) (s : State) : State :=
  { s with loop := { s.loop with nodeRecs := s.loop.nodeRecs.modify i fun e => { e with status := some (st, detail) } } }

/-- An accepted STATUS, from the node's record to the judgement of WAIT (R19, R158). -/
theorem exec_status {src detail : Byte} {st : StationState} {n : NodeEntry} {r : Role} {i : Nat} {s : State}
    (reports : Reports 0x13 src n r s) (found : ((nodesOf s).findIdx? fun e => e.addr == src.toNat) = some i) :
    exec (.status src st detail) s =
      .next (endWait s (unitStatus n r st detail (lineStatus src.toNat r st (statusNoted i st detail s)))) := by
  have recorded : recordStatus src.toNat st detail s = statusNoted i st detail s := by
    simp only [recordStatus, found]
    rfl
  rw [← recorded]
  exact report_of_reports reports _

/-! ### The parts of a STATUS, state by state (R111, R141, R156) -/

section Parts

variable {r : Role} (n : NodeEntry) (detail : Byte) (s : State)

/-- An EMPTY from a node that is no feeder tells no unit. -/
theorem unitStatus_empty (station : r ≠ .insertFeeder) : unitStatus n r .empty detail s = s := by
  cases r <;> simp [unitStatus, sorterStatus] at station ⊢

/-- A JAM, or a FAULT from a node that is no feeder: at the sorter a JAM with detail bit 0 reports the overflow bin full (R141). -/
theorem unitStatus_asked {st : StationState} (asked : st = .jam ∨ st = .fault ∧ r ≠ .insertFeeder) : unitStatus n r st detail s =
    if r = .sorter ∧ st = .jam ∧ detail.getLsbD 0 = true then { s with presort := { s.presort with reportedFull := true } }
    else s := by
  rcases asked with rfl | ⟨rfl, station⟩
  · cases r <;> simp [unitStatus, sorterStatus, feederStatus]
  · cases r <;> simp [unitStatus, sorterStatus] at station ⊢

/-- A READY from a node that is no feeder: at the sorter it empties the overflow bin that was reported full (R141). -/
theorem unitStatus_ready (station : r ≠ .insertFeeder) {p : Presort} (presort : s.presort = p) : unitStatus n r .ready detail s =
    if r = .sorter ∧ p.reportedFull = true then { s with presort := { p with reportedFull := false, overflow := 0 } } else s := by
  subst presort
  cases r <;> simp [unitStatus, sorterStatus] at station ⊢

/-- A JAM, or a FAULT from a node that is no feeder, asks for the node to join the jammed set (R156). -/
theorem lineStatus_asked {st : StationState} (src : Nat) (asked : st = .jam ∨ st = .fault ∧ r ≠ .insertFeeder) :
    lineStatus src r st s = jamAdd src s := by
  rcases asked with rfl | ⟨rfl, station⟩
  · rfl
  · exact if_neg station

/-- A node leaves the jammed set (R156). -/
theorem jamRemove_eq (src : Nat) : jamRemove src s =
    let left := s.line.jammed.filter (· != src)
    let fewer := { s with line := { s.line with jammed := left } }
    if src ∈ s.line.jammed then (if left = [] then lower .jam fewer else fewer) else s := by
  simp only [jamRemove, putJammed, List.isEmpty_iff]

theorem jamRemove_of_jammed {src : Nat} (jammed : src ∈ s.line.jammed) : jamRemove src s =
    if s.line.jammed.filter (· != src) = [] then lower .jam (putJammed (s.line.jammed.filter (· != src)) s)
    else putJammed (s.line.jammed.filter (· != src)) s := by
  rw [jamRemove_eq]
  exact if_pos jammed

theorem lineStatus_ready (src : Nat) (r : Role) : lineStatus src r .ready s =
    if r = .sheetStation then lower .collationOverrun (jamRemove src s) else jamRemove src s := rfl

/-- What a READY leaves to the units (R156). -/
theorem lineStatus_ready_frame (src : Nat) : (lineStatus src r .ready s).presort = s.presort ∧
    (lineStatus src r .ready s).tables = s.tables := by
  simp only [lineStatus, jamRemove_eq]
  repeat' split
  all_goals simp

end Parts

/-- Settles O33: the STATUS is recorded, then each part of it acts by its own rule; the judgement of WAIT reads the latches and the
station-loss set, which a part may leave as they were. -/
theorem statusReportsAreRecorded : Obligations.StatusReportsAreRecorded := by
  intro src detail st n r i s reports found noted full asked left fewer
  have run := exec_status (detail := detail) (st := st) reports found
  have noted_eq : statusNoted i st detail s = noted := rfl
  rw [noted_eq] at run
  refine ⟨fun empty station => ?_, fun ask jammed => ?_, fun ask new => ?_, fun ready station => ?_, fun ready station => ?_⟩
  · rw [run, empty]
    refine congrArg _ ?_
    rw [show lineStatus src.toNat r .empty _ = _ from rfl, unitStatus_empty _ _ _ station]
    exact endWait_none _ _ (.inr rfl)
  · rw [run, lineStatus_asked _ _ ask, unitStatus_asked _ _ _ ask, show jamAdd src.toNat noted = noted from if_pos jammed]
    exact congrArg _ (endWait_none _ _ (.inr (by split <;> rfl)))
  · refine ⟨_, run, ?_⟩
    rw [lineStatus_asked _ _ ask, unitStatus_asked _ _ _ ask, show jamAdd src.toNat noted = _ from if_neg new]
    simp only [endWait_frame, endWait_state, latch_endWait]
    let joined := putJammed (noted.line.jammed ++ [src.toNat]) noted
    have latch : latch .jam (raise .jam 1 src.toNat joined) = (latch .jam s).raised 1 src.toNat :=
      (latch_raise _ _ _ (by decide) (by decide)).trans (if_pos rfl)
    have state := raise_recoveryKind_state (k := .jam) rfl 1 src.toNat joined
    split <;> simp only [raise_frame] <;> exact ⟨rfl, rfl, latch, state, rfl, rfl, rfl, rfl, rfl⟩
  · intro removed lowered emptied
    obtain ⟨presort, tables⟩ := lineStatus_ready_frame (r := r) noted src.toNat
    have removes : jamRemove src.toNat noted = removed := jamRemove_eq ..
    have lowers : lineStatus src.toNat r .ready noted = lowered := by rw [lineStatus_ready, removes]
    have empties : unitStatus n r .ready detail (lineStatus src.toNat r .ready noted) = emptied := by
      rw [unitStatus_ready _ _ _ station (presort.trans (show noted.presort = s.presort from rfl)), lowers]
    have tables : emptied.tables = s.tables := by
      rw [← empties, unitStatus_ready _ _ _ station presort]
      split <;> exact tables
    rw [run, ready, empties, endWait_eq tables]
  · rw [run, ready]
    have alone (new : src.toNat ∉ s.line.jammed) : jamRemove src.toNat noted = noted := if_neg new
    have removes (jammed : src.toNat ∈ s.line.jammed) : jamRemove src.toNat noted = if left = [] then lower .jam fewer else fewer :=
      jamRemove_of_jammed noted jammed
    refine ⟨fun new other => congrArg _ ?_, fun new sheet waits => congrArg _ ?_, fun jammed other notSorter => ?_⟩
    · rw [lineStatus_ready, if_neg other, alone new, unitStatus_ready _ _ _ station (show noted.presort = s.presort from rfl)]
      exact endWait_none _ _ (.inr (by split <;> rfl))
    · rw [lineStatus_ready, if_pos sheet, alone new, unitStatus_ready _ _ _ station rfl, if_neg (by simp [sheet])]
      exact endWait_none _ _ (.inl (by rwa [lower_phase]))
    · rw [lineStatus_ready, if_neg other, removes jammed, unitStatus_ready _ _ _ station rfl, if_neg (by simp [notSorter])]
      have phase : (lower .jam fewer).line.phase = s.line.phase := lower_phase .jam fewer
      refine ⟨fun others => congrArg _ ?_, fun last waits => congrArg _ ?_, fun last waits before after => congrArg _ ?_,
        fun last waits before after => congrArg _ ?_⟩
      · rw [if_neg others]
        exact endWait_none _ _ (.inr rfl)
      · rw [if_pos last]
        exact endWait_none _ _ (.inl (phase ▸ waits))
      · rw [if_pos last]
        exact endWait_none _ _ (.inr (after.trans before.symm))
      · rw [if_pos last, endWait_eq (s := s) (by simp only [lower_frame, fewer, noted])]
        exact if_pos ⟨phase.trans waits, before, after⟩

end Sys2Proof.Machine
end

section
/-! The tables' entries stay in canonical form (O5). -/

namespace Sys2Proof.Machine

/-- The canonical form under every update the part's operations are made of: only the update of the Table Store touches the entries, and
it keeps the form table by table (R36). -/
theorem closed_tablesCanonical : Closed TablesCanonical where
  pins _ _ h := h
  stage _ _ h := h
  track _ _ h := h
  feeders _ _ h := h
  presort _ _ h := h
  outcomes _ _ h := h
  draws _ _ h := h
  pitch _ _ _ _ _ h := h
  line _ _ _ _ h := h
  raised _ _ _ _ h := h
  lowered _ _ _ h := h
  cleared _ _ _ h := h
  moved s n c h := by simpa only [TablesCanonical, updateDrive_frame, lowerTiming_frame] using h
  estop s b t h := by simpa only [TablesCanonical, updateDrive_frame, putPitch_tables] using h
  loop _ _ _ h := h
  tables _ _ _ keeps h := fun i => keeps i (h i)
  pull s l _ h := fun i => by
    have same : (putPull l s).tables.get i = s.tables.get i := by cases i <;> rfl
    rw [same]
    exact h i
  acct _ _ _ h := h

/-- A table in its cold values lists no entry (R53). -/
theorem wf_cold : Memory.wf Table.cold.entries := ⟨List.Pairwise.nil, nofun⟩

theorem tablesCanonical_cold (p : Pins) (d : Nat) (q : List Instr) : TablesCanonical (State.cold p d q) := fun i => by
  have cold : (State.cold p d q).tables.get i = Table.cold := get_cold i
  rw [cold]
  exact wf_cold

/-- A DEVICE RESET keeps the line profile and the node table, and empties the other tables (R53). -/
theorem tablesCanonical_deviceValues (s : State) (h : TablesCanonical s) : TablesCanonical (deviceValues s) := fun i => by
  rw [deviceValues_eq]
  cases i
  case lineProfile => exact h .lineProfile
  case nodeTable => exact h .nodeTable
  all_goals exact wf_cold

/-- Settles O5: the form is closed under the updates every operation is made of, and the two resets establish or keep it. -/
theorem tablesStayCanonical : Obligations.TablesStayCanonical := fun _ _ h e =>
  step_keeps closed_tablesCanonical tablesCanonical_cold tablesCanonical_deviceValues (fun _ _ h => h) e h

end Sys2Proof.Machine
end

section
/-! The checksum (O40). -/

namespace Sys2Proof.Machine

/-- A word of an entry is its high byte and its low byte (R38). -/
theorem entNum_two (e : List Byte) (k : Nat) : entNum e k 2 = 256 * (e.getD k 0).toNat + (e.getD (k + 1) 0).toNat := by
  simp [entNum, beNum, List.range_succ, Nat.mul_comm]

/-- A commit whose checksum differs leaves its table BAD with failure code 1 (R38, R39). -/
theorem judgeCommit_of_sum_ne {t : TableId} {count expected : Nat} {s : State}
    (differs : checksumOf t (s.tables.get t).entries count ≠ expected) (src : Nat) : judgeCommit t src count expected s =
      commitBad t (checksumOf t (s.tables.get t).entries count) (1, Config.noIndex) s := if_pos differs

/-- The table that a failed commit leaves (R39). -/
theorem commitBad_get (t : TableId) (sum : Nat) (f : Failure) (s : State) : (commitBad t sum f s).1.tables.get t =
    { s.tables.get t with state := .bad, failCode := f.1, failIndex := f.2 } := by
  simp only [commitBad, raise_frame, putTable, get_put, if_true]

/-- Settles O40: the sum is the model's own with its words spelled out, and a difference is judged before anything else. -/
theorem checksumSumsMaskedWords : Obligations.ChecksumSumsMaskedWords := by
  refine ⟨fun t m n => ?_, fun _ _ => rfl, fun t src count expected s differs => ?_⟩
  · simp only [checksumOf, entrySum, entNum_two]
    cases t <;> rfl
  · rw [judgeCommit_of_sum_ne differs, commitBad_get]
    exact ⟨rfl, rfl⟩

end Sys2Proof.Machine
end

section
/-! Staging, HOLD and HOLD RELEASE (O45). -/

namespace Sys2Proof.Machine

theorem vget_vset_self {α : Type} [Inhabited α] {n i : Nat} (v : Vector α n) (x : α) (h : i < n) : vget (vset v i x) i = x := by
  rw [vget_vset _ _ _ _ h, if_pos rfl]

theorem vget_vset_of_ne {α : Type} [Inhabited α] {n i j : Nat} (v : Vector α n) (x : α) (h : i ≠ j) :
    vget (vset v i x) j = vget v j := by
  by_cases place : j < n
  · rw [vget_vset _ _ _ _ place, if_neg h]
  · simp only [vget, dif_neg place]

/-- The ranges of each STAGE field, with the feeder's for the fields that name one (R43, R48). -/
theorem stageOk_iff (f : StageForm) : stageOk f = true ↔ match f.field with
    | 1 => f.value ≤ 2000
    | 2 => 1 ≤ f.value ∧ f.value ≤ 100
    | 3 => 1 ≤ f.value ∧ f.value ≤ 1000
    | 4 => 1 ≤ f.feeder ∧ f.feeder ≤ 12 ∧ f.value ≤ 1000
    | 5 => 1 ≤ f.value ∧ f.value ≤ 7
    | 6 => 1 ≤ f.feeder ∧ f.feeder ≤ 12 ∧ f.value ≤ 6
    | 7 => f.value ≤ 15
    | 8 => f.value ≤ 15
    | 9 => 4 ≤ f.value ∧ f.value ≤ 1000
    | _ => False := by
  unfold stageOk
  split <;> simp [*, and_assoc]

/-- The slots of the fields 4 and 6, one a feeder, and the feeder numbers they take (R48). -/
theorem feeder_of_stageOk {f : StageForm} (ok : stageOk f = true) (field : f.field ∈ [4, 6]) : 1 ≤ f.feeder ∧ f.feeder ≤ 12 := by
  rw [stageOk_iff] at ok
  simp only [List.mem_cons, List.not_mem_nil, or_false] at field
  rcases field with field | field <;> rw [field] at ok <;> exact ⟨ok.1, ok.2.1⟩

/-- A slot that has taken a value holds it (R48). -/
theorem stagedSlot_putSlot {f : StageForm} (ok : stageOk f = true) (g : Staged) : stagedSlot f (putSlot f g) = some f.value := by
  unfold putSlot stagedSlot
  split
  case h_4 field =>
    obtain ⟨low, high⟩ := feeder_of_stageOk ok (by simp [field])
    exact vget_vset_self _ _ (by omega)
  case h_6 field =>
    obtain ⟨low, high⟩ := feeder_of_stageOk ok (by simp [field])
    exact vget_vset_self _ _ (by omega)
  case h_10 =>
    rw [stageOk_iff] at ok
    split at ok <;> simp_all
  all_goals rfl

/-- No other slot changes (R48). -/
theorem stagedSlot_putSlot_of_other {f other : StageForm} (ok : stageOk f = true) (g : Staged)
    (differs : other.field ≠ f.field ∨ other.field ∈ [4, 6] ∧ other.feeder ≠ f.feeder ∧ 1 ≤ other.feeder) :
    stagedSlot other (putSlot f g) = stagedSlot other g := by
  by_cases same : other.field = f.field
  · obtain ⟨field, feeder, low⟩ := differs.resolve_left (absurd same)
    have places : f.feeder - 1 ≠ other.feeder - 1 := by
      have := feeder_of_stageOk ok (same ▸ field)
      omega
    simp only [List.mem_cons, List.not_mem_nil, or_false] at field
    rcases field with field | field <;> simp only [putSlot, stagedSlot, same ▸ field, field] <;> exact vget_vset_of_ne _ _ places
  · unfold putSlot
    split <;> rename_i taken
    all_goals
      unfold stagedSlot
      split <;> rename_i read
    all_goals first
      | rfl
      | exact absurd (read.trans taken.symm) same

/-- HOLD and HOLD RELEASE give the flag its value, and answer with what it was (R49). -/
theorem run_holdHandler {kind : Nat} {c : Cell} {s : State} (takes : Takes kind c s) (b : Bool) :
    run true (request kind (holdHandler b)) s = .next (replied c .accepted
      [if s.tables.hold then 1 else 0, BitVec.ofNat 8 s.tables.staged.count]
      { handed c s with tables := { s.tables with hold := b } }) := by
  have tables : (handed c s).tables = s.tables := rfl
  simp only [request_of_takes takes, holdHandler, flagByte, tables, beBytes_one]
  rfl

/-- STAGE with a field, feeder or value out of range (R48). -/
theorem exec_stage_of_not_ok {c : Cell} {s : State} (takes : Takes 0x38 c s) (bad : stageOk (stageForm c) = false) :
    exec .stage s = .next (replied c .arg [] (handed c s)) := by
  simp only [exec, execStage, request_of_takes takes, stageHandler, bad, Bool.not_false, if_true]
  rfl

/-- STAGE while the job table is not VALID (R48). -/
theorem exec_stage_of_not_valid {c : Cell} {s : State} (takes : Takes 0x38 c s) (ok : stageOk (stageForm c) = true)
    (state : s.tables.job.state ≠ .valid) : exec .stage s = .next (replied c .state [] (handed c s)) := by
  have state' : (handed c s).tables.job.state ≠ .valid := state
  simp only [exec, execStage, request_of_takes takes, stageHandler, ok, Bool.not_true, Bool.false_eq_true, if_false, if_pos state']
  rfl

/-- A STAGE that is taken (R48). -/
theorem exec_stage_of_ok {c : Cell} {s : State} (takes : Takes 0x38 c s) (ok : stageOk (stageForm c) = true)
    (state : s.tables.job.state = .valid) : exec .stage s = .next (replied c .accepted
      [if (stagedSlot (stageForm c) s.tables.staged).isSome then 1 else 0,
        BitVec.ofNat 8 (putSlot (stageForm c) s.tables.staged).count]
      { handed c s with tables := { s.tables with staged := putSlot (stageForm c) s.tables.staged } }) := by
  have state' : (handed c s).tables.job.state = .valid := state
  simp only [exec, execStage, request_of_takes takes, stageHandler, ok, Bool.not_true, Bool.false_eq_true, if_false, state', ne_eq,
    not_true_eq_false, flagByte, beBytes_one]
  rfl

/-- Settles O45: STAGE by its two checks and what its slot then holds, its ranges by `stageOk_iff`, the two holds by their one handler. -/
theorem stagingAndItsHold : Obligations.StagingAndItsHold := by
  refine fun c s => ⟨fun takes => ⟨exec_stage_of_not_ok takes, exec_stage_of_not_valid takes,
    fun ok state => ⟨stagedSlot_putSlot ok _, fun _ => stagedSlot_putSlot_of_other ok _, exec_stage_of_ok takes ok state⟩,
    ?_, ?_, ?_, ?_, ?_, ?_, ?_, ?_, ?_⟩, fun takes => run_holdHandler takes true, fun takes => run_holdHandler takes false⟩
  case refine_8 =>
    rintro (field | field) <;> rw [stageOk_iff, field] <;> exact Iff.rfl
  case refine_9 =>
    intro field
    rw [← Bool.not_eq_true, stageOk_iff]
    split <;> simp_all
  all_goals
    intro field
    rw [stageOk_iff, field]
    exact Iff.rfl

end Sys2Proof.Machine
end

section
/-! The structural checks (O39). -/

namespace Sys2Proof.Machine

/-! ### The first index, the lowest failure -/

/-- The number `o` is `k` more than the first index at which Q holds; it is none when Q holds at no index. -/
structure FirstFrom (k : Nat) (o : Option Nat) (Q : Nat → Prop) : Prop where
  none_iff : o = none ↔ ∀ i, ¬Q i
  first : ∀ n, o = some n → ∃ i, n = k + i ∧ Q i ∧ ∀ j, Q j → i ≤ j

/-- The finding `o` is the failure of lowest code, and within the code of lowest index, of all failures P (R39). -/
structure FindsLowest (o : Option Failure) (P : Nat → Nat → Prop) : Prop where
  none_iff : o = none ↔ ∀ c i, ¬P c i
  lowest : ∀ c i, o = some (c, i) → P c i ∧ ∀ d j, P d j → c < d ∨ c = d ∧ i ≤ j

theorem FirstFrom.nil {k : Nat} {Q : Nat → Prop} (h : ∀ i, ¬Q i) : FirstFrom k none Q := ⟨by simp [h], nofun⟩

/-- A search that looks at one place and goes on with the next. -/
theorem FirstFrom.cons {k : Nat} {here : Bool} {o : Option Nat} {Q : Nat → Prop} (head : here = true ↔ Q 0)
    (tail : FirstFrom (k + 1) o fun i => Q (i + 1)) : FirstFrom k (if here = true then some k else o) Q := by
  cases here with
  | true =>
    have at0 : Q 0 := head.1 rfl
    refine ⟨⟨nofun, fun h => absurd at0 (h 0)⟩, fun n found => ⟨0, ?_, at0, fun j _ => Nat.zero_le j⟩⟩
    simpa using found.symm
  | false =>
    have not0 : ¬Q 0 := fun h => by simpa using head.2 h
    rw [if_neg (by simp)]
    refine ⟨tail.none_iff.trans ⟨fun h i => ?_, fun h i => h (i + 1)⟩, fun n found => ?_⟩
    · cases i with
      | zero => exact not0
      | succ i => exact h i
    · obtain ⟨i, rfl, holds, first⟩ := tail.first n found
      refine ⟨i + 1, by omega, holds, fun j hj => ?_⟩
      cases j with
      | zero => exact absurd hj not0
      | succ j => exact Nat.succ_le_succ (first j hj)

theorem FindsLowest.congr {o : Option Failure} {P R : Nat → Nat → Prop} (h : FindsLowest o P) (same : ∀ c i, P c i ↔ R c i) :
    FindsLowest o R := by
  have e : P = R := funext fun c => funext fun i => propext (same c i)
  exact e ▸ h

/-- The failures of a list of checks: each check is its code, and the indexes at which it fails. -/
def FailsOf (checks : List (Nat × (Nat → Prop))) (c i : Nat) : Prop := ∃ fails, (c, fails) ∈ checks ∧ fails i

theorem FailsOf_cons (code : Nat) (fails : Nat → Prop) (checks : List (Nat × (Nat → Prop))) (c i : Nat) :
    FailsOf ((code, fails) :: checks) c i ↔ c = code ∧ fails i ∨ FailsOf checks c i := by
  simp only [FailsOf, List.mem_cons, Prod.mk.injEq, or_and_right, exists_or, and_assoc, exists_and_left, exists_eq_left]

theorem FindsLowest.nil : FindsLowest (firstFailure []) (FailsOf []) := ⟨by simp [firstFailure, FailsOf], nofun⟩

/-- Checks made in order, each of a code below those of the checks after it; these matter only where it finds nothing (R39). -/
theorem FindsLowest.cons {code : Nat} {o : Option Failure} {os : List (Option Failure)} {fails : Nat → Prop}
    {checks : List (Nat × (Nat → Prop))} (head : FindsLowest o fun c i => c = code ∧ fails i)
    (tail : o = none → FindsLowest (firstFailure os) (FailsOf checks)) (below : ∀ d ∈ checks.map (·.1), code < d) :
    FindsLowest (firstFailure (o :: os)) (FailsOf ((code, fails) :: checks)) := by
  suffices h : FindsLowest (firstFailure (o :: os)) fun c i => c = code ∧ fails i ∨ FailsOf checks c i from
    h.congr fun c i => (FailsOf_cons ..).symm
  cases o with
  | none =>
    have none : ∀ c i, ¬(c = code ∧ fails i) := head.none_iff.1 rfl
    exact (tail rfl).congr fun c i => (or_iff_right (none c i)).symm
  | some f =>
    refine ⟨⟨nofun, fun h => ?_⟩, fun c i found => ?_⟩
    · exact absurd (Or.inl (head.lowest f.1 f.2 rfl).1) (h f.1 f.2)
    · obtain ⟨⟨rfl, holds⟩, first⟩ := head.lowest c i found
      refine ⟨.inl ⟨rfl, holds⟩, fun d j failure => ?_⟩
      rcases failure with failure | ⟨later, mem, -⟩
      · exact first d j failure
      · exact .inl (below d (List.mem_map_of_mem mem))

/-- The failures that a list of checks finds, in other words: code by code, and none of another code. -/
theorem FindsLowest.of_checks {o : Option Failure} {checks : List (Nat × (Nat → Prop))} {P : Nat → Nat → Prop}
    (h : FindsLowest o (FailsOf checks)) (each : ∀ check ∈ checks, ∀ i, check.2 i ↔ P check.1 i)
    (rest : ∀ c, c ∉ checks.map (·.1) → ∀ i, ¬P c i) : FindsLowest o P := by
  refine h.congr fun c i => ⟨fun ⟨fails, mem, holds⟩ => (each _ mem i).1 holds, fun failure => ?_⟩
  have listed : c ∈ checks.map (·.1) := by
    by_contra unlisted
    exact rest c unlisted i failure
  obtain ⟨⟨_, fails⟩, mem, rfl⟩ := List.mem_map.1 listed
  exact ⟨fails, mem, (each _ mem i).2 failure⟩

/-- A search for the first index, as a check of one code. -/
theorem FirstFrom.finds {o : Option Nat} {Q : Nat → Prop} (h : FirstFrom 0 o Q) (code : Nat) :
    FindsLowest (o.map fun i => (code, i)) fun c i => c = code ∧ Q i := by
  refine ⟨?_, fun c i found => ?_⟩
  · rw [Option.map_eq_none_iff, h.none_iff]
    exact ⟨fun none c i failure => none i failure.2, fun none i holds => none code i ⟨rfl, holds⟩⟩
  · obtain ⟨n, hit, eq⟩ := Option.map_eq_some_iff.1 found
    obtain ⟨rfl, rfl⟩ := Prod.mk.inj eq
    obtain ⟨i, rfl, holds, first⟩ := h.first n hit
    rw [Nat.zero_add]
    exact ⟨⟨rfl, holds⟩, fun d j failure => .inr ⟨failure.1.symm, first j failure.2⟩⟩

/-! ### The kinds of check -/

theorem wholeCheck_finds (code : Nat) (ok : Bool) :
    FindsLowest (wholeCheck code ok) fun c i => c = code ∧ i = 65535 ∧ ¬ok = true := by
  cases ok with
  | true => exact ⟨by simp [wholeCheck], nofun⟩
  | false =>
    refine ⟨by simp [wholeCheck], fun c i found => ?_⟩
    obtain ⟨rfl, rfl⟩ : code = c ∧ Config.noIndex = i := by simpa [wholeCheck] using found
    exact ⟨⟨rfl, rfl, nofun⟩, fun d j failure => .inr ⟨failure.1.symm, failure.2.1.ge⟩⟩

theorem findIdx?_firstFrom {α : Type} (ok : α → Bool) (l : List α) :
    FirstFrom 0 (l.findIdx? fun x => !ok x) fun i => ∃ x, l[i]? = some x ∧ ¬ok x = true := by
  refine ⟨?_, fun n found => ⟨n, (Nat.zero_add n).symm, ?_⟩⟩
  · simp [List.findIdx?_eq_none_iff, List.mem_iff_getElem?]
    grind
  · obtain ⟨place, bad, before⟩ := List.findIdx?_eq_some_iff_getElem.1 found
    refine ⟨⟨l[n], List.getElem?_eq_getElem place, by simpa using bad⟩, fun j hj => Nat.le_of_not_lt fun less => ?_⟩
    obtain ⟨x, at', fails⟩ := hj
    have := before j less
    grind

theorem entryCheck_finds {α : Type} (code : Nat) (ok : α → Bool) (f : List Byte → α) (es : List (List Byte)) :
    FindsLowest (entryCheck code ok (es.map f)) fun c i => c = code ∧ ∃ e, es[i]? = some e ∧ ¬ok (f e) = true := by
  refine ((findIdx?_firstFrom ok (es.map f)).finds code).congr fun c i => and_congr_right fun _ => ?_
  simp [List.getElem?_map]

theorem indexedCheck_finds (code : Nat) (ok : Nat × List Byte → Bool) (es : List (List Byte)) :
    FindsLowest (entryCheck code ok (indexed es)) fun c i => c = code ∧ ∃ e, es[i]? = some e ∧ ¬ok (i, e) = true := by
  refine ((findIdx?_firstFrom ok (indexed es)).finds code).congr fun c i => and_congr_right fun _ => ?_
  simp [indexed]
  grind

/-- A check against the line profile, which is made while there is one (R41, R42). -/
theorem profileCheck_finds {α : Type} {profile : Option Profile} {o : Option Failure} {ok : Profile → α → Bool}
    {f : List Byte → α} {es : List (List Byte)} (absent : profile = none → o = none)
    (present : ∀ p, profile = some p → o = entryCheck 7 (ok p) (es.map f)) :
    FindsLowest o fun c i => c = 7 ∧ ∃ e, es[i]? = some e ∧ ∃ p, profile = some p ∧ ¬ok p (f e) = true := by
  cases profile with
  | none => exact absent rfl ▸ FindsLowest.nil.congr (by simp [FailsOf])
  | some p => exact present p rfl ▸ (entryCheck_finds 7 (ok p) f es).congr (by simp)

/-- An entry clashes with one before it, of the list or of the entries `before` it. -/
def Clashes {α : Type} (clash : α → α → Bool) (before l : List α) (i : Nat) : Prop :=
  ∃ b, l[i]? = some b ∧ ((∃ a ∈ before, clash a b = true) ∨ ∃ j a, j < i ∧ l[j]? = some a ∧ clash a b = true)

theorem Clashes_succ {α : Type} (clash : α → α → Bool) (before l : List α) (x : α) (i : Nat) :
    Clashes clash before (x :: l) (i + 1) ↔ Clashes clash (x :: before) l i := by
  refine exists_congr fun b => and_congr Iff.rfl ?_
  constructor
  · rintro (⟨a, mem, hit⟩ | ⟨j, a, less, at', hit⟩)
    · exact .inl ⟨a, .tail _ mem, hit⟩
    · cases j with
      | zero => exact .inl ⟨a, by simp_all, hit⟩
      | succ j => exact .inr ⟨j, a, by omega, at', hit⟩
  · rintro (⟨a, mem, hit⟩ | ⟨j, a, less, at', hit⟩)
    · rcases List.mem_cons.1 mem with rfl | mem
      · exact .inr ⟨0, a, by omega, rfl, hit⟩
      · exact .inl ⟨a, mem, hit⟩
    · exact .inr ⟨j + 1, a, by omega, at', hit⟩

theorem firstClash_firstFrom {α : Type} (clash : α → α → Bool) (l : List α) (k : Nat) (before : List α) :
    FirstFrom k (firstClash clash k before l) (Clashes clash before l) := by
  induction l generalizing k before with
  | nil => exact .nil fun i => by simp [Clashes]
  | cons x l ih =>
    refine .cons (by simp [Clashes]) ?_
    simpa only [Clashes_succ] using ih (k + 1) (x :: before)

theorem clashCheck_finds {α : Type} (code : Nat) (clash : α → α → Bool) (f : List Byte → α) (es : List (List Byte)) :
    FindsLowest (clashCheck code clash (es.map f)) fun c i => c = code ∧
      ∃ j a b, j < i ∧ es[j]? = some a ∧ es[i]? = some b ∧ clash (f a) (f b) = true := by
  refine ((firstClash_firstFrom clash (es.map f) 0 []).finds code).congr fun c i => and_congr_right fun _ => ?_
  simp only [Clashes, List.getElem?_map, Option.map_eq_some_iff]
  grind

/-- A bin of a group entry stands a second time, in the entry, in one before it, or among the bins `seen` before it (R44). -/
def Repeats (seen : List Nat) (l : List GroupEntry) (i : Nat) : Prop :=
  ∃ g, l[i]? = some g ∧ (¬g.bins.Nodup ∨ ∃ b ∈ g.bins, b ∈ seen ∨ ∃ j a, j < i ∧ l[j]? = some a ∧ b ∈ a.bins)

theorem Repeats_succ (seen : List Nat) (x : GroupEntry) (l : List GroupEntry) (i : Nat) :
    Repeats seen (x :: l) (i + 1) ↔ Repeats (seen ++ x.bins) l i := by
  refine exists_congr fun g => and_congr Iff.rfl (or_congr Iff.rfl (exists_congr fun b => and_congr Iff.rfl ?_))
  constructor
  · rintro (mem | ⟨j, a, less, at', mem⟩)
    · exact .inl (List.mem_append_left _ mem)
    · cases j with
      | zero => exact .inl (List.mem_append_right _ (by simp_all))
      | succ j => exact .inr ⟨j, a, by omega, at', mem⟩
  · rintro (mem | ⟨j, a, less, at', mem⟩)
    · rcases List.mem_append.1 mem with mem | mem
      · exact .inl mem
      · exact .inr ⟨0, x, by omega, rfl, mem⟩
    · exact .inr ⟨j + 1, a, by omega, at', mem⟩

theorem binTwice_firstFrom (l : List GroupEntry) (k : Nat) (seen : List Nat) : FirstFrom k (binTwice k seen l) (Repeats seen l) := by
  induction l generalizing k seen with
  | nil => exact .nil fun i => by simp [Repeats]
  | cons x l ih =>
    refine .cons (by simp [Repeats]) ?_
    simpa only [Repeats_succ] using ih (k + 1) (seen ++ x.bins)

/-! ### The ranges and relations of each table -/

theorem between_iff (lo hi n : Nat) : between lo hi n = true ↔ lo ≤ n ∧ n ≤ hi := by simp [between]

theorem profileRanges_iff (p : Profile) : profileRanges p = true ↔
    (20 ≤ p.pockets ∧ p.pockets ≤ 120) ∧ (8 ≤ p.trackLen ∧ p.trackLen ≤ 64) ∧ p.trackLen ≤ p.pockets ∧
      (64 ≤ p.phases ∧ p.phases ≤ 1024) ∧ (1 ≤ p.periodLo ∧ p.periodLo ≤ 65534) ∧
      (p.periodLo + 1 ≤ p.periodHi ∧ p.periodHi ≤ 65535) ∧ (1 ≤ p.hold ∧ p.hold ≤ 600) ∧ p.retryLimit ≤ 7 := by
  simp only [profileRanges, Bool.and_eq_true, between_iff, decide_eq_true_eq, and_assoc]

theorem nodeFits_iff (p : Profile) (n : NodeEntry) : nodeFits p n = true ↔
    (n.role = some .sorter → n.position + 1 = p.trackLen) ∧ n.windowClose ≤ p.phases - 1 := by
  simp [nodeFits, imp_iff_not_or]

theorem profileFits_iff (s : State) (p : Profile) : profileFits s p = true ↔
    (∀ n ∈ nodesOf s, (n.role = some .sorter → n.position + 1 = p.trackLen) ∧ n.windowClose ≤ p.phases - 1) ∧
      ∀ d ∈ defectPockets s, d < p.pockets := by
  simp only [profileFits, Bool.and_eq_true, List.all_eq_true, nodeFits_iff, decide_eq_true_eq]

theorem windowed_iff (r : Role) : windowed r = true ↔ r ∈ [Role.insertFeeder, .envStation, .caliper, .divertGate, .sorter] := by
  cases r <;> decide

theorem unplaced_iff (r : Role) : unplaced r = true ↔ r ∈ [Role.sheetStation, .closer, .lineComputer, .panel] := by
  cases r <;> decide

theorem nodeRanges_iff (n : NodeEntry) : nodeRanges n = true ↔
    (1 ≤ n.addr ∧ n.addr ≤ 63) ∧ n.role ≠ none ∧
      (if n.role = some .insertFeeder then 1 ≤ n.feeder ∧ n.feeder ≤ 12 else n.feeder = 0) ∧
      ((∃ r ∈ [Role.insertFeeder, .envStation, .caliper, .divertGate, .sorter], n.role = some r) →
        n.windowOpen < n.windowClose ∧ n.windowClose ≤ 1023) ∧
      ((¬∃ r ∈ [Role.insertFeeder, .envStation, .caliper, .divertGate, .sorter], n.role = some r) →
        n.windowOpen = 0 ∧ n.windowClose = 0) ∧
      ((∃ r ∈ [Role.sheetStation, .closer, .lineComputer, .panel], n.role = some r) → n.position = 0) := by
  cases role : n.role with
  | none => simp [nodeRanges, role]
  | some r =>
    have feeder : (if r = .insertFeeder then between 1 12 n.feeder else n.feeder == 0) = true ↔
        if r = .insertFeeder then 1 ≤ n.feeder ∧ n.feeder ≤ 12 else n.feeder = 0 := by
      split <;> simp [between_iff]
    have window : (if windowed r = true then decide (n.windowClose ≤ 1023) && decide (n.windowOpen < n.windowClose)
          else n.windowOpen == 0 && n.windowClose == 0) = true ↔
        (windowed r = true → n.windowOpen < n.windowClose ∧ n.windowClose ≤ 1023) ∧
          (¬windowed r = true → n.windowOpen = 0 ∧ n.windowClose = 0) := by
      cases windowed r <;> simp [and_comm]
    have place : (!unplaced r || n.position == 0) = true ↔ (unplaced r = true → n.position = 0) := by
      cases unplaced r <;> simp
    simp only [nodeRanges, role, Bool.and_eq_true, between_iff, feeder, window, place, ← windowed_iff, ← unplaced_iff,
      Option.some.injEq, exists_eq_right', ne_eq, reduceCtorEq, not_false_eq_true, true_and, and_assoc]

theorem nodesClash_iff (n m : NodeEntry) : nodesClash n m = true ↔ n.addr = m.addr ∨
    n.role = some .insertFeeder ∧ m.role = some .insertFeeder ∧ (n.feeder = m.feeder ∨ n.position = m.position) := by
  simp [nodesClash, and_assoc]

theorem roleCounts_iff (ns : List NodeEntry) : roleCounts ns = true ↔
    (∀ r ∈ [Role.sheetStation, .envReader, .envStation, .caliper, .divertGate, .sorter],
        (ns.countP fun n => n.role == some r) = 1) ∧
      (ns.countP fun n => n.role == some .closer) ≤ 1 ∧
      (1 ≤ (ns.countP fun n => n.role == some .lineComputer) ∧ (ns.countP fun n => n.role == some .lineComputer) ≤ 2) ∧
      (ns.countP fun n => n.role == some .panel) ≤ 2 := by
  simp only [roleCounts, Bool.and_eq_true, List.all_eq_true, beq_iff_eq, between_iff, decide_eq_true_eq, and_assoc]

/-- The position order of a line, whichever entries have the roles (R42). -/
def InOrder (ns : List NodeEntry) : Prop :=
  ∀ b e c d x, b ∈ ns → e ∈ ns → c ∈ ns → d ∈ ns → x ∈ ns → b.role = some .envReader → e.role = some .envStation →
    c.role = some .caliper → d.role = some .divertGate → x.role = some .sorter →
    b.position + 1 = e.position ∧ 1 ≤ b.position ∧ e.position < c.position ∧ c.position < d.position ∧ d.position < x.position ∧
      ∀ f ∈ ns, f.role = some .insertFeeder → 0 < f.position ∧ f.position + 1 < e.position

/-- A role that one entry has: that entry, and its position as the check of the order reads it (R42). -/
theorem position_of_count_one {ns : List NodeEntry} {r : Role} (one : (ns.countP fun n => n.role == some r) = 1) :
    ∃ n ∈ ns, n.role = some r ∧ (∀ m ∈ ns, m.role = some r → m = n) ∧
      ((ns.find? fun n => n.role == some r).map (·.position)).getD 0 = n.position := by
  rw [List.countP_eq_length_filter, List.length_eq_one_iff] at one
  obtain ⟨n, only⟩ := one
  have mem : ∀ m, m ∈ ns ∧ m.role = some r ↔ m = n := fun m => by
    have filtered : m ∈ ns.filter (fun n => n.role == some r) ↔ m ∈ [n] := by rw [only]
    simpa using filtered
  obtain ⟨inside, role⟩ := (mem n).2 rfl
  refine ⟨n, inside, role, fun m hm hr => (mem m).1 ⟨hm, hr⟩, ?_⟩
  rw [← List.head?_filter, only]
  rfl

/-- With each role counted once, the check of the order reads the entries that have the roles (R42). -/
theorem positionOrder_iff {ns : List NodeEntry} (counts : roleCounts ns = true) : positionOrder ns = true ↔ InOrder ns := by
  obtain ⟨one, -⟩ := (roleCounts_iff ns).1 counts
  obtain ⟨b, bIn, bRole, bOnly, bPos⟩ := position_of_count_one (one .envReader (by simp))
  obtain ⟨e, eIn, eRole, eOnly, ePos⟩ := position_of_count_one (one .envStation (by simp))
  obtain ⟨c, cIn, cRole, cOnly, cPos⟩ := position_of_count_one (one .caliper (by simp))
  obtain ⟨d, dIn, dRole, dOnly, dPos⟩ := position_of_count_one (one .divertGate (by simp))
  obtain ⟨x, xIn, xRole, xOnly, xPos⟩ := position_of_count_one (one .sorter (by simp))
  have read : positionOrder ns = true ↔ b.position + 1 = e.position ∧ 1 ≤ b.position ∧
      (∀ f ∈ ns, f.role = some .insertFeeder → 0 < f.position ∧ f.position + 1 < e.position) ∧
      e.position < c.position ∧ c.position < d.position ∧ d.position < x.position := by
    simp only [positionOrder, bPos, ePos, cPos, dPos, xPos]
    simp [and_assoc, imp_iff_not_or]
  rw [read]
  constructor
  · rintro ⟨next, low, feeders, caliper, gate, sorter⟩ b' e' c' d' x' hb he hc hd hx rb re rc rd rx
    rw [bOnly b' hb rb, eOnly e' he re, cOnly c' hc rc, dOnly d' hd rd, xOnly x' hx rx]
    exact ⟨next, low, caliper, gate, sorter, feeders⟩
  · intro order
    obtain ⟨next, low, caliper, gate, sorter, feeders⟩ :=
      order b e c d x bIn eIn cIn dIn xIn bRole eRole cRole dRole xRole
    exact ⟨next, low, feeders, caliper, gate, sorter⟩

theorem jobRanges_iff (e : List Byte) : jobRanges e = true ↔
    entNum e 0 2 ≤ 2000 ∧ (1 ≤ entNum e 2 2 ∧ entNum e 2 2 ≤ 100) ∧ (1 ≤ entNum e 4 2 ∧ entNum e 4 2 ≤ 1000) ∧
      (1 ≤ entByte e 7 ∧ entByte e 7 ≤ 7) ∧ (1 ≤ entByte e 8 ∧ entByte e 8 ≤ 24) ∧
      (4 ≤ entNum e 9 2 ∧ entNum e 9 2 ≤ 1000) := by
  simp only [jobRanges, Bool.and_eq_true, between_iff, decide_eq_true_eq, and_assoc]

theorem feederRanges_iff (e : List Byte) : feederRanges e = true ↔
    entNum e 0 2 ≤ 1000 ∧ entByte e 2 ≤ 12 ∧ entByte e 3 ≤ 6 := by
  simp only [feederRanges, Bool.and_eq_true, decide_eq_true_eq, and_assoc]

/-- An entry whose alternate names itself, or a feeder whose own alternate is a third (R43). -/
theorem alternateOk_iff (es : List (List Byte)) (i : Nat) (e : List Byte) : ¬alternateOk es (i, e) = true ↔
    i ≠ 0 ∧ entByte e 2 ≠ 0 ∧ (entByte e 2 = i ∨ ∃ a, es[entByte e 2]? = some a ∧ entByte a 2 ≠ 0 ∧ entByte a 2 ≠ i) := by
  have beyond : entByte zeroEntry 2 = 0 := rfl
  simp only [alternateOk, List.getD_eq_getElem?_getD]
  cases es[entByte e 2]? with
  | none => simp [beyond, and_assoc]
  | some a => simp [imp_iff_not_or, and_assoc]

theorem schemeRanges_iff (e : SchemeEntry) : schemeRanges e = true ↔
    e.digits ∈ [3, 5, 9, 11] ∧ e.group ≤ 63 ∧ e.low ≤ e.high ∧ e.high < 10 ^ e.digits := by
  simp only [schemeRanges, Bool.and_eq_true, List.contains_iff_mem, decide_eq_true_eq, and_assoc]
  refine and_congr Iff.rfl (and_congr Iff.rfl ⟨fun ⟨_, high, le⟩ => ⟨le, high⟩, fun ⟨le, high⟩ => ?_⟩)
  exact ⟨Nat.lt_of_le_of_lt le high, high, le⟩

theorem schemeClash_iff (a b : SchemeEntry) : schemeClash a b = true ↔
    a.digits = b.digits ∧ a.low ≤ b.high ∧ b.low ≤ a.high := by
  simp only [schemeClash, Bool.and_eq_true, beq_iff_eq, decide_eq_true_eq, and_assoc]

theorem groupRanges_iff (g : GroupEntry) : groupRanges g = true ↔
    g.length ≤ 5 ∧ (∀ b ∈ g.bins, 1 ≤ b ∧ b ≤ 16) ∧ (1 ≤ g.mode ∧ g.mode ≤ 2) ∧ (1 ≤ g.action ∧ g.action ≤ 2) := by
  simp only [groupRanges, Bool.and_eq_true, List.all_eq_true, between_iff, decide_eq_true_eq, and_assoc]

/-! ### The checks of each table, in their order -/

/-- The checks of each table in the order in which they are made: the code of each, and the indexes at which it fails. -/
def tableChecks (t : TableId) (es : List (List Byte)) (s : State) : List (Nat × (Nat → Prop)) :=
  match t with
  | .lineProfile => [
      (2, fun i => i = 65535 ∧ ¬(es.length == 1) = true),
      (3, fun i => ∃ e, es[i]? = some e ∧ ¬profileRanges (profileOfEntry e) = true),
      (7, fun i => i = 65535 ∧ ¬profileFits s (profileOfEntry (es.headD zeroEntry)) = true)]
  | .nodeTable => [
      (2, fun i => i = 65535 ∧ ¬decide (1 ≤ (es.map nodeOfEntry).length) = true),
      (3, fun i => ∃ e, es[i]? = some e ∧ ¬nodeRanges (nodeOfEntry e) = true),
      (4, fun i => ∃ j a b, j < i ∧ es[j]? = some a ∧ es[i]? = some b ∧ nodesClash (nodeOfEntry a) (nodeOfEntry b) = true),
      (5, fun i => i = 65535 ∧ ¬roleCounts (es.map nodeOfEntry) = true),
      (6, fun i => i = 65535 ∧ ¬InOrder (es.map nodeOfEntry)),
      (7, fun i => ∃ e, es[i]? = some e ∧ ∃ p, profileOf s = some p ∧ ¬nodeFits p (nodeOfEntry e) = true)]
  | .jobTable => [
      (2, fun i => i = 65535 ∧ ¬decide (1 ≤ es.length) = true),
      (3, fun i => ∃ e, es[i]? = some e ∧ ¬(if i = 0 then jobRanges e else feederRanges e) = true),
      (8, fun i => ∃ e, es[i]? = some e ∧ ¬alternateOk es (i, e) = true)]
  | .defectList => [
      (4, fun i => ∃ j a b, j < i ∧ es[j]? = some a ∧ es[i]? = some b ∧ (entByte a 0 == entByte b 0) = true),
      (7, fun i => ∃ e, es[i]? = some e ∧ ∃ p, profileOf s = some p ∧ ¬decide (entByte e 0 < p.pockets) = true)]
  | .scheme => [
      (3, fun i => ∃ e, es[i]? = some e ∧ ¬schemeRanges (schemeOfEntry e) = true),
      (9, fun i => ∃ j a b, j < i ∧ es[j]? = some a ∧ es[i]? = some b ∧ schemeClash (schemeOfEntry a) (schemeOfEntry b) = true)]
  | .groupTable => [
      (3, fun i => ∃ e, es[i]? = some e ∧ ¬groupRanges (groupOfEntry e) = true),
      (4, Repeats [] (es.map groupOfEntry))]
  | .binTable => [
      (2, fun i => i = 65535 ∧ ¬(es.length == 17) = true),
      (3, fun i => ∃ e, es[i]? = some e ∧ ¬(i == 0 || between 1 999 (entNum e 0 2)) = true)]

/-- The failure codes of a table's structural checks (R39). -/
def tableCodes : TableId → List Nat
  | .lineProfile => [2, 3, 7]
  | .nodeTable => [2, 3, 4, 5, 6, 7]
  | .jobTable => [2, 3, 8]
  | .defectList => [4, 7]
  | .scheme => [3, 9]
  | .groupTable => [3, 4]
  | .binTable => [2, 3]

theorem tableChecks_codes (t : TableId) (es : List (List Byte)) (s : State) :
    (tableChecks t es s).map (·.1) = tableCodes t := by cases t <;> rfl

theorem checkProfile_finds (es : List (List Byte)) (s : State) :
    FindsLowest (checkProfile es s) (FailsOf (tableChecks .lineProfile es s)) :=
  .cons (wholeCheck_finds ..) (fun _ => .cons (entryCheck_finds ..) (fun _ => .cons (wholeCheck_finds ..) (fun _ => .nil)
    (by simp)) (by simp)) (by simp)

theorem checkNodes_finds (es : List (List Byte)) (s : State) :
    FindsLowest (checkNodes es s) (FailsOf (tableChecks .nodeTable es s)) := by
  have order (counted : wholeCheck 5 (roleCounts (es.map nodeOfEntry)) = none) :
      FindsLowest (wholeCheck 6 (positionOrder (es.map nodeOfEntry))) fun c i =>
        c = 6 ∧ i = 65535 ∧ ¬InOrder (es.map nodeOfEntry) := by
    have counts : roleCounts (es.map nodeOfEntry) = true := by simpa [wholeCheck] using counted
    exact (wholeCheck_finds ..).congr fun c i => by rw [positionOrder_iff counts]
  refine .cons (wholeCheck_finds ..) (fun _ => .cons (entryCheck_finds ..) (fun _ => .cons (clashCheck_finds ..)
    (fun _ => .cons (wholeCheck_finds ..) (fun counted => .cons (order counted) (fun _ => .cons ?_ (fun _ => .nil)
    (by simp)) (by simp)) (by simp)) (by simp)) (by simp)) (by simp)
  exact profileCheck_finds (fun absent => by rw [absent]) (fun p present => by rw [present])

theorem checkJob_finds (es : List (List Byte)) (s : State) :
    FindsLowest (checkJob es) (FailsOf (tableChecks .jobTable es s)) :=
  .cons (wholeCheck_finds ..) (fun _ => .cons (indexedCheck_finds ..) (fun _ => .cons (indexedCheck_finds ..) (fun _ => .nil)
    (by simp)) (by simp)) (by simp)

theorem checkDefects_finds (es : List (List Byte)) (s : State) :
    FindsLowest (checkDefects es s) (FailsOf (tableChecks .defectList es s)) := by
  refine .cons (clashCheck_finds 4 (fun a b => a == b) (fun e => entByte e 0) es) (fun _ => .cons ?_ (fun _ => .nil)
    (by simp)) (by simp)
  exact profileCheck_finds (ok := fun p d => decide (d < p.pockets)) (f := fun e => entByte e 0)
    (fun absent => by rw [absent]) (fun p present => by rw [present])

theorem checkScheme_finds (es : List (List Byte)) (s : State) :
    FindsLowest (checkScheme es) (FailsOf (tableChecks .scheme es s)) :=
  .cons (entryCheck_finds ..) (fun _ => .cons (clashCheck_finds ..) (fun _ => .nil) (by simp)) (by simp)

theorem checkGroups_finds (es : List (List Byte)) (s : State) :
    FindsLowest (checkGroups es) (FailsOf (tableChecks .groupTable es s)) :=
  .cons (entryCheck_finds ..) (fun _ => .cons ((binTwice_firstFrom ..).finds 4) (fun _ => .nil) (by simp)) (by simp)

theorem checkBins_finds (es : List (List Byte)) (s : State) :
    FindsLowest (checkBins es) (FailsOf (tableChecks .binTable es s)) :=
  .cons (wholeCheck_finds ..) (fun _ => .cons (indexedCheck_finds ..) (fun _ => .nil) (by simp)) (by simp)

/-- The structural checks report the failure of lowest code, then of lowest index, of the table's own checks (R39). -/
theorem structural_finds (t : TableId) (es : List (List Byte)) (s : State) :
    FindsLowest (structural t es s) (FailsOf (tableChecks t es s)) := by
  cases t
  · exact checkProfile_finds es s
  · exact checkNodes_finds es s
  · exact checkJob_finds es s
  · exact checkDefects_finds es s
  · exact checkScheme_finds es s
  · exact checkGroups_finds es s
  · exact checkBins_finds es s

/-- The bins of a group table that stand a second time, entry by entry (R44). -/
theorem Repeats_map_iff (es : List (List Byte)) (i : Nat) : Repeats [] (es.map groupOfEntry) i ↔
    (∃ e, es[i]? = some e ∧ ¬(groupOfEntry e).bins.Nodup) ∨
      ∃ j a b, j < i ∧ es[j]? = some a ∧ es[i]? = some b ∧ ∃ k, k ∈ (groupOfEntry a).bins ∧ k ∈ (groupOfEntry b).bins := by
  simp only [Repeats, List.getElem?_map, Option.map_eq_some_iff]
  grind

/-- Settles O39: the structural checks find the lowest failure of the table's checks, and each check fails where the statement says. -/
theorem structuralChecksFindTheFirstFailure : Obligations.StructuralChecksFindTheFirstFailure := by
  intro t es s
  have findings : ∀ {P : Nat → Nat → Prop}, FindsLowest (structural t es s) P →
      (structural t es s = none ↔ ∀ code i, ¬P code i) ∧
        ∀ code i, structural t es s = some (code, i) → P code i ∧ ∀ c j, P c j → code < c ∨ code = c ∧ i ≤ j :=
    fun h => ⟨h.none_iff, h.lowest⟩
  dsimp only
  refine findings ((structural_finds t es s).of_checks ?each ?rest)
  case rest =>
    rw [tableChecks_codes]
    intro c unlisted i failure
    split at failure
    case h_21 => exact failure
    all_goals exact unlisted (by decide)
  clear findings
  cases t <;> simp only [tableChecks, List.forall_mem_cons, List.not_mem_nil, false_imp_iff, implies_true, and_true]
  case lineProfile => simp only [profileRanges_iff, profileFits_iff, beq_iff_eq, ne_eq, implies_true, and_true]
  case nodeTable =>
    simp only [nodeRanges_iff, nodesClash_iff, roleCounts_iff, nodeFits_iff, InOrder, List.forall_mem_cons, List.not_mem_nil,
      false_imp_iff, implies_true, and_true]
    simp
  case jobTable =>
    refine ⟨fun _ => by simp, fun i => ?_, fun i => ?_⟩
    · by_cases first : i = 0 <;> simp only [first, if_true, if_false, jobRanges_iff, feederRanges_iff, ne_eq, not_true_eq_false,
        not_false_eq_true, true_and, false_and, or_false, false_or]
    · simp only [alternateOk_iff]
      grind
  case defectList => simp
  case scheme => simp only [schemeRanges_iff, schemeClash_iff, implies_true, and_true]
  case groupTable => simp only [groupRanges_iff, Repeats_map_iff, implies_true, and_true]
  case binTable =>
    refine ⟨fun _ => by simp, fun i => ?_⟩
    simp only [Bool.or_eq_true, beq_iff_eq, between_iff]
    grind

end Sys2Proof.Machine
end

section
/-! What leaves use with a table and what comes into use with it: the pairs, the feeders, the users of each table (R46). -/

namespace Sys2Proof.Machine

/-! ### The evaluation of the pairs (R121, R122) -/

theorem evalPairs_feeders (s : State) :
    (evalPairs s).feeders = { s.feeders with pairs := Vector.ofFn fun i => standingOf (i.val + 1) s } := by
  simp only [evalPairs]
  repeat' split
  all_goals simp

theorem evalPairs_pair {p : Nat} (h : p < 6) (s : State) : vget (evalPairs s).feeders.pairs p = standingOf (p + 1) s := by
  simp [evalPairs_feeders, vget, h]

/-- The evaluation of the pairs raises and lowers ESSENTIAL LOST only (R122). -/
theorem up_evalPairs {k : LatchKind} (other : k ≠ .essentialLost) (drive : k ≠ .driveRate) (timing : k ≠ .stationTiming) (s : State) :
    up k (evalPairs s) = up k s := by
  have same : latch k (evalPairs s) = latch k s := by
    simp only [evalPairs]
    repeat' split
    · rw [latch_raise _ _ _ drive timing, if_neg other]
      rfl
    · rfl
    · rw [latch_lower_of_ne _ other]
      rfl
  simp only [up, same]

/-- ESSENTIAL LOST raised in a stopped state changes no line state (R160). -/
theorem raise_essential_of_stopped {s : State} (stopped : stoppedLine s.line.state = true) (a b : Nat) :
    raise .essentialLost a b s = takeRaising .essentialLost a b s := by
  have state : (takeRaising .essentialLost a b s).line.state = s.line.state := takeRaising_state ..
  simp only [raise, raiseFor, respond, respondEssential, state, reduceCtorEq, false_and, if_false]
  revert stopped
  cases s.line.state <;> simp [stoppedLine]

theorem evalPairs_pitch_of_stopped {s : State} (stopped : stoppedLine s.line.state = true) : (evalPairs s).pitch = s.pitch := by
  simp only [evalPairs]
  repeat' split
  · refine (congrArg State.pitch (raise_essential_of_stopped ?_ _ _)).trans (by simp)
    exact stopped
  · rfl
  · simp

/-- With no pair standing LOST, ESSENTIAL LOST is lowered (R122). -/
theorem evalPairs_of_none_lost {s : State} (none : ∀ n, standingOf n s ≠ .lost) : evalPairs s =
    lower .essentialLost { s with feeders := { s.feeders with pairs := Vector.ofFn fun i => standingOf (i.val + 1) s } } := by
  have newly : ((List.range 6).find? fun i => vget (Vector.ofFn fun i : Fin 6 => standingOf (i.val + 1) s) i == .lost &&
      vget s.feeders.pairs i != .lost) = Option.none := by
    refine List.find?_eq_none.2 fun i mem => ?_
    have place : i < 6 := List.mem_range.1 mem
    simp [vget, place, none]
  have stands : ((Vector.ofFn fun i : Fin 6 => standingOf (i.val + 1) s).toList.any (· == .lost)) = false := by
    rw [List.any_eq_false]
    intro x mem
    obtain ⟨i, place, rfl⟩ := Vector.mem_iff_getElem.1 (Vector.mem_toList_iff.1 mem)
    simp [none]
  simp only [evalPairs, newly, stands, Bool.false_eq_true, if_false]

/-- There is no pair without working values (R121). -/
theorem standingOf_of_no_work {s : State} (h : s.tables.work = none) (n : Nat) : standingOf n s = .none := by
  simp [standingOf, pairMembers, h]

theorem feederJob_of_tables {s t : State} (h : t.tables = s.tables) (k : Nat) : feederJob k t = feederJob k s := by
  simp only [feederJob, h]

/-- With no feeder present a pair that has members stands LOST (R121). -/
theorem standingOf_of_no_feeder {s t : State} (h : t.feeders.recs = FeederMgr.cold.recs) (tables : t.tables = s.tables) (n : Nat) :
    standingOf n t = if s.tables.work.isSome && allFeeders.any (fun k => (feederJob k s).pair == n) then .lost else .none := by
  have absent : ∀ k ∈ allFeeders, (feederRec k t).state = .none := fun k mem => by
    obtain ⟨j, place, rfl⟩ := List.mem_map.1 mem
    simp only [feederRec, h, FeederMgr.cold, Nat.add_sub_cancel, vget_replicate _ (List.mem_range.1 place)]
  have members : ∀ k ∈ pairMembers n t, (feederRec k t).state = .none := fun k mem => by
    refine absent k ?_
    simp only [pairMembers] at mem
    split at mem
    · exact List.mem_of_mem_filter mem
    · exact absurd mem (List.not_mem_nil)
  have covers : ((pairMembers n t).any fun k => available k t) = false := by
    rw [List.any_eq_false]
    intro k mem
    simp [available, members k mem]
  have empty : pairMembers n t ≠ [] → ((pairMembers n t).all fun k => (feederRec k t).state == .empty) = false := fun some => by
    obtain ⟨k, mem⟩ := List.exists_mem_of_ne_nil _ some
    rw [List.all_eq_false]
    exact ⟨k, mem, by simp [members k mem]⟩
  have exist : pairMembers n t ≠ [] ↔ (s.tables.work.isSome && allFeeders.any fun k => (feederJob k s).pair == n) = true := by
    simp only [pairMembers, tables, feederJob_of_tables tables]
    cases s.tables.work.isSome <;> simp
  by_cases some : pairMembers n t = []
  · have none := mt exist.2 (not_not.2 some)
    simp [standingOf, some, none]
  · rw [if_pos (exist.1 some)]
    simp [standingOf, some, covers, empty some]

/-! ### The feeders, when the node table leaves use or comes into use (R110) -/

/-- With no feeder FAULTED, FEEDER FAULT is lowered (R115). -/
theorem up_evalFault_of_no_fault {s : State} (h : ∀ r ∈ s.feeders.recs.toList, r.state ≠ .faulted) :
    up .feederFault (evalFault s) = false := by
  have none : (s.feeders.recs.toList.any fun r => r.state == .faulted) = false := by
    rw [List.any_eq_false]
    intro r mem
    simp [h r mem]
  rw [evalFault, if_neg (by simp [none])]
  exact up_lower _ _

theorem up_lower_of_ne {j k : LatchKind} (other : j ≠ k) (s : State) : up j (lower k s) = up j s := by
  simp only [up, latch_lower_of_ne _ other]

theorem up_evalFault {k : LatchKind} (other : k ≠ .feederFault) (s : State) : up k (evalFault s) = up k s := by
  simp only [up, evalFault]
  split
  · rfl
  · rw [latch_lower_of_ne _ other]

theorem evalFault_state (s : State) : (evalFault s).line.state = s.line.state := by
  simp only [evalFault]
  split
  · rfl
  · exact lower_state ..

theorem feedersOutOfUse_sets (s : State) : (feedersOutOfUse s).stage = s.stage ∧ (feedersOutOfUse s).track = s.track := by
  simp [feedersOutOfUse]

theorem feedersIntoUse_sets (s : State) : (feedersIntoUse s).stage = s.stage ∧ (feedersIntoUse s).track = s.track := by
  simp [feedersIntoUse]

theorem feedersOutOfUse_pitch {s : State} (stopped : stoppedLine s.line.state = true) : (feedersOutOfUse s).pitch = s.pitch := by
  rw [feedersOutOfUse, evalPairs_pitch_of_stopped (by rw [evalFault_state]; exact stopped)]
  simp

theorem feedersIntoUse_pitch {s : State} (stopped : stoppedLine s.line.state = true) : (feedersIntoUse s).pitch = s.pitch := by
  rw [feedersIntoUse, evalPairs_pitch_of_stopped (by rw [evalFault_state]; exact stopped)]
  simp

theorem up_feedersOutOfUse {k : LatchKind} (fault : k ≠ .feederFault) (lost : k ≠ .essentialLost) (drive : k ≠ .driveRate)
    (timing : k ≠ .stationTiming) (s : State) : up k (feedersOutOfUse s) = up k s := by
  rw [feedersOutOfUse, up_evalPairs lost drive timing, up_evalFault fault]
  rfl

theorem up_feederFault_feedersOutOfUse (s : State) : up .feederFault (feedersOutOfUse s) = false := by
  rw [feedersOutOfUse, up_evalPairs (by simp) (by simp) (by simp)]
  refine up_evalFault_of_no_fault fun r mem => ?_
  have cold : r = { state := .none, misses := 0, timing := 0 } := by simpa [FeederMgr.cold] using mem
  rw [cold]
  nofun

theorem feedersOutOfUse_recs (s : State) : (feedersOutOfUse s).feeders.recs = FeederMgr.cold.recs := by
  simp [feedersOutOfUse, evalPairs_feeders]

theorem feedersIntoUse_recs (s : State) : (feedersIntoUse s).feeders.recs = presentFeeders s := by
  simp [feedersIntoUse, evalPairs_feeders]

/-- A feeder's record in the cold values (R110). -/
theorem feederRec_of_cold {s : State} (h : s.feeders.recs = FeederMgr.cold.recs) {k : Nat} (low : 1 ≤ k) (high : k ≤ 12) :
    feederRec k s = { state := .none, misses := 0, timing := 0 } := by
  simp only [feederRec, h, FeederMgr.cold]
  exact vget_replicate _ (by omega)

/-- A pair when the node table has left use (R121). -/
theorem feedersOutOfUse_pair {p : Nat} (place : p < 6) {s t : State} (tables : t.tables = s.tables) :
    vget (feedersOutOfUse t).feeders.pairs p =
      if s.tables.work.isSome && allFeeders.any (fun k => (feederJob k s).pair == p + 1) then .lost else .none := by
  rw [feedersOutOfUse, evalPairs_pair place]
  exact standingOf_of_no_feeder (by simp) (by simpa using tables) _

/-! ### One table of the Table Store -/

theorem put_others (t : TableStore) (i : TableId) (x : Table) : (t.put i x).work = t.work ∧ (t.put i x).lastFold = t.lastFold ∧
    (t.put i x).staged = t.staged ∧ (t.put i x).hold = t.hold ∧ (t.put i x).settling = t.settling := by
  cases i <;> exact ⟨rfl, rfl, rfl, rfl, rfl⟩

theorem get_put_self (t : TableStore) (i : TableId) (x : Table) : (t.put i x).get i = x := by rw [get_put, if_pos rfl]

/-! ### What leaves use with a table (R46) -/

section Leave

variable (t : TableId) (s : State)

theorem leaveUse_frame :
    (∀ u, (leaveUse t s).tables.get u = s.tables.get u) ∧ (leaveUse t s).tables.hold = s.tables.hold ∧
    (leaveUse t s).tables.settling = s.tables.settling ∧ (leaveUse t s).tables.pull = s.tables.pull ∧
    (leaveUse t s).acct.queue = s.acct.queue ∧ (leaveUse t s).stage = s.stage ∧ (leaveUse t s).outcomes = s.outcomes ∧
    (leaveUse t s).loop.mgmtIn = s.loop.mgmtIn := by
  cases t
  case jobTable =>
    simp only [leaveUse, jobLeaves, evalPairs_frame, evalPairs_sets, and_self, and_true]
    intro u
    cases u <;> rfl
  all_goals simp [leaveUse, profileLeaves, nodesLeave, groupsOutOfUse, feedersOutOfUse_sets]

variable {t}

theorem leaveUse_work (h : t ≠ .jobTable) :
    (leaveUse t s).tables.work = s.tables.work ∧ (leaveUse t s).tables.staged = s.tables.staged := by
  cases t
  case jobTable => exact absurd rfl h
  all_goals simp [leaveUse, profileLeaves, nodesLeave, groupsOutOfUse]

theorem leaveUse_presort (h : t ≠ .groupTable) : (leaveUse t s).presort = s.presort := by
  cases t
  case groupTable => exact absurd rfl h
  all_goals simp [leaveUse, profileLeaves, nodesLeave, jobLeaves]

theorem leaveUse_track (profile : t ≠ .lineProfile) (node : t ≠ .nodeTable) : (leaveUse t s).track = s.track := by
  cases t
  case lineProfile => exact absurd rfl profile
  case nodeTable => exact absurd rfl node
  all_goals simp [leaveUse, jobLeaves, groupsOutOfUse]

theorem leaveUse_feeders (node : t ≠ .nodeTable) (job : t ≠ .jobTable) : (leaveUse t s).feeders = s.feeders := by
  cases t
  case nodeTable => exact absurd rfl node
  case jobTable => exact absurd rfl job
  all_goals simp [leaveUse, profileLeaves, groupsOutOfUse]

theorem leaveUse_nodeRecs (node : t ≠ .nodeTable) : (leaveUse t s).loop.nodeRecs = s.loop.nodeRecs := by
  cases t
  case nodeTable => exact absurd rfl node
  all_goals simp [leaveUse, profileLeaves, jobLeaves, groupsOutOfUse]

variable {s}

theorem leaveUse_pitch (stopped : stoppedLine s.line.state = true) (profile : t ≠ .lineProfile) :
    (leaveUse t s).pitch = s.pitch := by
  cases t
  case lineProfile => exact absurd rfl profile
  case nodeTable =>
    simp only [leaveUse, nodesLeave]
    rw [feedersOutOfUse_pitch]
    · simp
    · simpa using stopped
  case jobTable => exact evalPairs_pitch_of_stopped stopped
  all_goals simp [leaveUse, groupsOutOfUse]

end Leave


end Sys2Proof.Machine
end

section
/-! LOAD (O37). -/

namespace Sys2Proof.Machine

/-! ### The load windows (R45) -/

theorem anyBinOpen_iff (s : State) : anyBinOpen s = false ↔ ∀ b, 1 ≤ b → b ≤ 16 → (binRec b s).state ≠ .opened := by
  simp only [anyBinOpen, List.any_eq_false, Vector.mem_toList_iff, beq_iff_eq]
  constructor
  · intro none b low high
    have place : b - 1 < 16 := by omega
    simp only [binRec, vget, dif_pos place]
    exact none _ (Vector.getElem_mem place)
  · intro none r mem
    obtain ⟨i, place, rfl⟩ := Vector.mem_iff_getElem.1 mem
    have shut := none (i + 1) (by omega) (by omega)
    simpa only [binRec, Nat.add_sub_cancel, vget, dif_pos place] using shut

theorem stoppedLine_iff (l : LineState) : stoppedLine l = true ↔ l = .halted ∨ l = .paused := by cases l <;> decide

theorem inWindow_iff (t : TableId) (s : State) : inWindow t s = true ↔
    (t ∈ [TableId.lineProfile, .nodeTable, .defectList] ∧ s.line.state = .halted) ∨
    (t = .jobTable ∧ (s.line.state = .halted ∨ s.line.state = .paused)) ∨
    (t ∈ [TableId.scheme, .groupTable, .binTable] ∧ (s.line.state = .halted ∨ s.line.state = .paused) ∧
      ∀ b, 1 ≤ b → b ≤ 16 → (binRec b s).state ≠ .opened) := by
  rw [← stoppedLine_iff, ← anyBinOpen_iff]
  cases t <;> simp [inWindow]

/-- In every load window the line is stopped (R45). -/
theorem stopped_of_inWindow {t : TableId} {s : State} (h : inWindow t s = true) : stoppedLine s.line.state = true := by
  rw [stoppedLine_iff]
  rcases (inWindow_iff t s).1 h with ⟨-, state⟩ | ⟨-, state⟩ | ⟨-, state, -⟩
  · exact .inl state
  · exact state
  · exact state

/-! ### What leaves use, table by table (R46) -/

/-- The job table leaves use: no working values, nothing staged, no pair, ESSENTIAL LOST lowered (R36, R47, R121). -/
theorem jobLeaves_spec (s : State) : (jobLeaves s).tables.work = none ∧ (jobLeaves s).tables.staged = Staged.none ∧
    (∀ p, p < 6 → vget (jobLeaves s).feeders.pairs p = .none) ∧ up .essentialLost (jobLeaves s) = false := by
  refine ⟨by simp [jobLeaves], by simp [jobLeaves], fun p place => ?_, ?_⟩
  · exact (evalPairs_pair place _).trans (standingOf_of_no_work rfl _)
  · rw [jobLeaves, evalPairs_of_none_lost fun n => by rw [standingOf_of_no_work rfl]; nofun]
    exact up_lower _ _

/-- The node records, the sets of nodes and the positions are gone, before any condition is lowered. -/
def nodesCleared (s : State) : State :=
  { s with
    loop := { s.loop with nodeRecs := [] }
    line := { s.line with jammed := [], stationLoss := [] }
    track := { s.track with positions := false } }

theorem nodesLeave_eq (s : State) :
    nodesLeave s = feedersOutOfUse (clearAwaited (lower .jam (lower .nodeLost (nodesCleared s)))) := rfl

theorem up_clearAwaited (k : LatchKind) (s : State) : up k (clearAwaited s) = up k s := rfl

/-- The node table leaves use (R23, R92, R110, R121, R156). -/
theorem nodesLeave_spec (s : State) : (nodesLeave s).loop.nodeRecs = [] ∧ (nodesLeave s).line.jammed = [] ∧
    (nodesLeave s).line.stationLoss = [] ∧ up .jam (nodesLeave s) = false ∧ up .nodeLost (nodesLeave s) = false ∧
    up .feederFault (nodesLeave s) = false ∧
    (nodesLeave s).track = { s.track with positions := false, recs := s.track.recs.map fun r => { r with awaited := none } } ∧
    (∀ k, 1 ≤ k → k ≤ 12 → feederRec k (nodesLeave s) = { state := .none, misses := 0, timing := 0 }) ∧
    ∀ p, p < 6 → vget (nodesLeave s).feeders.pairs p =
      if s.tables.work.isSome && allFeeders.any (fun k => (feederJob k s).pair == p + 1) then .lost else .none := by
  have tables : (clearAwaited (lower .jam (lower .nodeLost (nodesCleared s)))).tables = s.tables := by simp [nodesCleared]
  rw [nodesLeave_eq]
  refine ⟨by simp [nodesCleared], by simp [nodesCleared], by simp [nodesCleared], ?_, ?_, up_feederFault_feedersOutOfUse _, ?_,
    fun k => feederRec_of_cold (feedersOutOfUse_recs _), fun p place => feedersOutOfUse_pair place tables⟩
  · rw [up_feedersOutOfUse (by simp) (by simp) (by simp) (by simp), up_clearAwaited, up_lower]
  · rw [up_feedersOutOfUse (by simp) (by simp) (by simp) (by simp), up_clearAwaited, up_lower_of_ne (by simp), up_lower]
  · simp [nodesCleared, feedersOutOfUse_sets, clearAwaited, putTrack]

/-- The group table leaves use (R129). -/
theorem groupsOutOfUse_spec (s : State) : up .groupExhausted (groupsOutOfUse s) = false ∧
    (groupsOutOfUse s).presort.bins = s.presort.bins ∧ (groupsOutOfUse s).presort.overflow = s.presort.overflow ∧
    (groupsOutOfUse s).presort.reportedFull = s.presort.reportedFull ∧
    ∀ g, g < 64 → groupRec g (groupsOutOfUse s) = GroupRec.unused (groupRec g s).tray := by
  refine ⟨up_lower _ _, by simp [groupsOutOfUse], by simp [groupsOutOfUse], by simp [groupsOutOfUse], fun g place => ?_⟩
  simp [groupRec, groupsOutOfUse, groupsOfEntries, vget, place]

/-! ### The write of an entry (R36) -/

/-- A LOAD of a table or an index that does not exist. -/
theorem exec_load_of_no_table {c : Cell} {s : State} (takes : Takes 0x30 c s) (none : tableOfNumber (loadForm c).table = none) :
    exec .load s = .next (replied c .arg [] (handed c s)) := by
  simp only [exec, execLoad, request_of_takes takes, loadHandler, none]
  rfl

section Write

variable {c : Cell} {s : State} {t : TableId} (takes : Takes 0x30 c s) (table : tableOfNumber (loadForm c).table = some t)

include takes table

theorem exec_load_of_beyond (beyond : tableSize t ≤ (loadForm c).index) :
    exec .load s = .next (replied c .arg [] (handed c s)) := by
  simp only [exec, execLoad, request_of_takes takes, loadHandler, table, if_pos beyond]
  rfl

theorem exec_load_of_outside (inside : (loadForm c).index < tableSize t) (outside : inWindow t s = false) :
    exec .load s = .next (replied c .protected_ [] (handed c s)) := by
  have outside' : inWindow t (handed c s) = false := outside
  simp only [exec, execLoad, request_of_takes takes, loadHandler, table, if_neg (Nat.not_le.2 inside), outside', Bool.not_false,
    if_true]
  rfl

/-- A LOAD within its window writes its entry to the table, made LOADING first where it is not (R36). -/
theorem exec_load_of_inside (inside : (loadForm c).index < tableSize t) (window : inWindow t s = true) :
    exec .load s = .next (replied c .accepted
      (beBytes 1 2 ++ beBytes 2 (((startLoading t (handed c s)).tables.get t).write (loadForm c).index (loadForm c).entry).loadCount ++
        beBytes 1 (discarded t s))
      (putTable t (((startLoading t (handed c s)).tables.get t).write (loadForm c).index (loadForm c).entry)
        (startLoading t (handed c s)))) := by
  have window' : inWindow t (handed c s) = true := window
  simp only [exec, execLoad, request_of_takes takes, loadHandler, table, if_neg (Nat.not_le.2 inside), window', Bool.not_true,
    Bool.false_eq_true, if_false]
  rfl

end Write

/-- The state in which a table that is loaded afresh has become LOADING, before its users are told (R36). -/
def becomesLoading (t : TableId) (s : State) : State := putTable t (s.tables.get t).toLoading s

theorem startLoading_of_loading {t : TableId} {s : State} (h : (s.tables.get t).state = .loading) : startLoading t s = s := if_pos h

theorem startLoading_of_other {t : TableId} {s : State} (h : (s.tables.get t).state ≠ .loading) :
    startLoading t s = leaveUse t (becomesLoading t s) := if_neg h

theorem discarded_of_loading {t : TableId} {s : State} (h : (s.tables.get t).state = .loading) : discarded t s = 0 := by
  refine if_neg ?_
  rintro ⟨rfl, other⟩
  exact other h

theorem discarded_of_other {t : TableId} {s : State} (h : (s.tables.get t).state ≠ .loading) :
    discarded t s = if t = .jobTable then s.tables.staged.count else 0 := by
  by_cases job : t = .jobTable
  · subst job
    rw [if_pos rfl]
    exact if_pos ⟨rfl, h⟩
  · rw [if_neg job]
    exact if_neg fun both => job both.1

theorem entNum_zeroEntry : entNum zeroEntry 0 2 = 0 := by decide

theorem capacityOf_of_not_valid {s : State} (h : s.tables.bin.state ≠ .valid) (b : Nat) : capacityOf b s = 0 := by
  simp [capacityOf, contents, h, entNum_zeroEntry]

theorem warningLevel_of_not_valid {s : State} (h : s.tables.bin.state ≠ .valid) : warningLevel s = 0 := by
  simp [warningLevel, contents, h, entNum_zeroEntry]

/-- Settles O37: the windows and the reading of a written entry by their own lemmas, then the four outcomes of a LOAD, the last with what
each table's users keep and lose. -/
theorem loadWritesOneEntry : Obligations.LoadWritesOneEntry := by
  refine ⟨inWindow_iff, fun m i j e wf => entRead_entWrite i j e wf, fun c s takes => ⟨exec_load_of_no_table takes,
    fun t table => ⟨exec_load_of_beyond takes table, exec_load_of_outside takes table, fun inside window loading below => ?_,
      fun inside window other => ?_⟩⟩⟩
  · have loading' : ((handed c s).tables.get t).state = .loading := loading
    have written : ((handed c s).tables.get t).write (loadForm c).index (loadForm c).entry = { s.tables.get t with
        entries := entWrite (s.tables.get t).entries (loadForm c).index (loadForm c).entry
        loadCount := (s.tables.get t).loadCount + 1 } := by
      have next : satInc 65535 (s.tables.get t).loadCount = (s.tables.get t).loadCount + 1 := if_pos below
      rw [← next]
      rfl
    rw [exec_load_of_inside takes table inside window, startLoading_of_loading loading', discarded_of_loading loading, written]
    rfl
  · have other' : ((handed c s).tables.get t).state ≠ .loading := other
    have stopped : stoppedLine (becomesLoading t (handed c s)).line.state = true := stopped_of_inWindow window
    obtain ⟨get, hold, settling, pull, queue, stage, outcomes, mgmt⟩ := leaveUse_frame t (becomesLoading t (handed c s))
    obtain ⟨work', -, staged', hold', settling'⟩ := put_others s.tables t (s.tables.get t).toLoading
    have self : (becomesLoading t (handed c s)).tables.get t = (s.tables.get t).toLoading := get_put_self ..
    have written : ((leaveUse t (becomesLoading t (handed c s))).tables.get t).write (loadForm c).index (loadForm c).entry =
        { s.tables.get t with
          state := .loading, entries := entWrite [] (loadForm c).index (loadForm c).entry, loadCount := 1, count := 0,
          checksum := 0 } := by
      rw [get, self]
      rfl
    rw [exec_load_of_inside takes table inside window, startLoading_of_other other', discarded_of_other other, written]
    generalize left : leaveUse t (becomesLoading t (handed c s)) = u at *
    refine ⟨_, rfl, get_put_self .., ?_⟩
    generalize entry : Table.mk TableState.loading _ _ _ _ _ _ = x
    have state : x.state ≠ .valid := entry ▸ nofun
    obtain ⟨work, lastFold, staged, hold'', settling''⟩ := put_others u.tables t x
    refine ⟨fun i different => ?_, ?job, ?profile, ?node, ?group, ?bin, ?line, fun profile => ?_, fun group => ?_,
      fun profile node => ?_, fun node job => ?_, fun node => ?_, fun job => ?_, hold''.trans (hold.trans hold'),
      settling''.trans (settling.trans settling'), (put_pull ..).trans (pull.trans (put_pull ..)), queue, stage, outcomes, mgmt⟩
    case job =>
      rintro rfl
      have spec := jobLeaves_spec (becomesLoading .jobTable (handed c s))
      rw [show jobLeaves _ = u from left] at spec
      exact spec
    case profile =>
      rintro rfl
      subst left
      exact ⟨rfl, rfl, rfl⟩
    case node =>
      rintro rfl
      have spec := nodesLeave_spec (becomesLoading .nodeTable (handed c s))
      rw [show nodesLeave _ = u from left] at spec
      exact spec
    case group =>
      rintro rfl
      have spec := groupsOutOfUse_spec (becomesLoading .groupTable (handed c s))
      rw [show groupsOutOfUse _ = u from left] at spec
      exact spec
    case bin =>
      rintro rfl
      exact ⟨capacityOf_of_not_valid state, warningLevel_of_not_valid state⟩
    case line =>
      intro mem
      subst left
      simp only [List.mem_cons, List.not_mem_nil, or_false] at mem
      rcases mem with rfl | rfl | rfl <;> rfl
    · exact (get_put ..).trans ((if_neg different).trans ((get i).trans ((get_put ..).trans (if_neg different))))
    · exact left ▸ leaveUse_pitch stopped profile
    · exact left ▸ leaveUse_presort _ group
    · exact left ▸ leaveUse_track _ profile node
    · exact left ▸ leaveUse_feeders _ node job
    · exact left ▸ leaveUse_nodeRecs _ node
    · obtain ⟨workLeft, stagedLeft⟩ := leaveUse_work (becomesLoading t (handed c s)) job
      rw [left] at workLeft stagedLeft
      exact ⟨work.trans (workLeft.trans work'), staged.trans (stagedLeft.trans staged')⟩

end Sys2Proof.Machine
end

section
/-! COMMIT (O38). -/

namespace Sys2Proof.Machine

/-! ### The commits that judge nothing (R37) -/

theorem exec_commit_of_no_table {c : Cell} {s : State} (takes : Takes 0x31 c s)
    (none : tableOfNumber (commitForm c).table = none) : exec .commit s = .next (replied c .arg [] (handed c s)) := by
  simp only [exec, execCommit, request_of_takes takes, commitHandler, none]
  rfl

section Commit

variable {c : Cell} {s : State} {t : TableId} (takes : Takes 0x31 c s) (table : tableOfNumber (commitForm c).table = some t)

include takes table

theorem exec_commit_of_beyond (beyond : tableSize t < (commitForm c).count) :
    exec .commit s = .next (replied c .arg [] (handed c s)) := by
  simp only [exec, execCommit, request_of_takes takes, commitHandler, table, if_pos beyond]
  rfl

theorem exec_commit_of_outside (within : (commitForm c).count ≤ tableSize t) (outside : inWindow t s = false) :
    exec .commit s = .next (replied c .protected_ (beBytes 1 (tableStateCode (s.tables.get t).state)) (handed c s)) := by
  have outside' : inWindow t (handed c s) = false := outside
  simp only [exec, execCommit, request_of_takes takes, commitHandler, table, if_neg (Nat.not_lt.2 within), outside', Bool.not_false,
    if_true]
  rfl

theorem exec_commit_of_not_loading (within : (commitForm c).count ≤ tableSize t) (window : inWindow t s = true)
    (other : (s.tables.get t).state ≠ .loading) :
    exec .commit s = .next (replied c .state (beBytes 1 (tableStateCode (s.tables.get t).state)) (handed c s)) := by
  have window' : inWindow t (handed c s) = true := window
  have other' : ((handed c s).tables.get t).state ≠ .loading := other
  simp only [exec, execCommit, request_of_takes takes, commitHandler, table, if_neg (Nat.not_lt.2 within), window', Bool.not_true,
    Bool.false_eq_true, if_false, if_pos other']
  rfl

/-- A LOADING table within its window is judged (R37, R38, R39). -/
theorem exec_commit_of_judged (within : (commitForm c).count ≤ tableSize t) (window : inWindow t s = true)
    (loading : (s.tables.get t).state = .loading) : exec .commit s = .next
      (answer c (judgeCommit t c.src.toNat (commitForm c).count (commitForm c).checksum (handed c s)).2
        (judgeCommit t c.src.toNat (commitForm c).count (commitForm c).checksum (handed c s)).1) := by
  have window' : inWindow t (handed c s) = true := window
  have loading' : ¬((handed c s).tables.get t).state ≠ .loading := not_not.2 loading
  simp only [exec, execCommit, request_of_takes takes, commitHandler, table, if_neg (Nat.not_lt.2 within), window', Bool.not_true,
    Bool.false_eq_true, if_false, if_neg loading']

end Commit

/-! ### The judgement (R38, R39) -/

theorem selfKept_iff (src : Nat) (es : List (List Byte)) : selfKept src es = true ↔
    ∃ n ∈ es.map nodeOfEntry, n.addr = src ∧ n.role = some .lineComputer := by
  simp only [selfKept, List.any_eq_true, Bool.and_eq_true, beq_iff_eq]

section Judge

variable {t : TableId} {src count expected : Nat} {s : State}

/-- A node table that does not keep its sender is refused (R39). -/
theorem judgeCommit_of_locked (same : checksumOf .nodeTable (s.tables.get .nodeTable).entries count = expected)
    (locked : selfKept src (firstEntries (s.tables.get .nodeTable) count) = false) :
    judgeCommit .nodeTable src count expected s = commitLocked .nodeTable expected s := by
  simp only [judgeCommit, same, ne_eq, not_true_eq_false, if_false, locked, and_self, if_true]

theorem not_locked (kept : t = .nodeTable → selfKept src (firstEntries (s.tables.get t) count) = true) :
    ¬(t = .nodeTable ∧ selfKept src (firstEntries (s.tables.get t) count) = false) := by
  rintro ⟨node, locked⟩
  simp [kept node] at locked

/-- Past the checksum and its sender's keeping, a structural failure leaves the table BAD (R39). -/
theorem judgeCommit_of_failure {f : Failure} (same : checksumOf t (s.tables.get t).entries count = expected)
    (kept : t = .nodeTable → selfKept src (firstEntries (s.tables.get t) count) = true)
    (failure : structural t (firstEntries (s.tables.get t) count) s = some f) :
    judgeCommit t src count expected s = commitBad t expected f s := by
  simp only [judgeCommit, same, ne_eq, not_true_eq_false, if_false, if_neg (not_locked kept), failure]

/-- Past the checksum and its sender's keeping, a table with no structural failure becomes VALID (R39). -/
theorem judgeCommit_of_sound (same : checksumOf t (s.tables.get t).entries count = expected)
    (kept : t = .nodeTable → selfKept src (firstEntries (s.tables.get t) count) = true)
    (none : structural t (firstEntries (s.tables.get t) count) s = none) :
    judgeCommit t src count expected s = commitValid t count expected (firstEntries (s.tables.get t) count) s := by
  simp only [judgeCommit, same, ne_eq, not_true_eq_false, if_false, if_neg (not_locked kept), none]

end Judge

/-! ### What comes into use with a table (R46) -/

section Come

variable (t : TableId) (es : List (List Byte)) (s : State)

theorem comeIntoUse_frame :
    (∀ u, (comeIntoUse t es s).tables.get u = s.tables.get u) ∧ (comeIntoUse t es s).tables.staged = s.tables.staged ∧
    (comeIntoUse t es s).tables.hold = s.tables.hold ∧ (comeIntoUse t es s).tables.pull = s.tables.pull ∧
    (comeIntoUse t es s).acct.queue = s.acct.queue ∧ (comeIntoUse t es s).stage = s.stage ∧
    (comeIntoUse t es s).outcomes = s.outcomes := by
  cases t
  case jobTable =>
    simp only [comeIntoUse, jobComes, evalPairs_frame, evalPairs_sets, jobTables, and_self, and_true]
    intro u
    cases u <;> rfl
  all_goals simp [comeIntoUse, profileComes, nodesCome, groupsIntoUse, feedersIntoUse_sets]

variable {t}

theorem comeIntoUse_work (h : t ≠ .jobTable) : (comeIntoUse t es s).tables.work = s.tables.work ∧
    (comeIntoUse t es s).tables.lastFold = s.tables.lastFold ∧ (comeIntoUse t es s).tables.settling = s.tables.settling := by
  cases t
  case jobTable => exact absurd rfl h
  all_goals simp [comeIntoUse, profileComes, nodesCome, groupsIntoUse]

theorem comeIntoUse_presort (h : t ≠ .groupTable) : (comeIntoUse t es s).presort = s.presort := by
  cases t
  case groupTable => exact absurd rfl h
  all_goals simp [comeIntoUse, profileComes, nodesCome, jobComes]

theorem comeIntoUse_track (h : t ≠ .lineProfile) : (comeIntoUse t es s).track = s.track := by
  cases t
  case lineProfile => exact absurd rfl h
  all_goals simp [comeIntoUse, nodesCome, jobComes, groupsIntoUse, feedersIntoUse_sets]

theorem comeIntoUse_feeders (node : t ≠ .nodeTable) (job : t ≠ .jobTable) : (comeIntoUse t es s).feeders = s.feeders := by
  cases t
  case nodeTable => exact absurd rfl node
  case jobTable => exact absurd rfl job
  all_goals simp [comeIntoUse, profileComes, groupsIntoUse]

variable (t) {s}

theorem comeIntoUse_pitch (stopped : stoppedLine s.line.state = true) : (comeIntoUse t es s).pitch = s.pitch := by
  cases t
  case nodeTable =>
    simp only [comeIntoUse, nodesCome]
    rw [feedersIntoUse_pitch]
    exact stopped
  case jobTable =>
    simp only [comeIntoUse, jobComes]
    rw [evalPairs_pitch_of_stopped]
    exact stopped
  all_goals simp [comeIntoUse, profileComes, groupsIntoUse]

end Come

/-- The working values a committed job table sets, entry by entry (R43, R47). -/
theorem jobFeeders_get {k : Nat} (low : 1 ≤ k) (high : k ≤ 12) (es : List (List Byte)) : vget (jobFeeders es) (k - 1) =
    (match es[k]? with
      | some e => { caliper := entNum e 0 2, alternate := entByte e 2, pair := entByte e 3 }
      | none => { caliper := 0, alternate := 0, pair := 0 }) := by
  obtain ⟨j, rfl⟩ := Nat.exists_eq_add_of_le' low
  have place : j < 12 := by omega
  simp only [vget, jobFeeders, Nat.add_sub_cancel, dif_pos place, Vector.getElem_ofFn]
  cases es[j + 1]? <;> rfl

/-- The job table comes into use (R47, R51). -/
theorem jobComes_spec (es : List (List Byte)) (s : State) : (jobComes es s).tables =
    jobTables (workingOfEntries (es.headD zeroEntry) (jobFeeders es)) s.tables := by simp [jobComes]

/-- The settling counter after a change of fold or envelope class (R51). -/
theorem jobTables_settling (w : Working) (t : TableStore) : (jobTables w t).settling =
    if t.lastFold = none ∨ t.lastFold = some (w.fold, w.envClass) then t.settling else 2 := by
  cases last : t.lastFold with
  | none => simp [jobTables, last]
  | some fold => by_cases same : fold = (w.fold, w.envClass) <;> simp [jobTables, last, same]

/-- The line profile comes into use: TRACK_LEN empty records (R92). -/
theorem profileComes_spec {s : State} {p : Profile} (profile : profileOf s = some p) :
    (profileComes s).track.recs = List.replicate p.trackLen (newPocket none) := by
  simp [profileComes, profile, freshTrack, putTrack]

/-- The node table comes into use (R23, R30, R110). -/
theorem nodesCome_spec (s : State) :
    (nodesCome s).loop.nodeRecs = List.replicate s.tables.node.count NodeRec.fresh ∧ (nodesCome s).loop.lastManager = none ∧
    ∀ k, 1 ≤ k → k ≤ 12 → feederRec k (nodesCome s) = {
      state := if (nodesOf s).any fun n => n.role == some .insertFeeder && n.feeder == k then .ready else .none
      misses := 0, timing := 0 } := by
  refine ⟨by simp [nodesCome], by simp [nodesCome], fun k low high => ?_⟩
  simp only [feederRec, nodesCome, feedersIntoUse_recs, vget_presentFeeders low high, nodeOf, List.find?_isSome, List.any_eq_true]
  rfl

/-- The group table comes into use (R129). -/
theorem groupsIntoUse_spec (es : List (List Byte)) (s : State) : up .groupExhausted (groupsIntoUse es s) = false ∧
    (groupsIntoUse es s).presort.bins = s.presort.bins ∧ (groupsIntoUse es s).presort.overflow = s.presort.overflow ∧
    ∀ g, g < 64 → groupRec g (groupsIntoUse es s) = (match es[g]? with
      | some e =>
        let p := groupOfEntry e
        { rotation := p.bins, mode := if p.mode = 2 then .loop else .single
          action := if p.action = 2 then .stop else .overflow, index := 0
          state := if p.bins = [] then .unused else .active, tray := (groupRec g s).tray }
      | none => { rotation := [], mode := .single, action := .overflow, index := 0, state := .unused
                  tray := (groupRec g s).tray }) := by
  refine ⟨up_lower _ _, by simp [groupsIntoUse], by simp [groupsIntoUse], fun g place => ?_⟩
  have group : groupRec g (groupsIntoUse es s) = vget (groupsOfEntries es s.presort.groups) g := by simp [groupRec, groupsIntoUse]
  rw [group]
  simp only [vget, dif_pos place, groupsOfEntries, Vector.getElem_ofFn]
  cases es[g]? with
  | none => simp [groupRec, vget, place, GroupRec.unused]
  | some e => simp [groupRec, vget, place, List.isEmpty_iff]

/-- A VALID bin table's capacities and warning level, of entries 0 to 16 (R44, R130, R136). -/
theorem capacities_of_contents {s : State} {es : List (List Byte)} (h : contents s.tables.bin = es) (b : Nat) :
    capacityOf b s = entNum (es.getD b zeroEntry) 0 2 ∧ warningLevel s = entNum (es.getD 0 zeroEntry) 0 2 := by
  simp only [capacityOf, warningLevel, h, and_self]

theorem firstEntries_getD {x : Table} {n i : Nat} (h : i < n) : (firstEntries x n).getD i zeroEntry = entRead x.entries i := by
  simp [firstEntries, h]

theorem firstEntries_length (x : Table) (n : Nat) : (firstEntries x n).length = n := by simp [firstEntries]

/-- What the structural checks let pass has the number of entries that the table must have (R41, R44). -/
theorem length_of_structural {t : TableId} {es : List (List Byte)} {s : State} (none : structural t es s = none) :
    (t = .lineProfile → es.length = 1) ∧ (t = .binTable → es.length = 17) := by
  have clean := (structural_finds t es s).none_iff.1 none
  constructor <;> rintro rfl <;> by_contra length
  · exact clean 2 65535 ⟨_, .head _, rfl, by simpa using length⟩
  · exact clean 2 65535 ⟨_, .head _, rfl, by simpa using length⟩

/-! ### TABLE BAD is judged (R40) -/

theorem evalTableBad_frame (s : State) : (evalTableBad s).pitch = s.pitch ∧ (evalTableBad s).loop = s.loop ∧
    (evalTableBad s).tables = s.tables ∧ (evalTableBad s).acct = s.acct ∧ (evalTableBad s).stage = s.stage ∧
    (evalTableBad s).track = s.track ∧ (evalTableBad s).feeders = s.feeders ∧ (evalTableBad s).presort = s.presort ∧
    (evalTableBad s).outcomes = s.outcomes := by
  simp only [evalTableBad]
  split <;> simp

theorem up_evalTableBad {k : LatchKind} (other : k ≠ .tableBad) (s : State) : up k (evalTableBad s) = up k s := by
  simp only [evalTableBad]
  split
  · rfl
  · exact up_lower_of_ne other s

/-- With no table BAD, TABLE BAD is lowered (R40). -/
theorem up_tableBad_evalTableBad {s : State} (none : (allTables.all fun u => (s.tables.get u).state != .bad) = true) :
    up .tableBad (evalTableBad s) = false := by
  have clean : ¬(allTables.any fun u => (s.tables.get u).state == .bad) = true := by
    simp only [List.any_eq_true, not_exists, not_and]
    intro u mem
    simpa using List.all_eq_true.1 none u mem
  rw [evalTableBad, if_neg clean]
  exact up_lower _ _

/-! ### A table becomes VALID (R39, R40, R46) -/

/-- The state in which a table has become VALID, before its users are told (R39). -/
def becomesValid (t : TableId) (count sum : Nat) (s : State) : State := putTable t ((s.tables.get t).committed count sum) s

/-- The state a commit leaves that makes its table VALID (R39, R40, R46). -/
def inUse (t : TableId) (count sum : Nat) (s : State) : State :=
  evalTableBad (comeIntoUse t (firstEntries (s.tables.get t) count) (becomesValid t count sum s))

theorem commitValid_eq (t : TableId) (count sum : Nat) (s : State) :
    commitValid t count sum (firstEntries (s.tables.get t) count) s =
      (inUse t count sum s, commitReply .accepted .valid 0 sum Config.noIndex) := rfl

section InUse

variable (t : TableId) (count sum : Nat) (s : State)

theorem becomesValid_get (u : TableId) : (becomesValid t count sum s).tables.get u =
    if u = t then (s.tables.get t).committed count sum else s.tables.get u := get_put ..

theorem becomesValid_tables : (becomesValid t count sum s).tables.work = s.tables.work ∧
    (becomesValid t count sum s).tables.lastFold = s.tables.lastFold ∧ (becomesValid t count sum s).tables.staged = s.tables.staged ∧
    (becomesValid t count sum s).tables.hold = s.tables.hold ∧ (becomesValid t count sum s).tables.settling = s.tables.settling :=
  put_others ..

theorem becomesValid_frame : (becomesValid t count sum s).pitch = s.pitch ∧ (becomesValid t count sum s).loop = s.loop ∧
    (becomesValid t count sum s).acct = s.acct ∧ (becomesValid t count sum s).stage = s.stage ∧
    (becomesValid t count sum s).track = s.track ∧ (becomesValid t count sum s).feeders = s.feeders ∧
    (becomesValid t count sum s).presort = s.presort ∧ (becomesValid t count sum s).line = s.line ∧
    (becomesValid t count sum s).outcomes = s.outcomes := ⟨rfl, rfl, rfl, rfl, rfl, rfl, rfl, rfl, rfl⟩

theorem inUse_tables : (∀ u, (inUse t count sum s).tables.get u =
      if u = t then (s.tables.get t).committed count sum else s.tables.get u) ∧
    (inUse t count sum s).tables.staged = s.tables.staged ∧ (inUse t count sum s).tables.hold = s.tables.hold ∧
    (inUse t count sum s).tables.pull = s.tables.pull := by
  obtain ⟨-, -, staged', hold', -⟩ := becomesValid_tables t count sum s
  have pull' : (becomesValid t count sum s).tables.pull = s.tables.pull := put_pull ..
  obtain ⟨get, staged, hold, pull, -⟩ := comeIntoUse_frame t (firstEntries (s.tables.get t) count) (becomesValid t count sum s)
  simp only [inUse, evalTableBad_frame, get, staged, hold, pull, staged', hold', pull', becomesValid_get, implies_true, and_self]

theorem inUse_frame : (inUse t count sum s).acct.queue = s.acct.queue ∧ (inUse t count sum s).stage = s.stage ∧
    (inUse t count sum s).outcomes = s.outcomes := by
  obtain ⟨-, -, -, -, queue, stage, outcomes⟩ :=
    comeIntoUse_frame t (firstEntries (s.tables.get t) count) (becomesValid t count sum s)
  simp only [inUse, evalTableBad_frame, queue, stage, outcomes, becomesValid_frame, and_self]

variable {t} {s}

theorem inUse_pitch (stopped : stoppedLine s.line.state = true) : (inUse t count sum s).pitch = s.pitch := by
  simp only [inUse, evalTableBad_frame]
  exact comeIntoUse_pitch (s := becomesValid t count sum s) t _ stopped

variable (s)

theorem inUse_work (h : t ≠ .jobTable) : (inUse t count sum s).tables.work = s.tables.work ∧
    (inUse t count sum s).tables.lastFold = s.tables.lastFold ∧ (inUse t count sum s).tables.settling = s.tables.settling := by
  simp only [inUse, evalTableBad_frame, comeIntoUse_work _ _ h, becomesValid_tables, and_self]

theorem inUse_presort (h : t ≠ .groupTable) : (inUse t count sum s).presort = s.presort := by
  simp only [inUse, evalTableBad_frame, comeIntoUse_presort _ _ h, becomesValid_frame]

theorem inUse_track (h : t ≠ .lineProfile) : (inUse t count sum s).track = s.track := by
  simp only [inUse, evalTableBad_frame, comeIntoUse_track _ _ h, becomesValid_frame]

theorem inUse_feeders (node : t ≠ .nodeTable) (job : t ≠ .jobTable) : (inUse t count sum s).feeders = s.feeders := by
  simp only [inUse, evalTableBad_frame, comeIntoUse_feeders _ _ node job, becomesValid_frame]

/-- The job table in use: its working values, the fold last applied, and the settling counter (R43, R47, R51). -/
theorem inUse_job : (inUse .jobTable count sum s).tables =
    jobTables (workingOfEntries ((firstEntries s.tables.job count).headD zeroEntry) (jobFeeders (firstEntries s.tables.job count)))
      (becomesValid .jobTable count sum s).tables := by
  simp only [inUse, evalTableBad_frame]
  exact jobComes_spec ..

/-- The line profile in use: its track (R92). -/
theorem inUse_profile : (inUse .lineProfile count sum s).track.recs =
    List.replicate (profileOfEntry (entRead s.tables.profile.entries 0)).trackLen (newPocket none) := by
  simp only [inUse, evalTableBad_frame]
  exact profileComes_spec rfl

/-- The node table in use: its node records and feeders, and no manager remembered (R23, R30, R110). -/
theorem inUse_node : (inUse .nodeTable count sum s).loop.nodeRecs = List.replicate count NodeRec.fresh ∧
    (inUse .nodeTable count sum s).loop.lastManager = none ∧
    ∀ k, 1 ≤ k → k ≤ 12 → feederRec k (inUse .nodeTable count sum s) = {
      state := if ((firstEntries s.tables.node count).map nodeOfEntry).any fun n => n.role == some .insertFeeder && n.feeder == k
        then .ready else .none
      misses := 0, timing := 0 } := by
  have entries : nodesOf (becomesValid .nodeTable count sum s) = (firstEntries s.tables.node count).map nodeOfEntry := rfl
  have listed : (becomesValid .nodeTable count sum s).tables.node.count = count := rfl
  obtain ⟨recs, manager, feeder⟩ := nodesCome_spec (becomesValid .nodeTable count sum s)
  simp only [feederRec, entries] at feeder
  simp only [inUse, feederRec, evalTableBad_frame, comeIntoUse, recs, manager, listed]
  exact ⟨trivial, trivial, feeder⟩

/-- The group table in use: its groups, the bins as they were, and GROUP EXHAUSTED lowered (R129). -/
theorem inUse_group : up .groupExhausted (inUse .groupTable count sum s) = false ∧
    (inUse .groupTable count sum s).presort = (groupsIntoUse (firstEntries s.tables.group count) s).presort := by
  simp only [inUse, evalTableBad_frame, up_evalTableBad (k := .groupExhausted) (by simp)]
  refine ⟨up_lower _ _, ?_⟩
  simp only [comeIntoUse, groupsIntoUse, lower_frame, becomesValid_frame]
  rfl

/-- The bin table in use: its capacities and its warning level (R130, R136). -/
theorem inUse_bin {b : Nat} (count17 : count = 17) (high : b ≤ 16) :
    capacityOf b (inUse .binTable count sum s) = entNum (entRead s.tables.bin.entries b) 0 2 ∧
    warningLevel (inUse .binTable count sum s) = entNum (entRead s.tables.bin.entries 0) 0 2 := by
  have bin : (inUse .binTable count sum s).tables.bin = s.tables.bin.committed count sum :=
    (inUse_tables .binTable count sum s).1 .binTable
  have entries : contents (inUse .binTable count sum s).tables.bin = firstEntries s.tables.bin count := by rw [bin]; rfl
  obtain ⟨capacity, level⟩ := capacities_of_contents entries b
  rw [capacity, level, firstEntries_getD (by omega), firstEntries_getD (by omega)]
  exact ⟨rfl, rfl⟩

/-- TABLE BAD after a commit that leaves no table BAD (R40). -/
theorem inUse_tableBad (clean : (allTables.all fun u => ((inUse t count sum s).tables.get u).state != .bad) = true) :
    up .tableBad (inUse t count sum s) = false := by
  refine up_tableBad_evalTableBad ?_
  simpa only [inUse, evalTableBad_frame] using clean

end InUse

/-- Settles O38: the checks in their order, each with its own lemma; a table that comes into use with what its users then hold. -/
theorem commitJudgesATable : Obligations.CommitJudgesATable := by
  refine fun c s takes => ⟨exec_commit_of_no_table takes, fun t table => ⟨exec_commit_of_beyond takes table,
    exec_commit_of_outside takes table, exec_commit_of_not_loading takes table, ?_, ?_, ?_⟩⟩
  · rintro ⟨within, window, loading⟩ differs
    have differs' : checksumOf t ((handed c s).tables.get t).entries (commitForm c).count ≠ (commitForm c).checksum := differs
    rw [exec_commit_of_judged takes table within window loading, judgeCommit_of_sum_ne differs']
    rfl
  · rintro ⟨within, window, loading⟩ same rfl gone
    have same' : checksumOf .nodeTable ((handed c s).tables.get .nodeTable).entries (commitForm c).count = (commitForm c).checksum := same
    have locked : selfKept c.src.toNat (firstEntries ((handed c s).tables.get .nodeTable) (commitForm c).count) = false := by
      rw [← Bool.not_eq_true, selfKept_iff]
      rintro ⟨n, mem, sender⟩
      exact gone n mem sender
    rw [exec_commit_of_judged takes table within window loading, judgeCommit_of_locked same' locked, ← same]
    rfl
  · rintro ⟨within, window, loading⟩ same kept
    have same' : checksumOf t ((handed c s).tables.get t).entries (commitForm c).count = (commitForm c).checksum := same
    have kept' : t = .nodeTable → selfKept c.src.toNat (firstEntries ((handed c s).tables.get t) (commitForm c).count) = true :=
      fun node => (selfKept_iff ..).2 (kept node)
    rw [exec_commit_of_judged takes table within window loading]
    refine ⟨fun code index failure => ?_, fun none => ?_⟩
    · have failure' : structural t (firstEntries ((handed c s).tables.get t) (commitForm c).count) (handed c s) =
        some (code, index) := failure
      rw [judgeCommit_of_failure same' kept' failure', ← same]
      rfl
    · have none' : structural t (firstEntries ((handed c s).tables.get t) (commitForm c).count) (handed c s) = .none := none
      have stopped : stoppedLine (handed c s).line.state = true := stopped_of_inWindow window
      rw [judgeCommit_of_sound same' kept' none', ← same, commitValid_eq]
      generalize sumIs : checksumOf t (s.tables.get t).entries (commitForm c).count = sum
      obtain ⟨get, staged, hold, pull⟩ := inUse_tables t (commitForm c).count sum (handed c s)
      obtain ⟨queue, stage, outcomes⟩ := inUse_frame t (commitForm c).count sum (handed c s)
      refine ⟨inUse t (commitForm c).count sum (handed c s), rfl, (get t).trans (if_pos rfl),
        fun u different => (get u).trans (if_neg different), inUse_work _ _ _, ?job, ?profile, ?node, ?group, ?bin,
        inUse_presort _ _ _, inUse_track _ _ _, inUse_feeders _ _ _, inUse_pitch _ _ stopped, staged, hold, pull, queue, stage, outcomes,
        inUse_tableBad _ _ _⟩
      case job =>
        rintro rfl
        rw [inUse_job]
        refine ⟨_, rfl, ⟨rfl, rfl, rfl, rfl, rfl, rfl, rfl, rfl, fun k low high => ?_⟩, rfl, jobTables_settling ..⟩
        exact jobFeeders_get low high (firstEntries s.tables.job (commitForm c).count)
      case profile =>
        rintro rfl
        have one : (firstEntries s.tables.profile (commitForm c).count).length = 1 := (length_of_structural none).1 rfl
        have head : (firstEntries s.tables.profile (commitForm c).count).headD zeroEntry = entRead s.tables.profile.entries 0 := by
          rw [firstEntries_length] at one
          rw [one]
          rfl
        rw [inUse_profile, List.length_replicate]
        refine ⟨congrArg (fun e => (profileOfEntry e).trackLen) head.symm, fun r mem => ?_⟩
        rw [(List.mem_replicate.1 mem).2]
        rfl
      case node =>
        rintro rfl
        exact inUse_node (commitForm c).count sum (handed c s)
      case group =>
        rintro rfl
        obtain ⟨lowered, presort⟩ := inUse_group (commitForm c).count sum (handed c s)
        obtain ⟨-, bins, overflow, group⟩ :=
          groupsIntoUse_spec (firstEntries (handed c s).tables.group (commitForm c).count) (handed c s)
        simp only [groupRec, presort]
        exact ⟨lowered, bins, overflow, group⟩
      case bin =>
        rintro rfl
        have all : (commitForm c).count = 17 := (firstEntries_length ..).symm.trans ((length_of_structural none).2 rfl)
        exact ⟨(inUse_bin (b := 0) _ sum (handed c s) all (by omega)).2,
          fun b _ high => (inUse_bin _ sum (handed c s) all high).1⟩

end Sys2Proof.Machine
end

section
/-! The account queue and the pull list stay ordered (O7, O8). -/

namespace Sys2Proof.Machine

/-- The account queue's order under every update the part's operations are made of: only the update of the Account Queue touches it, and
keeps it (R57). -/
theorem closed_accountsOrdered : Closed AccountsOrdered where
  pins _ _ h := h
  stage _ _ h := h
  track _ _ h := h
  feeders _ _ h := h
  presort _ _ h := h
  outcomes _ _ h := h
  draws _ _ h := h
  pitch _ _ _ _ _ h := h
  line _ _ _ _ h := h
  raised _ _ _ _ h := h
  lowered _ _ _ h := h
  cleared _ _ _ h := h
  moved s n c h := by simpa only [AccountsOrdered, updateDrive_frame, lowerTiming_frame] using h
  estop s b t h := by simpa only [AccountsOrdered, updateDrive_frame, putPitch_acct] using h
  loop _ _ _ h := h
  tables _ _ _ _ h := h
  pull _ _ _ h := h
  acct _ _ keeps h := keeps h

/-- An empty queue with no half waiting, no tail and no run base is in order (R70). -/
theorem accounts_cold : Accounts AccountQueue.cold.queue AccountQueue.cold.halfA AccountQueue.cold.tail AccountQueue.cold.base where
  rising := List.Pairwise.nil
  bounded := Nat.zero_le _
  between := nofun
  together := rfl
  ordered := nofun
  next := nofun

theorem accountsOrdered_deviceValues (s : State) : AccountsOrdered (deviceValues s) := by
  rw [deviceValues_eq]
  exact accounts_cold

/-- Settles O7: the order is closed under the updates every operation is made of, and the two resets establish it. -/
theorem accountQueueStaysOrdered : Obligations.AccountQueueStaysOrdered := fun _ _ h e =>
  step_keeps closed_accountsOrdered (fun _ _ _ => accounts_cold) (fun s _ => accountsOrdered_deviceValues s) (fun _ _ h => h) e h

/-- The pull list's order under every update the part's operations are made of: the Table Store's update leaves the list, and the list's
own keeps its order (R66, R67). -/
theorem closed_pullListOrdered : Closed PullListOrdered where
  pins _ _ h := h
  stage _ _ h := h
  track _ _ h := h
  feeders _ _ h := h
  presort _ _ h := h
  outcomes _ _ h := h
  draws _ _ h := h
  pitch _ _ _ _ _ h := h
  line _ _ _ _ h := h
  raised _ _ _ _ h := h
  lowered _ _ _ h := h
  cleared _ _ _ h := h
  moved s n c h := by simpa only [PullListOrdered, updateDrive_frame, lowerTiming_frame] using h
  estop s b t h := by simpa only [PullListOrdered, updateDrive_frame, putPitch_tables] using h
  loop _ _ _ h := h
  tables s t same _ h := by simpa only [PullListOrdered, same] using h
  pull _ _ keeps h := keeps h
  acct _ _ _ h := h

/-- An empty pull list is in order (R70). -/
theorem pullOk_nil : pullOk [] := ⟨List.Pairwise.nil, Nat.zero_le _⟩

theorem pullListOrdered_deviceValues (s : State) : PullListOrdered (deviceValues s) := by
  rw [deviceValues_eq]
  exact pullOk_nil

/-- Settles O8: the order is closed under the updates every operation is made of, and the two resets establish it. -/
theorem pullListStaysOrdered : Obligations.PullListStaysOrdered := fun _ _ h e =>
  step_keeps closed_pullListOrdered (fun _ _ _ => pullOk_nil) (fun s _ => pullListOrdered_deviceValues s) (fun _ _ h => h) e h

end Sys2Proof.Machine
end

section
/-! The two halves of an account record (O42). -/

namespace Sys2Proof.Machine

/-- A request whose handler answers with one REPLY is answered with it (R25, R27). -/
theorem run_request_of_handler {kind : Nat} {f : Handler} {c : Cell} {s u : State} {code : ResultCode} {data : List Byte}
    (takes : Takes kind c s) (handler : f c (handed c s) = (u, one code data)) :
    run true (request kind f) s = .next (replied c code data u) := by
  rw [request_of_takes takes, handler]
  rfl

/-! ### The checks of the two halves (R54, R55) -/

theorem seqOk_iff (n : Nat) : seqOk n = true ↔ 1 ≤ n ∧ n ≤ 16777215 := by
  simp only [seqOk, Bool.and_eq_true, decide_eq_true_eq]
  exact Iff.rfl

theorem halfAOk_iff (c : Cell) : halfAOk (acctAForm c).1 (acctAForm c).2 = true ↔
    1 ≤ (acctAForm c).1.seq ∧ (acctAForm c).1.seq ≤ 16777215 ∧ 1 ≤ (acctAForm c).1.pages ∧ (acctAForm c).1.pages ≤ 24 ∧
      payNum c 14 2 < 4096 := by
  have inserts : (acctAForm c).2 = decide (4096 ≤ payNum c 14 2) := rfl
  simp [halfAOk, seqOk_iff, inserts, and_assoc]

theorem inOrder_iff (seq : Nat) (q : AccountQueue) : inOrder seq q = true ↔ ∀ t, q.tail = some t → seq = t + 1 := by
  unfold inOrder
  split <;> simp [*]

theorem acctBOk_iff (b : AcctBForm) : (seqOk b.seq && [3, 5, 9, 11].contains b.given) = true ↔
    1 ≤ b.seq ∧ b.seq ≤ 16777215 ∧ (b.given = 3 ∨ b.given = 5 ∨ b.given = 9 ∨ b.given = 11) := by
  simp [seqOk_iff, and_assoc]

/-! ### ACCT-A, outcome by outcome (R54, R55) -/

theorem acctAHandler_of_bad {c : Cell} (bad : ¬halfAOk (acctAForm c).1 (acctAForm c).2 = true) (s : State) :
    acctAHandler c s = (s, one .arg []) := by
  simp only [acctAHandler, Bool.eq_false_of_not_eq_true bad, Bool.not_false, if_true]

section HalfA

variable {c : Cell} {s : State} (ok : halfAOk (acctAForm c).1 (acctAForm c).2 = true)

include ok

theorem acctAHandler_of_out_of_order {t : Nat} (tail : s.acct.tail = some t) (other : (acctAForm c).1.seq ≠ t + 1) :
    acctAHandler c s = refuseOrder s := by
  have order : inOrder (acctAForm c).1.seq s.acct = false := by simpa only [inOrder, tail, beq_eq_false_iff_ne] using other
  simp only [acctAHandler, ok, order, Bool.not_true, Bool.not_false, Bool.false_eq_true, if_false, if_true]

/-- A half A in order waits in the slot, in place of one that waited there (R55). -/
theorem acctAHandler_of_in_order (order : ∀ t, s.acct.tail = some t → (acctAForm c).1.seq = t + 1) :
    acctAHandler c s = (putAcct { s.acct with halfA := some (acctAForm c).1 } s,
      match s.acct.halfA with
      | none => one .accepted (beBytes 3 0 ++ beBytes 2 s.acct.queue.length)
      | some old => one .incomplete (beBytes 3 old.seq ++ beBytes 2 s.acct.queue.length)) := by
  have order' := (inOrder_iff _ _).2 order
  simp only [acctAHandler, ok, order', Bool.not_true, Bool.false_eq_true, if_false]
  cases s.acct.halfA <;> rfl

end HalfA

theorem refuseOrder_of_successor {s : State} {t : Nat} (tail : s.acct.tail = some t) (more : t < 16777215) :
    refuseOrder s = (s, one .order (beBytes 3 (t + 1))) := by
  have more' : t < Config.seqMax := more
  simp only [refuseOrder, tail, Option.getD_some, if_pos more']

/-- After the last seq no seq can follow, and the seq expected is a free value (log 35). -/
theorem refuseOrder_of_last {s : State} {t : Nat} (tail : s.acct.tail = some t) (last : 16777215 ≤ t) :
    refuseOrder s = ({ s with draws := s.draws + 1 }, one .order (beBytes 3 (Config.seqAfterLast s.draws).toNat)) := by
  have last' : ¬t < Config.seqMax := Nat.not_lt.2 last
  simp only [refuseOrder, tail, Option.getD_some, if_neg last']

/-! ### ACCT-B, outcome by outcome (R54, R56) -/

theorem acctBHandler_of_bad {c : Cell} (bad : ¬(seqOk (acctBForm c).seq && [3, 5, 9, 11].contains (acctBForm c).given) = true)
    (s : State) : acctBHandler c s = (s, one .arg []) := by
  simp only [acctBHandler, Bool.eq_false_of_not_eq_true bad, Bool.not_false, if_true]

section HalfB

variable {c : Cell} {s : State} (ok : (seqOk (acctBForm c).seq && [3, 5, 9, 11].contains (acctBForm c).given) = true)

include ok

theorem acctBHandler_of_empty_slot (slot : s.acct.halfA = none) : acctBHandler c s = (s, one .order (beBytes 3 0)) := by
  simp only [acctBHandler, ok, Bool.not_true, Bool.false_eq_true, if_false, slot]

variable {a : HalfA} (slot : s.acct.halfA = some a)

include slot

theorem acctBHandler_of_other_seq (other : a.seq ≠ (acctBForm c).seq) :
    acctBHandler c s = (s, one .order (beBytes 3 a.seq)) := by
  simp only [acctBHandler, ok, Bool.not_true, Bool.false_eq_true, if_false, slot, if_pos other]

variable (same : a.seq = (acctBForm c).seq)

include same

theorem acctBHandler_of_full (full : 256 ≤ s.acct.queue.length) :
    acctBHandler c s = (putAcct { s.acct with halfA := none } s, one .full []) := by
  have full' : Config.accountCapacity ≤ s.acct.queue.length := full
  simp only [acctBHandler, ok, Bool.not_true, Bool.false_eq_true, if_false, slot, same, ne_eq, not_true_eq_false, if_pos full']

/-- The record of the two halves joins at the end of the queue (R56). -/
theorem acctBHandler_of_room (room : s.acct.queue.length < 256) :
    acctBHandler c s = (putAcct (joinQueue (formRecord a (acctBForm c)) s.acct) s,
      one .accepted (beBytes 2 (s.acct.queue.length + 1))) := by
  have room' : ¬Config.accountCapacity ≤ s.acct.queue.length := Nat.not_le.2 room
  simp only [acctBHandler, ok, Bool.not_true, Bool.false_eq_true, if_false, slot, not_not.2 same, if_neg room', joinQueue,
    List.length_append, List.length_singleton]

end HalfB

/-- Settles O42: each half's checks by their `↔`, then the handler's outcomes, one a clause. -/
theorem accountHalvesFormARecord : Obligations.AccountHalvesFormARecord := by
  refine fun c s => ⟨fun takes => ?_, fun takes => ?_⟩
  · dsimp only
    rw [← halfAOk_iff]
    refine ⟨fun bad => run_request_of_handler takes (acctAHandler_of_bad bad _), fun ok t tail other more => ?_,
      fun ok t tail other last => ?_, fun ok order slot => ?_, fun ok order old slot => ?_⟩
    · exact run_request_of_handler takes ((acctAHandler_of_out_of_order (s := handed c s) ok tail other).trans
        (refuseOrder_of_successor tail more))
    · exact run_request_of_handler takes ((acctAHandler_of_out_of_order (s := handed c s) ok tail other).trans
        (refuseOrder_of_last tail last))
    · refine run_request_of_handler takes ((acctAHandler_of_in_order (s := handed c s) ok order).trans ?_)
      rw [show (handed c s).acct.halfA = none from slot]
      rfl
    · refine run_request_of_handler takes ((acctAHandler_of_in_order (s := handed c s) ok order).trans ?_)
      rw [show (handed c s).acct.halfA = some old from slot]
      rfl
  · dsimp only
    rw [← acctBOk_iff]
    exact ⟨fun bad => run_request_of_handler takes (acctBHandler_of_bad bad _),
      fun ok slot => run_request_of_handler takes (acctBHandler_of_empty_slot ok slot),
      fun ok a slot other => run_request_of_handler takes (acctBHandler_of_other_seq ok slot other),
      fun ok a slot same full => run_request_of_handler takes (acctBHandler_of_full ok slot same full),
      fun ok a slot same room => run_request_of_handler takes (acctBHandler_of_room ok slot same room)⟩

end Sys2Proof.Machine
end

section
/-! PULL ADD and PULL REMOVE (O43). -/

namespace Sys2Proof.Machine

/-! ### The pull list as a list in order of key (R66, R67) -/

theorem pullKindOf_iff (n : Nat) : (∃ k, pullKindOf n = some k) ↔ n = 1 ∨ n = 2 := by
  unfold pullKindOf
  split <;> simp_all

theorem pullKindOf_eq {n : Nat} (h : n = 1 ∨ n = 2) : pullKindOf n = some (if n = 1 then .once else .standing) := by
  rcases h with rfl | rfl <;> rfl

theorem pullFind_eq_none {key : Nat} {l : List PullEntry} (h : ∀ e ∈ l, e.key ≠ key) : pullFind key l = none := by
  simpa [pullFind] using h

/-- An insertion by key splits the list at the first key not below the new one. -/
theorem insertBy_eq {α : Type} (key : α → Nat) (x : α) (l : List α) :
    insertBy key x l = l.takeWhile (fun y => key y < key x) ++ x :: l.dropWhile (fun y => key y < key x) := by
  induction l with
  | nil => rfl
  | cons y l ih =>
    by_cases below : key y < key x
    · simp [insertBy, below, Nat.not_le.2 below, ih]
    · simp [insertBy, below, Nat.not_lt.1 below]

section Split

variable {before after : List PullEntry} {e : PullEntry} (ordered : pullOk (before ++ e :: after))

include ordered

/-- In ascending order no other entry has an entry's key (R66). -/
theorem key_ne_of_pullOk : (∀ x ∈ before, x.key ≠ e.key) ∧ ∀ x ∈ after, x.key ≠ e.key := by
  obtain ⟨-, rest, below⟩ := List.pairwise_append.1 ordered.1
  exact ⟨fun x mem => (below x mem e List.mem_cons_self).ne, fun x mem => ((List.pairwise_cons.1 rest).1 x mem).ne'⟩

theorem pullFind_of_split : pullFind e.key (before ++ e :: after) = some e := by
  have none : before.find? (fun x => x.key == e.key) = none := pullFind_eq_none (key_ne_of_pullOk ordered).1
  simp [pullFind, none]

/-- The entries after the one that leaves close up (R67). -/
theorem pullDrop_of_split : pullDrop e.key (before ++ e :: after) = before ++ after := by
  obtain ⟨left, right⟩ := key_ne_of_pullOk ordered
  have keep : ∀ l : List PullEntry, (∀ x ∈ l, x.key ≠ e.key) → l.filter (fun x => x.key != e.key) = l := fun l h =>
    List.filter_eq_self.2 fun x mem => by simpa using h x mem
  simp [pullDrop, keep _ left, keep _ right]

end Split

/-! ### PULL ADD, check by check (R66) -/

/-- The first check of a PULL ADD: its reason and its kind (R66). -/
def pullAddOk (c : Cell) : Prop := 1 ≤ payByte c 10 ∧ payByte c 10 ≤ 15 ∧ (payByte c 11 = 1 ∨ payByte c 11 = 2)

theorem pullAddHandler_of_bad {c : Cell} (bad : ¬pullAddOk c) (s : State) : pullAddHandler c s = (s, one .arg []) := by
  unfold pullAddHandler
  dsimp only
  split
  · rfl
  · rename_i kind found
    have reason : ¬(1 ≤ payByte c 10 ∧ payByte c 10 ≤ 15) := fun range =>
      bad ⟨range.1, range.2, (pullKindOf_iff _).1 ⟨kind, found⟩⟩
    refine if_pos ?_
    simpa only [Bool.not_eq_true', Bool.and_eq_false_iff, decide_eq_false_iff_not, not_and_or] using reason

section Add

variable {c : Cell} {s : State} (ok : pullAddOk c)

include ok

/-- With the first check passed a PULL ADD is judged by its key and the room (R66). -/
theorem pullAddHandler_of_ok : pullAddHandler c s =
    match pullFind (payNum c 4 6) s.tables.pull with
    | some e => (s, one .duplicate (beBytes 1 (pullKindCode e.kind) ++ beBytes 1 e.hits))
    | none =>
      if 320 ≤ s.tables.pull.length then (s, one .full [])
      else
        let l := insertBy (·.key) { key := payNum c 4 6, reason := payByte c 10
                                    kind := if payByte c 11 = 1 then .once else .standing, hits := 0 } s.tables.pull
        (putPull l s, one .accepted (beBytes 2 l.length)) := by
  obtain ⟨low, high, kind⟩ := ok
  simp only [pullAddHandler, pullKindOf_eq kind, low, high, decide_true, Bool.and_true, Bool.not_true, Bool.false_eq_true, if_false]
  rfl

theorem pullAddHandler_of_duplicate {e : PullEntry} (found : s.tables.pull.find? (·.key == payNum c 4 6) = some e) :
    pullAddHandler c s = (s, one .duplicate [if e.kind = .once then 1 else 2, BitVec.ofNat 8 e.hits]) := by
  have found' : pullFind (payNum c 4 6) s.tables.pull = some e := found
  rw [pullAddHandler_of_ok ok, found']
  cases kind : e.kind <;> simp [kind, pullKindCode, beBytes_one]

variable (new : ∀ e ∈ s.tables.pull, e.key ≠ payNum c 4 6)

include new

theorem pullAddHandler_of_full (full : 320 ≤ s.tables.pull.length) : pullAddHandler c s = (s, one .full []) := by
  rw [pullAddHandler_of_ok ok, pullFind_eq_none new]
  exact if_pos full

/-- The new entry takes its key's place, its hits 0 (R66). -/
theorem pullAddHandler_of_room (room : s.tables.pull.length < 320) : pullAddHandler c s =
    (putPull (s.tables.pull.takeWhile (·.key < payNum c 4 6) ++
        { key := payNum c 4 6, reason := payByte c 10, kind := if payByte c 11 = 1 then .once else .standing, hits := 0 } ::
          s.tables.pull.dropWhile (·.key < payNum c 4 6)) s,
      one .accepted (beBytes 2 (s.tables.pull.length + 1))) := by
  rw [pullAddHandler_of_ok ok, pullFind_eq_none new]
  dsimp only
  rw [if_neg (Nat.not_le.2 room), (insertBy_perm _ _ _).length_eq, insertBy_eq, List.length_cons]

end Add

/-! ### PULL REMOVE (R67) -/

theorem pullRemoveHandler_of_none {c : Cell} {s : State} (none : ∀ e ∈ s.tables.pull, e.key ≠ payNum c 4 6) :
    pullRemoveHandler c s = (s, one .arg []) := by
  simp only [pullRemoveHandler, pullFind_eq_none none]

theorem pullRemoveHandler_of_split {c : Cell} {s : State} (ordered : PullListOrdered s) {before after : List PullEntry} {e : PullEntry}
    (pull : s.tables.pull = before ++ e :: after) (key : e.key = payNum c 4 6) : pullRemoveHandler c s =
      (putPull (before ++ after) s, one .accepted (beBytes 1 e.hits ++ beBytes 2 (before.length + after.length))) := by
  rw [PullListOrdered, pull] at ordered
  simp only [pullRemoveHandler, ← key, pull, pullFind_of_split ordered, pullDrop_of_split ordered, List.length_append]

/-- Settles O43: the checks of PULL ADD in their order, then PULL REMOVE by whether an entry has the key. -/
theorem pullListTakesAddsAndRemoves : Obligations.PullListTakesAddsAndRemoves := fun c s =>
  ⟨fun takes => ⟨fun bad => run_request_of_handler takes (pullAddHandler_of_bad bad _),
      fun ok _ found => run_request_of_handler takes (pullAddHandler_of_duplicate (s := handed c s) ok found),
      fun ok new full => run_request_of_handler takes (pullAddHandler_of_full (s := handed c s) ok new full),
      fun ok new room => run_request_of_handler takes (pullAddHandler_of_room (s := handed c s) ok new room)⟩,
    fun takes ordered => ⟨fun none => run_request_of_handler takes (pullRemoveHandler_of_none (s := handed c s) none),
      fun _ _ _ pull key => run_request_of_handler takes (pullRemoveHandler_of_split (s := handed c s) ordered pull key)⟩⟩

end Sys2Proof.Machine
end

section
/-! RECALL (O44). -/

namespace Sys2Proof.Machine

/-- A run of bytes spells a number below 256 to the power of its length (02, "Cell and record layouts"). -/
theorem foldl_bytes_lt (l : List Byte) (a : Nat) : l.foldl (fun a b => a * 256 + b.toNat) a < (a + 1) * 256 ^ l.length := by
  induction l generalizing a with
  | nil => simp
  | cons b l ih =>
    have byte : b.toNat < 256 := b.isLt
    calc (b :: l).foldl (fun a b => a * 256 + b.toNat) a
      _ < (a * 256 + b.toNat + 1) * 256 ^ l.length := ih _
      _ ≤ ((a + 1) * 256) * 256 ^ l.length := Nat.mul_le_mul_right _ (by omega)
      _ = (a + 1) * 256 ^ (b :: l).length := by rw [List.length_cons, pow_succ', mul_assoc]

theorem payNum_lt (c : Cell) (i n : Nat) : payNum c i n < 256 ^ n := by
  simpa [payNum, beNum] using foldl_bytes_lt ((List.range n).map fun k => c.payload.getD (i - 4 + k) 0) 0

/-! ### The seqs of the queue (R57, R64) -/

theorem joined_iff (seq : Nat) (q : AccountQueue) :
    joined seq q = true ↔ ∃ b t, q.base = some b ∧ q.tail = some t ∧ b ≤ seq ∧ seq ≤ t := by
  unfold joined
  split
  · rename_i b t base tail
    simp [base, tail]
  · rename_i missing
    simp only [Bool.false_eq_true, false_iff]
    rintro ⟨b, t, base, tail, -⟩
    exact missing b t base tail

section Queue

variable {s : State} (ordered : AccountsOrdered s) {r : Account} (mem : r ∈ s.acct.queue)

include ordered mem

theorem joined_of_mem : joined r.seq s.acct = true := by
  obtain ⟨⟨b, base, low⟩, t, tail, high⟩ := ordered.between r mem
  exact (joined_iff _ _).2 ⟨b, t, base, tail, low, high⟩

/-- In a rising queue a seq names one record (R57). -/
theorem eq_of_seq_eq {x : Account} (mem' : x ∈ s.acct.queue) (same : x.seq = r.seq) : x = r :=
  List.inj_on_of_nodup_map (List.pairwise_map.2 (ordered.rising.imp Nat.ne_of_lt)) mem' mem same

theorem find?_seq_of_mem : (s.acct.queue.find? fun x => x.seq == r.seq) = some r := by
  cases found : s.acct.queue.find? fun x => x.seq == r.seq with
  | none => simpa using List.find?_eq_none.1 found r mem
  | some x => rw [eq_of_seq_eq ordered mem (List.mem_of_find?_eq_some found) (by simpa using List.find?_some found)]

/-- A second RECALL of a record changes nothing (R64). -/
theorem markRecalled_of_recalled (recalled : r.recalled = true) : markRecalled r.seq s.acct.queue = s.acct.queue := by
  refine (List.map_congr_left fun x mem' => ?_).trans (List.map_id _)
  split
  · rename_i same
    obtain rfl := eq_of_seq_eq ordered mem mem' same
    simp [← recalled]
  · rfl

end Queue

/-! ### RECALL, outcome by outcome (R64) -/

/-- Every seq but 0 that a RECALL can spell is in range (R54, R64). -/
theorem seqOk_payNum {c : Cell} (low : 1 ≤ payNum c 4 3) : seqOk (payNum c 4 3) = true :=
  (seqOk_iff _).2 ⟨low, Nat.le_of_lt_succ (payNum_lt c 4 3)⟩

theorem recallHandler_of_outside {c : Cell} {s : State} (outside : payNum c 4 3 = 0 ∨ joined (payNum c 4 3) s.acct = false) :
    recallHandler c s = (s, one .arg []) := by
  refine if_pos ?_
  rcases outside with zero | outside
  · rw [zero]
    rfl
  · rw [outside, Bool.and_false, Bool.not_false]

section Inside

variable {c : Cell} {s : State} (low : 1 ≤ payNum c 4 3)

include low

/-- A record in the queue takes the recall mark, and the reply says how it stood (R64). -/
theorem recallHandler_of_mem (ordered : AccountsOrdered s) {r : Account} (mem : r ∈ s.acct.queue) (seq : r.seq = payNum c 4 3) :
    recallHandler c s = (putAcct { s.acct with queue := markRecalled (payNum c 4 3) s.acct.queue } s,
      one .accepted [if r.skipped then 2 else if r.recalled then 1 else 0]) := by
  have inside := joined_of_mem ordered mem
  have found := find?_seq_of_mem ordered mem
  rw [seq] at inside found
  simp only [recallHandler, seqOk_payNum low, inside, found, Bool.and_self, Bool.not_true, Bool.false_eq_true, if_false]

theorem recallHandler_of_gone (inside : joined (payNum c 4 3) s.acct = true) (gone : ∀ r ∈ s.acct.queue, r.seq ≠ payNum c 4 3) :
    recallHandler c s = (s, one .tooLate []) := by
  have found : (s.acct.queue.find? fun r => r.seq == payNum c 4 3) = none := by simpa using gone
  simp only [recallHandler, seqOk_payNum low, inside, found, Bool.and_self, Bool.not_true, Bool.false_eq_true, if_false]

end Inside

/-- Settles O44: RECALL by where its seq lies, before or after the run, in the queue, or left from it. -/
theorem recallMarksARecord : Obligations.RecallMarksARecord := by
  refine fun c s takes ordered => ⟨fun outside => ?_, fun r mem low seq fresh => ?_, fun r mem low seq skipped => ?_,
    fun b t base tail low fromBase toTail gone => ?_, fun h t waiting tail seq => ?_, fun r mem seq recalled => ?_,
    Nat.le_of_lt_succ (payNum_lt c 4 3)⟩
  · refine run_request_of_handler takes (recallHandler_of_outside (s := handed c s) (outside.imp_right fun beyond => ?_))
    rw [← Bool.not_eq_true, joined_iff]
    rintro ⟨b, t, base, tail, low, high⟩
    change s.acct.base = some b at base
    change s.acct.tail = some t at tail
    simp only [base, tail, reduceCtorEq, Option.some.injEq, exists_eq_left', false_or] at beyond
    omega
  · refine run_request_of_handler takes ((recallHandler_of_mem (s := handed c s) low ordered mem seq).trans ?_)
    rw [fresh]
    rfl
  · refine run_request_of_handler takes ((recallHandler_of_mem (s := handed c s) low ordered mem seq).trans ?_)
    rw [skipped]
    rfl
  · have inside := (joined_iff (payNum c 4 3) s.acct).2 ⟨b, t, base, tail, fromBase, toTail⟩
    exact run_request_of_handler takes (recallHandler_of_gone (s := handed c s) low inside gone)
  · refine run_request_of_handler takes (recallHandler_of_outside (s := handed c s) (.inr ?_))
    have next := ordered.next h t waiting tail
    rw [← Bool.not_eq_true, joined_iff]
    rintro ⟨b, t', base, tail', low, high⟩
    have same : t' = t := Option.some.inj (tail'.symm.trans tail)
    omega
  · have same := markRecalled_of_recalled ordered mem recalled
    rw [seq, markRecalled] at same
    dsimp only
    rw [same]

end Sys2Proof.Machine
end

section
/-! The Account Queue at a pitch notice, and the take (O53). -/

namespace Sys2Proof.Machine

/-! ### The considered take (R59, R60, R63) -/

/-- The states in which a pitch notice at the Account Queue considers a take (R59). -/
def considers (n : Notice) (s : State) : Prop := s.line.state = .running ∧ n.driveOn = true ∧ n.counterValid = true

theorem accountNotice_of_considers {n : Notice} {s : State} (h : considers n s) :
    accountNotice n s = considerTake (releaseSkipped s.acct.queue.length s) := by
  obtain ⟨running, on, valid⟩ := h
  simp only [accountNotice, running, on, valid, and_self, if_true]

theorem accountNotice_of_draining {n : Notice} {s : State} (draining : s.line.state = .draining) (on : n.driveOn = true) :
    accountNotice n s = releaseSkipped s.acct.queue.length s := by
  simp only [accountNotice, draining, on, if_true]

/-- No release while the head record is not skipped or there is no room (R60). -/
theorem releaseSkipped_eq_self {s : State} (h : s.acct.queue.head?.any (·.skipped) = false ∨ free s ≤ claims s) (k : Nat) :
    releaseSkipped k s = s := by
  cases k with
  | zero => rfl
  | succ k =>
    unfold releaseSkipped
    split
    · rfl
    · rename_i r rest queue
      refine if_neg fun both => ?_
      obtain ⟨skipped, room⟩ := both
      rw [queue, List.head?_cons, Option.any_some, skipped] at h
      rcases h with h | h
      · contradiction
      · omega

theorem pairsCovered_iff (s : State) : pairsCovered s = true ↔
    ∀ i, i < 6 → vget s.feeders.pairs i = .none ∨ vget s.feeders.pairs i = .covered := by
  have place : ∀ i (h : i < 6), vget s.feeders.pairs i = s.feeders.pairs.toList[i]'(by simpa using h) := fun i h => by
    simp [vget, h]
  simp only [pairsCovered, List.all_eq_true, Bool.or_eq_true, beq_iff_eq, List.forall_mem_iff_getElem]
  refine ⟨fun h i low => ?_, fun h i low => ?_⟩
  · rw [place i low]
    exact h i (by simpa using low)
  · rw [← place i (by simpa using low)]
    exact h i (by simpa using low)

theorem reportsEmpty_eq_false {role : Role} {s : State} (h : ∀ d, lastStatusOf role 0 s ≠ some (.empty, d)) :
    reportsEmpty role s = false := by
  unfold reportsEmpty
  rcases status : lastStatusOf role 0 s with _ | ⟨state, d⟩
  · rfl
  · cases state
    case empty => exact absurd status (h d)
    all_goals rfl

/-- No condition of R59 fails. -/
theorem holdReason_eq_none {s : State} {r : Account} {rest : List Account} (queue : s.acct.queue = r :: rest)
    (fresh : r.skipped = false) (slot : s.stage.assembly = none) (sheet : reportsEmpty .sheetStation s = false)
    (envelope : reportsEmpty .envStation s = false) (pairs : pairsCovered s = true) (room : claims s + 3 ≤ free s) :
    holdReason s = none := by
  simp [holdReason, queue, fresh, slot, sheet, envelope, pairs, room]

theorem feedHold_none (s : State) : feedHold none s = endFeedHold s := by
  unfold feedHold
  split
  · rename_i h
    simp only [endFeedHold, h]
  · rfl

theorem considerTake_of_none {s : State} {r : Account} {rest : List Account} {w : Working} (none : holdReason s = none)
    (queue : s.acct.queue = r :: rest) (work : s.tables.work = some w) :
    considerTake s = takeRecord r rest (endFeedHold s) := by
  simp only [considerTake, none, queue, work, feedHold_none]

theorem considerTake_of_some {s : State} {h : HoldReason} (reason : holdReason s = some h) : considerTake s = feedHold (some h) s := by
  simp only [considerTake, reason]

/-! ### The take (R61) -/

/-- The pull list after the search for a key (R68). -/
def pullAfter (key : Nat) (l : List PullEntry) : List PullEntry :=
  match (pullFind key l).map (·.kind) with
  | some PullKind.once => pullDrop key l
  | some PullKind.standing => l.map fun e => if e.key = key then { e with hits := satInc 255 e.hits } else e
  | none => l

theorem pullSearch_eq (key : Nat) (s : State) :
    pullSearch key s = (putPull (pullAfter key s.tables.pull) s, (pullFind key s.tables.pull).isSome) := by
  unfold pullSearch pullAfter
  cases found : pullFind key s.tables.pull with
  | none => rfl
  | some e =>
    have same : e.key = key := by simpa using List.find?_some found
    simp only [pullHit, same, Option.map_some, Option.isSome_some]
    cases e.kind <;> rfl

/-- The account fields a take gives its set (R62). -/
def boundFields (r : Account) (s : State) : AcctFields where
  key := r.key
  pages := r.pages
  inserts := r.inserts
  matchReq := r.matchReq
  envKey := r.envKey
  group := presortLookup r.postal s
  pulled := (pullFind r.key s.tables.pull).isSome || r.prePull
  recalled := r.recalled

/-- The take after the apply: the settling answer, the search, the record's leaving and the ordered set (R51, R61, R68, R72). -/
theorem takeRecord_eq {r : Account} {rest : List Account} {s u : State} {w : Working} (applied : applyStaged s = u)
    (work : u.tables.work = some w) : takeRecord r rest s =
      issueOrder (nodeOf .sheetStation 0 u) (feedSetPayload r.seq w) (bumpRun 1 { u with
        acct := { u.acct with queue := rest }
        tables := { u.tables with settling := u.tables.settling - 1, pull := pullAfter r.key u.tables.pull }
        stage := { u.stage with
          assembly := some (orderedSet r.seq (boundFields r u) (decide (u.tables.settling ≠ 0)) w), freshTake := true } }) := by
  simp only [takeRecord, applied, settlingAnswer, bindRecord, pullSearch_eq, bumpRun_tables, putAcct, putPull, work]
  rfl

/-! ### The apply of the staged values at a take (R50, R51) -/

/-- A take applies the staged values: the staging hold is off and a slot is present (R50). -/
def appliesAt (t : TableStore) : Bool := decide (t.hold = false ∧ t.staged.count ≠ 0)

/-- The working values a take finds after its apply (R50). -/
def takeWorking (w : Working) (t : TableStore) : Working := if appliesAt t then w.apply t.staged else w

/-- The tables a take finds after its apply (R50, R51). -/
def takeTables (w : Working) (t : TableStore) : TableStore := if appliesAt t then applyTables w t else t

theorem takeTables_work {w : Working} {t : TableStore} (work : t.work = some w) : (takeTables w t).work = some (takeWorking w t) := by
  unfold takeTables takeWorking
  split
  · rfl
  · exact work

/-- A changed fold program or envelope class sets the settling counter to 2 (R51). -/
theorem takeTables_settling (w : Working) (t : TableStore) : (takeTables w t).settling =
    if (takeWorking w t).fold ≠ w.fold ∨ (takeWorking w t).envClass ≠ w.envClass then 2 else t.settling := by
  unfold takeTables takeWorking
  split
  · rfl
  · simp

theorem takeTables_frame (w : Working) (t : TableStore) :
    (takeTables w t).pull = t.pull ∧ (takeTables w t).scheme = t.scheme ∧ (takeTables w t).node = t.node := by
  unfold takeTables
  split <;> exact ⟨rfl, rfl, rfl⟩

theorem applyStaged_eq {s : State} {w : Working} (work : s.tables.work = some w) : applyStaged s =
    if appliesAt s.tables && s.tables.staged.pairs.toList.any (·.isSome) then evalPairs { s with tables := takeTables w s.tables }
    else { s with tables := takeTables w s.tables } := by
  have slots : (present s.tables.staged.pairs).any id = s.tables.staged.pairs.toList.any (·.isSome) := by
    simp [present, List.any_map]
  by_cases applies : s.tables.hold = false ∧ s.tables.staged.count ≠ 0
  · simp only [applyStaged, work, takeTables, appliesAt, if_pos applies, slots, decide_eq_true applies, Bool.true_and, if_true]
  · simp only [applyStaged, work, takeTables, appliesAt, if_neg applies, decide_eq_false applies, Bool.false_and,
      Bool.false_eq_true, if_false]

theorem applyStaged_tables {s : State} {w : Working} (work : s.tables.work = some w) :
    (applyStaged s).tables = takeTables w s.tables := by
  rw [applyStaged_eq work]
  split <;> simp only [evalPairs_frame]

theorem presortLookup_of_scheme {s t : State} (h : t.tables.scheme = s.tables.scheme) (postal : List Nat) :
    presortLookup postal t = presortLookup postal s := by
  simp only [presortLookup, schemeOf, h]

theorem nodeOf_of_node {s t : State} (h : t.tables.node = s.tables.node) (role : Role) (feeder : Nat) :
    nodeOf role feeder t = nodeOf role feeder s := by
  simp only [nodeOf, nodesOf, h]

theorem orderedSet_eq (seq : Nat) (f : AcctFields) (settling : Nat) (w : Working) : orderedSet seq f (decide (settling ≠ 0)) w = {
    binding := .account seq, acct := some f, state := .ordered, finish := none, rebindSpent := false, sheets := [], extraSheets := 0
    firstTotal := none, balance := 0, pitches := 0, maxSheets := w.maxSheets, captured := some (capture w)
    marks := if settling = 0 then [] else [.unsettled], suspect := false, unsettled := settling != 0 } := by
  by_cases settled : settling = 0
  · subst settled
    rfl
  · simp [orderedSet, settled]

/-- Settles O53: with every condition of R59 met the notice is a take; its state after the apply is named by the statement, and the take
from there is `takeRecord_eq`. -/
theorem takesBindTheHeadRecord : Obligations.TakesBindTheHeadRecord := by
  intro n r rest w s running on valid queue fresh slot sheet envelope pairs room work ended g applies w' settling applied judged found
    pull set
  have take : accountNotice n s = takeRecord r rest (endFeedHold s) := by
    have none := holdReason_eq_none queue fresh slot (reportsEmpty_eq_false sheet) (reportsEmpty_eq_false envelope)
      ((pairsCovered_iff s).2 pairs) room
    have head : s.acct.queue.head?.any (·.skipped) = false := by rw [queue, List.head?_cons, Option.any_some, fresh]
    rw [accountNotice_of_considers ⟨running, on, valid⟩, releaseSkipped_eq_self (.inl head), considerTake_of_none none queue work]
  have tables : (endFeedHold s).tables = s.tables := by simp only [endFeedHold_frame]
  have workEnded : (endFeedHold s).tables.work = some w := tables ▸ work
  have appliedEq : applied = { endFeedHold s with tables := takeTables w s.tables } := by
    by_cases now : appliesAt s.tables = true
    · have values : w' = w.apply g := if_pos now
      refine (if_pos now).trans ?_
      rw [takeTables, if_pos now]
      simp only [settling, values]
      rfl
    · refine (if_neg now).trans ?_
      rw [takeTables, if_neg now, ← tables]
      rfl
  have judgedEq : applyStaged (endFeedHold s) = judged := by
    rw [applyStaged_eq workEnded, tables, ← appliedEq]
    rfl
  have judgedTables : judged.tables = takeTables w s.tables := by rw [← judgedEq, applyStaged_tables workEnded, tables]
  obtain ⟨list, scheme, node⟩ := takeTables_frame w s.tables
  rw [← judgedTables] at list scheme node
  have workJudged : judged.tables.work = some w' := judgedTables ▸ takeTables_work work
  have settled : judged.tables.settling = settling := judgedTables ▸ takeTables_settling w s.tables
  have sheets : w'.maxSheets = w.maxSheets := by
    simp only [w']
    split <;> rfl
  have fields : boundFields r judged = boundFields r s := by
    simp only [boundFields, list, presortLookup_of_scheme scheme]
  have payload : feedSetPayload r.seq w' = [1, 255] ++ beBytes 3 r.seq ++ [BitVec.ofNat 8 w.maxSheets, BitVec.ofNat 8 w'.fold] := by
    simp [feedSetPayload, sheets, beBytes_one]
  rw [take, takeRecord_eq judgedEq workJudged, settled, list, fields, orderedSet_eq, nodeOf_of_node node, payload, sheets]
  rfl

end Sys2Proof.Machine
end

section
/-! Skipped releases, the feed hold, gap pockets and a release not confirmed (O54). -/

namespace Sys2Proof.Machine

/-! ### Skipped releases (R60) -/

/-- The state after the skipped head record has been released (R60). -/
def released (r : Account) (rest : List Account) (s : State) : State :=
  bumpRun 1 (writeRecord (.missing r.seq .skippedRelease) { s with acct := { s.acct with queue := rest } })

theorem released_frame (r : Account) (rest : List Account) (s : State) :
    (released r rest s).acct.queue = rest ∧ (released r rest s).line = s.line := by
  simp [released]

theorem releaseSkipped_cons {s : State} {r : Account} {rest : List Account} (queue : s.acct.queue = r :: rest)
    (skipped : r.skipped = true) (room : claims s + 1 ≤ free s) :
    releaseSkipped s.acct.queue.length s = releaseSkipped (released r rest s).acct.queue.length (released r rest s) := by
  rw [(released_frame r rest s).1, queue, List.length_cons, releaseSkipped]
  simp only [queue, skipped, room, and_self, if_true]
  rfl

theorem accountNotice_of_skipped {n : Notice} {s : State} {r : Account} {rest : List Account} (queue : s.acct.queue = r :: rest)
    (skipped : r.skipped = true) (room : claims s + 1 ≤ free s)
    (releases : considers n s ∨ s.line.state = .draining ∧ n.driveOn = true) :
    accountNotice n s = accountNotice n (released r rest s) := by
  have line := (released_frame r rest s).2
  rcases releases with takes | ⟨draining, on⟩
  · have takes' : considers n (released r rest s) := by simpa only [considers, line] using takes
    rw [accountNotice_of_considers takes, accountNotice_of_considers takes', releaseSkipped_cons queue skipped room]
  · rw [accountNotice_of_draining draining on, accountNotice_of_draining (line ▸ draining) on, releaseSkipped_cons queue skipped room]

theorem accountNotice_eq_self {n : Notice} {s : State} (h : ¬(considers n s ∨ s.line.state = .draining ∧ n.driveOn = true)) :
    accountNotice n s = s := by
  obtain ⟨takes, drains⟩ := not_or.1 h
  unfold accountNotice
  split
  · rename_i running
    exact if_neg fun both => takes ⟨running, both⟩
  · rename_i draining
    exact if_neg fun on => drains ⟨draining, on⟩
  all_goals rfl

/-! ### The feed hold (R63) -/

theorem not_pairsCovered (s : State) : (!pairsCovered s) = s.feeders.pairs.toList.any fun p => p == .allEmpty || p == .lost := by
  rw [pairsCovered, List.not_all_eq_any_not]
  congr 1
  funext p
  cases p <;> rfl

theorem feedHold_of_same {s : State} {h : HoldReason} (same : s.acct.holdReason = some h) : feedHold (some h) s = s := if_pos same

theorem feedHold_of_other {s : State} {h : HoldReason} (other : s.acct.holdReason ≠ some h) : feedHold (some h) s =
    beginHold h (putAcct { (endFeedHold s).acct with holdReason := some h } (endFeedHold s)) := if_neg other

theorem endFeedHold_of_none {s : State} (none : s.acct.holdReason = none) : endFeedHold s = s := by simp only [endFeedHold, none]

theorem endFeedHold_of_some {s : State} {h : HoldReason} (ongoing : s.acct.holdReason = some h) : endFeedHold s =
    notice 3 [2, BitVec.ofNat 8 (holdCode h)] { s with acct := { s.acct with holdReason := none } } := by
  simp only [endFeedHold, ongoing]

/-- A considered take that is held, with no release before it (R59, R63). -/
theorem accountNotice_of_hold {n : Notice} {s : State} {h : HoldReason}
    (head : s.acct.queue.head?.any (·.skipped) = false ∨ free s ≤ claims s) (takes : considers n s) (reason : holdReason s = some h) :
    accountNotice n s = feedHold (some h) s := by
  rw [accountNotice_of_considers takes, releaseSkipped_eq_self head, considerTake_of_some reason]

/-! ### The entry vacancy (R86) -/

theorem judgeGap_eq (s : State) [Decidable (∃ v, s.stage.vacancy = some v ∧ v.inRunning = true ∧ v.vacant = true)] : judgeGap s =
    if ∃ v, s.stage.vacancy = some v ∧ v.inRunning = true ∧ v.vacant = true then bumpRun 11 s else s := by
  refine if_congr ?_ rfl rfl
  cases s.stage.vacancy <;> simp

theorem newVacancy_eq (n : Notice) (s : State) : newVacancy n s =
    if n.driveOn = true ∧ n.counterValid = true ∧ (s.line.state = .running ∨ s.line.state = .draining) then
      n.entry.map fun p =>
        { pocket := p, usable := decide (p ∉ defectPockets s), vacant := true, inRunning := s.line.state == .running : Vacancy }
    else none := by
  unfold newVacancy
  cases n.entry <;> simp

/-- The stage after the old vacancy has been judged and the new one made (R86). -/
def entryMoved (n : Notice) (s : State) : State := putStage { s.stage with vacancy := newVacancy n s } (judgeGap s)

theorem entryMoved_frame (n : Notice) (s : State) : (entryMoved n s).line = s.line ∧ (entryMoved n s).pitch = s.pitch ∧
    (entryMoved n s).tables = s.tables := by
  simp [entryMoved]

/-! ### A release not confirmed (R88) -/

/-- An unfinished set is neither counted nor judged with the drive off, without one, or in the notice that took it (R80). -/
theorem deadlineNotice_eq_self {on : Bool} {s : State} (h : on = false ∨ s.stage.assembly = none ∨ s.stage.freshTake = true) :
    deadlineNotice on s = s := by
  rcases h with off | empty | fresh
  · exact if_neg (by simp [off])
  · have uncounted : countPitch s = s := by
      simp only [countPitch, empty, Option.map_none, putAssembly]
      rw [← empty]
      rfl
    have unjudged : judgeDeadline s = s := judgeDeadline_eq_self fun x slot => by simp [empty] at slot
    unfold deadlineNotice
    rw [uncounted, unjudged, ite_self]
  · exact if_neg (by simp [fresh])

/-- What a suspect marking leaves of the stage (R89). -/
theorem StageMarked.keeps {s t : State} (h : StageMarked s t) : t.stage.freshTake = s.stage.freshTake ∧
    t.stage.releaseMiss = s.stage.releaseMiss ∧ (t.stage.assembly = none ↔ s.stage.assembly = none) := by
  rcases h with same | marked
  · rw [same]
    exact ⟨rfl, rfl, Iff.rfl⟩
  · rw [marked]
    exact ⟨rfl, rfl, Option.map_eq_none_iff⟩

theorem unconfirmedRelease_of_none {s : State} (none : s.stage.releaseAwaited = none) : unconfirmedRelease s = s := by
  simp only [unconfirmedRelease, none]

theorem markRelease_putStage (p : Nat) (x : Stage) (s : State) : markRelease p (putStage x s) = putStage x (markRelease p s) := by
  have mark : ∀ i why, markPocket i why (putStage x s) = putStage x (markPocket i why s) := fun i why => by
    unfold markPocket
    rw [apply_ite (putStage x)]
    rfl
  unfold markRelease
  dsimp only
  rw [mark, mark, apply_ite (putStage x), apply_ite (putStage x)]
  rfl

/-- One miss more, short of the third (R88). -/
theorem unconfirmedRelease_of_few {s : State} {p : Nat} (awaited : s.stage.releaseAwaited = some p) (few : s.stage.releaseMiss < 2) :
    unconfirmedRelease s =
      markRelease p (putStage { s.stage with releaseAwaited := none, releaseMiss := s.stage.releaseMiss + 1 } s) := by
  have more : ¬3 ≤ s.stage.releaseMiss + 1 := by omega
  simp only [unconfirmedRelease, awaited, markRelease_putStage, putStage_stage, if_neg more]
  rfl

/-- The state in which a release not confirmed has marked its set and is awaited no more (R88). -/
def releaseMissed (p : Nat) (s : State) : State := markRelease p (putStage { s.stage with releaseAwaited := none } s)

theorem releaseMissed_frame (p : Nat) (s : State) : (releaseMissed p s).stage = { s.stage with releaseAwaited := none } ∧
    (releaseMissed p s).line = s.line ∧ (releaseMissed p s).pitch = s.pitch ∧ (releaseMissed p s).tables = s.tables := by
  simp [releaseMissed]

/-- The state in which a third miss, its set marked, has returned the misses to 0 (R88). -/
def missesReturned (p : Nat) (s : State) : State :=
  putStage { (releaseMissed p s).stage with releaseMiss := 0 } (releaseMissed p s)

theorem missesReturned_frame (p : Nat) (s : State) : (missesReturned p s).stage.releaseMiss = 0 ∧
    (missesReturned p s).line = s.line ∧ (missesReturned p s).pitch = s.pitch := by
  obtain ⟨-, line, pitch, -⟩ := releaseMissed_frame p s
  exact ⟨rfl, line, pitch⟩

/-- The third miss in a row raises STATION TIMING and returns the misses to 0 (R88). -/
theorem unconfirmedRelease_of_third {s : State} {p : Nat} (awaited : s.stage.releaseAwaited = some p) (third : s.stage.releaseMiss = 2) :
    unconfirmedRelease s = raise .stationTiming 1 (addrOf .sheetStation s) (missesReturned p s) := by
  obtain ⟨stage, -, -, tables⟩ := releaseMissed_frame p s
  have last : 3 ≤ (releaseMissed p s).stage.releaseMiss + 1 := by simp only [stage, third, Nat.reduceAdd, Nat.le_refl]
  have address : addrOf .sheetStation (releaseMissed p s) = addrOf .sheetStation s := by simp only [addrOf, nodeOf, nodesOf, tables]
  rw [← address]
  simp only [unconfirmedRelease, awaited]
  exact if_pos last

/-- Whatever the release awaited, the assembly slot stays filled or empty, and a fresh take stays one (R80, R88). -/
theorem unconfirmedRelease_sets (s : State) : (unconfirmedRelease s).stage.freshTake = s.stage.freshTake ∧
    ((unconfirmedRelease s).stage.assembly = none ↔ s.stage.assembly = none) := by
  unfold unconfirmedRelease
  split
  · exact ⟨rfl, Iff.rfl⟩
  · dsimp only
    split
    · obtain ⟨fresh, -, empty⟩ := (raise_stageMarked .stationTiming (by decide) 1 _ _).keeps
      rw [fresh, empty]
      simp
    · simp

/-! ### STATION TIMING raised (R145, R155) -/

theorem raise_stationTiming (a b : Nat) (s : State) : raise .stationTiming a b s =
    if (respondRecovery 7 (takeRaising .stationTiming a b s)).pitch.driveEn = false then
      lower .stationTiming (respondRecovery 7 (takeRaising .stationTiming a b s))
    else respondRecovery 7 (takeRaising .stationTiming a b s) := by
  refine if_congr ?_ rfl rfl
  exact and_iff_right rfl

theorem respondRecovery_state (c : Nat) (s : State) : (respondRecovery c s).line.state =
    if driveState s.line.state = true then .recovery else s.line.state := by
  unfold respondRecovery
  split
  · exact (enterRecovery_line c s).1
  · rfl

theorem raise_stationTiming_state (a b : Nat) (s : State) : (raise .stationTiming a b s).line.state =
    if driveState s.line.state = true then .recovery else s.line.state := by
  rw [raise_stationTiming, apply_ite fun t : State => t.line.state, lower_state, ite_self, respondRecovery_state, takeRaising_state]

/-- Where the drive goes off STATION TIMING is lowered (R145). -/
theorem latch_stationTiming_enterRecovery (c : Nat) {s : State} (drive : driveState s.line.state = true)
    (raised : up .stationTiming s = true) :
    latch .stationTiming (enterRecovery c s) = { latch .stationTiming s with state := .latched } := by
  let changed : State := { s with line := lineChanged .recovery c s.line }
  have timing : lowerTiming s.line.state .recovery changed = lower .stationTiming changed := if_pos (by rw [drive]; rfl)
  have table : latch .stationTiming changed = latch .stationTiming s := latch_of _ rfl
  have raised' : up .stationTiming changed = true := by rwa [up, table]
  have kept : latch .stationTiming (enterRecovery c s) = latch .stationTiming (setLine .recovery c s) := latch_of _ rfl
  rw [kept]
  simp only [setLine, latch_notice]
  rw [apply_ite (latch .stationTiming), latch_endFeedHold, ite_self, latch_startSearch, latch_updateDrive _ (by decide), timing,
    latch_lower, if_pos ⟨rfl, raised'⟩, table]

/-- STATION TIMING raised is LATCHED at once: the drive goes off with the entry to RECOVERY, or is off already (R145, R155). -/
theorem latch_raise_stationTiming (a b : Nat) {s : State} (drive : DriveFollowsLine s) :
    latch .stationTiming (raise .stationTiming a b s) = { (latch .stationTiming s).raised a b with state := .latched } := by
  have taken : latch .stationTiming (takeRaising .stationTiming a b s) = (latch .stationTiming s).raised a b := by
    rw [latch_takeRaising, if_pos rfl]
  have raised : up .stationTiming (takeRaising .stationTiming a b s) = true := up_of_raised taken
  rw [raise_stationTiming]
  by_cases on : driveState s.line.state = true
  · have enters : respondRecovery 7 (takeRaising .stationTiming a b s) = enterRecovery 7 (takeRaising .stationTiming a b s) :=
      if_pos (by rwa [takeRaising_state])
    have latched := latch_stationTiming_enterRecovery 7 (by rwa [takeRaising_state]) raised
    rw [taken] at latched
    have down : ¬up .stationTiming (enterRecovery 7 (takeRaising .stationTiming a b s)) = true := by simp [up, latched]
    rw [enters, if_pos (enterRecovery_line ..).2.2.2, latch_lower, if_neg fun both => down both.2, latched]
  · have stays : respondRecovery 7 (takeRaising .stationTiming a b s) = takeRaising .stationTiming a b s :=
      if_neg (by rwa [takeRaising_state])
    have off : (takeRaising .stationTiming a b s).pitch.driveEn = false := by
      have en : s.pitch.driveEn = (driveState s.line.state && !s.pitch.estopAsserted) := drive.1
      simp only [takeRaising_frame, en, Bool.eq_false_of_not_eq_true on, Bool.false_and]
    rw [stays, if_pos off, latch_lower, if_pos ⟨rfl, raised⟩, taken]

/-- What the raising for a third miss leaves (R88, R155). -/
theorem raise_missesReturned (p a b : Nat) (s : State) : (raise .stationTiming a b (missesReturned p s)).stage.releaseMiss = 0 ∧
    (raise .stationTiming a b (missesReturned p s)).line.state =
      (if driveState s.line.state = true then .recovery else s.line.state) ∧
    (DriveFollowsLine s → latch .stationTiming (raise .stationTiming a b (missesReturned p s)) =
      { (latch .stationTiming s).raised a b with state := .latched }) := by
  obtain ⟨misses, line, pitch⟩ := missesReturned_frame p s
  obtain ⟨-, stays, -⟩ := (raise_stageMarked .stationTiming (by decide) a b (missesReturned p s)).keeps
  refine ⟨stays.trans misses, by rw [raise_stationTiming_state, line], fun drive => ?_⟩
  have drive' : DriveFollowsLine (missesReturned p s) := by rwa [DriveFollowsLine, line, pitch]
  rw [latch_raise_stationTiming _ _ drive', latch_of _ (congrArg (·.latches) line)]

/-! ### The notice at the Collation Unit (R80, R86, R88) -/

/-- A notice that counts no set: the entry vacancy, then the release awaited (log 40). -/
theorem collationNotice_of_uncounted {n : Notice} {s : State}
    (h : n.driveOn = false ∨ s.stage.assembly = none ∨ s.stage.freshTake = true) :
    collationNotice n s = unconfirmedRelease (entryMoved n s) := by
  have vacancy : newVacancy n (judgeGap s) = newVacancy n s := by
    simp only [newVacancy, defectPockets, judgeGap_frame]
  have moved : putStage { (judgeGap s).stage with vacancy := newVacancy n (judgeGap s) } (judgeGap s) = entryMoved n s := by
    simp only [vacancy, judgeGap_frame]
    rfl
  obtain ⟨fresh, empty⟩ := unconfirmedRelease_sets (entryMoved n s)
  refine (congrArg (fun t => deadlineNotice n.driveOn (unconfirmedRelease t)) moved).trans (deadlineNotice_eq_self ?_)
  rw [empty, fresh]
  exact h

theorem holds_iff (p i : Nat) (s : State) : ((pocketAt i s).any fun r => r.pocket == some p) = true ↔
    s.track.recs[i]?.map (·.pocket) = some (some p) := by
  unfold pocketAt
  cases s.track.recs[i]? <;> simp

theorem markRelease_at_one {p : Nat} {s : State} (one : s.track.recs[1]?.map (·.pocket) = some (some p)) :
    markRelease p s = markPocket 1 .stationTiming s := if_pos ((holds_iff ..).2 one)

theorem markRelease_at_entry {p : Nat} {s : State} (entry : s.track.recs[0]?.map (·.pocket) = some (some p))
    (other : s.track.recs[1]?.map (·.pocket) ≠ some (some p)) : markRelease p s = markPocket 0 .stationTiming s :=
  (if_neg fun one => other ((holds_iff ..).1 one)).trans (if_pos ((holds_iff ..).2 entry))

/-- Settles O54: the release of one skipped record, the feed hold by its reason, the notices that do nothing, and at the entry the old
vacancy, the new one and the release awaited. -/
theorem skippedRecordsHoldsAndGapPockets : Obligations.SkippedRecordsHoldsAndGapPockets := by
  intro n s takes releases hold reason
  have reasonEq : holdReason s = reason := by
    simp only [holdReason, reportsEmpty, not_pairsCovered, List.isEmpty_iff]
    rfl
  refine ⟨fun r rest queue skipped room now => accountNotice_of_skipped queue skipped room now,
    fun head => ⟨fun draining => ?_, fun now h first => ⟨fun same => ?_, fun none => ?_, fun old ongoing differs => ?_⟩⟩,
    accountNotice_eq_self, fun uncounted => ?_⟩
  · by_cases on : n.driveOn = true
    · rw [accountNotice_of_draining draining on, releaseSkipped_eq_self head]
    · exact accountNotice_eq_self fun either => either.elim (fun both => nomatch draining.symm.trans both.1) fun both => on both.2
  · rw [accountNotice_of_hold head now (reasonEq.trans first), feedHold_of_same same]
  · rw [accountNotice_of_hold head now (reasonEq.trans first), feedHold_of_other (by simp [none]), endFeedHold_of_none none]
    rfl
  · rw [accountNotice_of_hold head now (reasonEq.trans first), feedHold_of_other (by simp [ongoing, differs]),
      endFeedHold_of_some ongoing]
    rfl
  · intro counted entry
    have moved : entryMoved n s = { counted with stage := { s.stage with vacancy := entry } } := by
      rw [entryMoved, judgeGap_eq, newVacancy_eq]
      rfl
    have notice := collationNotice_of_uncounted uncounted
    obtain ⟨line, pitch, tables⟩ := entryMoved_frame n s
    refine ⟨fun awaits => ?_, fun p awaits few => ?_, fun p awaits third => ?_,
      fun p one t track => ?_, fun p entry other t track => ?_⟩
    · exact notice.trans ((unconfirmedRelease_of_none (s := entryMoved n s) awaits).trans moved)
    · refine notice.trans ((unconfirmedRelease_of_few (s := entryMoved n s) awaits few).trans ?_)
      rw [moved]
      rfl
    · intro missed t
      have returned : missesReturned p (entryMoved n s) = { missed with stage := { missed.stage with releaseMiss := 0 } } := by
        rw [moved]
        rfl
      have address : addrOf .sheetStation (entryMoved n s) = addrOf .sheetStation s := by simp only [addrOf, nodeOf, nodesOf, tables]
      have raised : t = raise .stationTiming 1 (addrOf .sheetStation s) (missesReturned p (entryMoved n s)) := by
        rw [← address]
        exact notice.trans (unconfirmedRelease_of_third (s := entryMoved n s) awaits third)
      obtain ⟨misses, state, latched⟩ := raise_missesReturned p 1 (addrOf .sheetStation s) (entryMoved n s)
      rw [← raised] at misses state latched
      rw [line] at state
      rw [DriveFollowsLine, line, pitch, latch_of _ (congrArg (·.latches) line)] at latched
      exact ⟨raised.trans (by rw [returned]), misses, state, latched⟩
    · exact markRelease_at_one (track ▸ one)
    · exact markRelease_at_entry (track ▸ entry) (track ▸ other)

end Sys2Proof.Machine
end

section
/-! A READY set is released into the track (O59). -/

namespace Sys2Proof.Machine

/-! ### When a release is allowed, and its issuing (R82, R87, R88) -/

theorem releasePocket_eq_some {s : State} {p : Nat} : releasePocket s = some p ↔ s.stage.ready.isSome = true ∧
    (∃ v, s.stage.vacancy = some v ∧ v.pocket = p ∧ v.usable = true ∧ v.vacant = true) ∧
    (s.line.state = .running ∨ s.line.state = .draining) ∧ s.pitch.driveEn = true := by
  unfold releasePocket
  cases s.stage.ready with
  | none => simp
  | some x =>
    cases s.stage.vacancy with
    | none => simp
    | some v =>
      simp only [Option.ite_none_right_eq_some, Option.some.injEq, exists_eq_left', Option.isSome_some, true_and]
      tauto

/-- Whether a release is allowed rests on the release slot's being filled, the entry vacancy, the line state and the drive (R87). -/
theorem releasePocket_congr {s t : State} (ready : t.stage.ready.isSome = s.stage.ready.isSome)
    (vacancy : t.stage.vacancy = s.stage.vacancy) (line : t.line.state = s.line.state) (drive : t.pitch.driveEn = s.pitch.driveEn) :
    releasePocket t = releasePocket s := by
  refine Option.ext fun p => ?_
  rw [releasePocket_eq_some, releasePocket_eq_some, ready, vacancy, line, drive]

/-- The stage of a release just issued into pocket p (R87, R88). -/
def releaseIssued (p : Nat) (t : Stage) : Stage :=
  { t with vacancy := t.vacancy.map fun v => { v with vacant := false }, releaseAwaited := some p }

theorem issueRelease_eq (p : Nat) (s : State) : issueRelease p s =
    issueOrder (nodeOf .sheetStation 0 s) [2, BitVec.ofNat 8 p] { s with stage := releaseIssued p s.stage } := by
  unfold issueRelease issueOrder
  cases nodeOf .sheetStation 0 s <;> rfl

/-- The stage after the set in the release slot has left it: a finished set moves up (R82). -/
theorem moveUp_of_left (t : Stage) : moveUp { t with ready := none } = match t.assembly with
    | some y => if y.finish.isSome = true then { t with assembly := none, ready := some { y with state := .ready } }
      else { t with ready := none }
    | none => { t with ready := none } := by
  unfold moveUp
  cases t.assembly <;> simp

/-! ### The record that takes the set (R102, R116) -/

/-- An EMPTY record at a position holds the pocket (R102). -/
theorem vacantAt_iff (i p : Nat) (s : State) :
    vacantAt i p s = true ↔ ∃ r, s.track.recs[i]? = some r ∧ r.pocket = some p ∧ r.content = none := by
  unfold vacantAt pocketAt
  cases s.track.recs[i]? <;> simp

theorem vacantAt_of_record {i p : Nat} {s : State} {r : PocketRec} (here : s.track.recs[i]? = some r) (pocket : r.pocket = some p)
    (empty : r.content = none) : vacantAt i p s = true := (vacantAt_iff ..).2 ⟨r, here, pocket, empty⟩

/-- The state with the set as content of the record r at position i, with its insert plan (R102, R116). -/
abbrev entersAt (i : Nat) (x : SetRec) (r : PocketRec) (t : State) : State := { t with
  track := { t.track with recs := t.track.recs.set i { r with content := some (insertPlan x t).1, plan := (insertPlan x t).2 } } }

theorem putSet_eq {i : Nat} {s : State} {r : PocketRec} (here : s.track.recs[i]? = some r) (x : SetRec) :
    putSet i x s = entersAt i x r s := by
  obtain ⟨inside, record⟩ := List.getElem?_eq_some_iff.1 here
  have recs := modify_eq_set s.track.recs i inside fun r =>
    { r with content := some (insertPlan x s).1, plan := (insertPlan x s).2 }
  rw [record] at recs
  simp only [putSet, modPocket, recs]

theorem placeSet_at_entry {p : Nat} {s : State} {r : PocketRec} (here : s.track.recs[0]? = some r) (pocket : r.pocket = some p)
    (empty : r.content = none) (x : SetRec) : placeSet p x s = entersAt 0 x r s := by
  rw [placeSet, if_pos (vacantAt_of_record here pocket empty), putSet_eq here]

theorem positioned_iff (role : Option Role) : positioned role = true ↔ role ∈
    [some Role.insertFeeder, some .envReader, some .envStation, some .caliper, some .divertGate, some .sorter] := by
  rcases role with _ | role
  · decide
  · cases role <;> decide

/-- The stations whose arrivals a set at position 1 makes at once (R102). -/
def stationsAtOne (s : State) : List NodeEntry := (trackNodes s).filter fun n => n.position == 1 && positioned n.role

theorem stationsAtOne_eq (s : State) : stationsAtOne s =
    if s.track.positions = true then (nodesOf s).filter fun n => n.position == 1 && decide (n.role ∈
      [some Role.insertFeeder, some .envReader, some .envStation, some .caliper, some .divertGate, some .sorter]) else [] := by
  have role : ∀ n : NodeEntry, positioned n.role = decide (n.role ∈
      [some Role.insertFeeder, some .envReader, some .envStation, some .caliper, some .divertGate, some .sorter]) :=
    fun n => Bool.eq_iff_iff.2 ((positioned_iff n.role).trans decide_eq_true_iff.symm)
  unfold stationsAtOne trackNodes
  split
  · simp only [role]
  · rfl

theorem placeSet_at_one {p : Nat} {s : State} {r : PocketRec} (notEntry : vacantAt 0 p s = false) (here : s.track.recs[1]? = some r)
    (pocket : r.pocket = some p) (empty : r.content = none) (x : SetRec) :
    placeSet p x s = (stationsAtOne s).foldl arriveAt (entersAt 1 x r s) := by
  rw [placeSet, if_neg (by simp [notEntry]), if_pos (vacantAt_of_record here pocket empty), putSet_eq here]
  rfl

theorem placeSet_of_refused {p : Nat} {s : State} (notEntry : vacantAt 0 p s = false) (notOne : vacantAt 1 p s = false) (x : SetRec) :
    placeSet p x s = writeRecord (.lost x.binding false) s := by
  rw [placeSet, if_neg (by simp [notEntry]), if_neg (by simp [notOne])]

/-! ### The release (R87, R102) -/

theorem issueRelease_stage (p : Nat) (s : State) : (issueRelease p s).stage = releaseIssued p s.stage := by
  rw [issueRelease_eq]
  simp only [issueOrder_frame]

theorem issueRelease_track (p : Nat) (s : State) : (issueRelease p s).track = s.track := by
  rw [issueRelease_eq]
  simp only [issueOrder_frame]

theorem vacantAt_issueRelease (i p : Nat) (s : State) : vacantAt i p (issueRelease p s) = vacantAt i p s := by
  rw [Bool.eq_iff_iff, vacantAt_iff, vacantAt_iff, issueRelease_track]

theorem tryRelease_of_some {s : State} {p : Nat} (release : releasePocket s = some p) : tryRelease s = releaseInto p s := by
  simp only [tryRelease, release]

theorem takeDue_of_due (t : State) (due : Option Notice) : t.track.due = due → takeDue t = match due with
    | some n => trackNotice n t
    | none => t := by
  rintro rfl
  rfl

/-- A release into the pocket at position 0 is taken before any notice (R102). -/
theorem releaseInto_at_entry {s : State} {p : Nat} {x : SetRec} (ready : s.stage.ready = some x) (entry : vacantAt 0 p s = true) :
    releaseInto p s = placeSet p x
      (putStage (moveUp { (issueRelease p s).stage with ready := none }) (issueRelease p s)) := by
  have stands : (issueRelease p s).stage.ready = some x := by rw [issueRelease_stage]; exact ready
  unfold releaseInto
  simp only [vacantAt_issueRelease, entry, if_true, stands]

/-- Any other release is taken after the notice still due, whose timing errors may mark the waiting set suspect (R89, R102). -/
theorem releaseInto_after_due {s : State} {p : Nat} {x : SetRec} (ready : s.stage.ready = some x) (notEntry : vacantAt 0 p s = false) :
    ∃ y, (takeDue (issueRelease p s)).stage.ready = some y ∧ (y = x ∨ y = markSuspect x) ∧ (s.track.due = none → y = x) ∧
      releaseInto p s = placeSet p y
        (putStage (moveUp { (takeDue (issueRelease p s)).stage with ready := none }) (takeDue (issueRelease p s))) := by
  have stands : (issueRelease p s).stage.ready = some x := by rw [issueRelease_stage]; exact ready
  have into : ∀ y, (takeDue (issueRelease p s)).stage.ready = some y → releaseInto p s = placeSet p y
      (putStage (moveUp { (takeDue (issueRelease p s)).stage with ready := none }) (takeDue (issueRelease p s))) := fun y waits => by
    unfold releaseInto
    simp only [vacantAt_issueRelease, notEntry, Bool.false_eq_true, if_false, waits]
  by_cases due : s.track.due = none
  · have same : takeDue (issueRelease p s) = issueRelease p s := by
      simp only [takeDue, issueRelease_track, due]
    have waits := (congrArg (·.stage.ready) same).trans stands
    exact ⟨x, waits, .inl rfl, fun _ => rfl, into x waits⟩
  · rcases takeDue_stageMarked (issueRelease p s) with same | marked
    · have waits := (congrArg (·.ready) same).trans stands
      exact ⟨x, waits, .inl rfl, fun _ => rfl, into x waits⟩
    · have waits := (congrArg (·.ready) marked).trans (congrArg (Option.map markSuspect) stands)
      exact ⟨markSuspect x, waits, .inr rfl, fun none => absurd none due, into _ waits⟩

/-- Settles O59: when a release is allowed, what its issuing leaves, and the record that takes the set or refuses it. -/
theorem releaseEntersTheTrack : Obligations.ReleaseEntersTheTrack := by
  intro s nextUp enters holds
  have up : ∀ t : Stage, moveUp { t with ready := none } = nextUp t := moveUp_of_left
  have elsewhere : ∀ {i p : Nat} {t : State}, ¬holds i p t → vacantAt i p t = false := fun h =>
    Bool.eq_false_iff.2 fun vacant => h ((vacantAt_iff ..).1 vacant)
  refine ⟨fun p => releasePocket_eq_some, tryRelease_of_none, fun p x release ready => ?_, fun p x => ⟨fun r here pocket empty =>
    placeSet_at_entry here pocket empty x, fun r notEntry here pocket empty => ?_, fun notEntry notOne =>
    placeSet_of_refused (elsewhere notEntry) (elsewhere notOne) x⟩⟩
  · intro vacancy issued
    have issuedEq : issueRelease p s = issued := issueRelease_eq p s
    refine ⟨fun r here pocket empty => ?_, fun notEntry => ?_⟩
    · have stands : issued.track.recs[0]? = some r := by rw [← issuedEq, issueRelease_track]; exact here
      rw [tryRelease_of_some release, releaseInto_at_entry ready (vacantAt_of_record here pocket empty), issuedEq, up]
      exact placeSet_at_entry (s := putStage (nextUp issued.stage) issued) stands pocket empty x
    · intro took
      have due : issued.track.due = s.track.due := by rw [← issuedEq, issueRelease_track]
      have tookEq : takeDue (issueRelease p s) = took := (congrArg takeDue issuedEq).trans (takeDue_of_due _ _ due)
      have taken := releaseInto_after_due ready (elsewhere notEntry)
      rw [tookEq, up, ← tryRelease_of_some release] at taken
      exact taken
  · intro stations
    have placed := placeSet_at_one (elsewhere notEntry) here pocket empty x
    rw [stationsAtOne_eq] at placed
    refine ⟨fun none => ?_, fun n one => ?_⟩
    · exact placed.trans (congrArg (List.foldl arriveAt (entersAt 1 x r s)) none)
    · exact placed.trans (congrArg (List.foldl arriveAt (entersAt 1 x r s)) one)

end Sys2Proof.Machine
end

section
/-! Sheets that join a set in the stage (O28). -/

namespace Sys2Proof.Machine

/-! ### The report and its read (R73) -/

theorem exec_sheet {src : Byte} {n : NodeEntry} {r : Role} {s : State} (h : Reports 0x10 src n r s) (seq : BitVec 24) (page total : Byte)
    (word : Word16) (quality : Byte) (double : Bool) : exec (.sheet src seq page total word quality double) s =
      .next (settle (routeSheet src.toNat
        (sheetRead seq.toNat page.toNat total.toNat word quality.toNat double) s)) := report_of_reports h _

/-- What a good read must show (R73). -/
abbrev readsWell (seq page total quality : Nat) : Prop :=
  quality = 0 ∧ 1 ≤ seq ∧ 1 ≤ page ∧ page ≤ 24 ∧ 1 ≤ total ∧ total ≤ 24

/-- The read of a good sheet (R73). -/
abbrev goodRead (seq page total : Nat) (word : Word16) (double : Bool) : SheetRead :=
  { good := some (seq, page, total, word), double := double }

/-- A no-read (R73). -/
abbrev noRead (double : Bool) : SheetRead := { good := none, double := double }

theorem sheetRead_of_good {seq page total quality : Nat} (h : readsWell seq page total quality) (word : Word16) (double : Bool) :
    sheetRead seq page total word quality double = goodRead seq page total word double := by
  simp [sheetRead, h]

theorem sheetRead_of_unread {seq page total quality : Nat} (h : ¬readsWell seq page total quality) (word : Word16) (double : Bool) :
    sheetRead seq page total word quality double = noRead double := by
  have unread : ¬(quality == 0 && 1 ≤ seq && 1 ≤ page && page ≤ 24 && 1 ≤ total && total ≤ 24) = true := by
    simpa [readsWell, and_assoc] using h
  exact congrArg (SheetRead.mk · double) (if_neg unread)

/-- A good read of page 1 of more (R73). -/
theorem exec_firstSheet {src : Byte} {n : NodeEntry} {r : Role} {s : State} (h : Reports 0x10 src n r s) {seq : BitVec 24} {total : Byte}
    (named : 1 ≤ seq.toNat) (more : 2 ≤ total.toNat) (few : total.toNat ≤ 24) (word : Word16) :
    exec (.sheet src seq 1 total word 0 false) s =
      .next (settle (routeSheet src.toNat (goodRead seq.toNat 1 total.toNat word false) s)) := by
  have read : readsWell seq.toNat (1 : Byte).toNat total.toNat (0 : Byte).toNat := ⟨rfl, named, by decide, by decide, by omega, few⟩
  rw [exec_sheet h, sheetRead_of_good read]
  rfl

/-! ### Where a sheet goes (R74, R75) -/

theorem routeSheet_of_unfinished {s : State} {x : SetRec} (slot : s.stage.assembly = some x) (unfinished : x.finish = none)
    (src : Nat) (r : SheetRead) : routeSheet src r s = sheetToSet r x s := by
  simp only [routeSheet, slot, unfinished, Option.isNone_none, if_true]

theorem sheetToSet_of_first {x : SetRec} {own : Nat} (ordered : x.state = .ordered) (binding : x.binding = .account own)
    (r : SheetRead) (s : State) : sheetToSet r x s = firstSheet own r x s := by
  simp only [sheetToSet, ordered, binding]

/-- A set that is ASSEMBLING, or stray, takes a sheet as a later one (R74, R78). -/
theorem sheetToSet_of_later {x : SetRec} (h : x.state = .assembling ∨ ∃ o, x.binding = .stray o) (r : SheetRead) (s : State) :
    sheetToSet r x s = assembleSheet r x s := by
  unfold sheetToSet
  split
  · rename_i ordered binding
    rcases h with assembling | ⟨o, stray⟩
    · exact nomatch ordered.symm.trans assembling
    · exact nomatch binding.symm.trans stray
  · rfl

theorem firstSheet_of_own (own page total : Nat) (word : Word16) (double : Bool) (x : SetRec) (s : State) :
    firstSheet own (goodRead own page total word double) x s = assembleSheet (goodRead own page total word double) (settled x) s :=
  if_pos rfl

/-! ### The marks a sheet adds (R78) -/

theorem any_ne_iff (o : Option Nat) (n : Nat) : (o.any (· != n)) = true ↔ ∃ q, o = some q ∧ q ≠ n := by
  cases o <;> simp

theorem sheetMarks_of_good (seq page total : Nat) (word : Word16) (double : Bool) (x : SetRec) :
    sheetMarks (goodRead seq page total word double) x =
      ((if ∃ q, boundSeq x.binding = some q ∧ q ≠ seq then [Reason.seqBreak] else []) ++
        (if page ≠ x.sheets.length + 1 then [Reason.pageOrder] else []) ++
        (if ∃ t, x.firstTotal = some t ∧ t ≠ total then [Reason.pageOrder] else [])) ++
      (if double = true then [Reason.doubleSheet] else []) := by
  simp only [sheetMarks, any_ne_iff]

theorem bindingAfter_of_bound {r : SheetRead} {b : Binding} {seq : Nat} (h : boundSeq b = some seq) : bindingAfter r b = b := by
  unfold bindingAfter
  split
  · exact nomatch h
  · rfl

/-- A no-read adds no word to the balance (R71). -/
theorem balance_of_unread (b : Word16) (double : Bool) : b ^^^ sheetWord (noRead double) = b := BitVec.xor_zero

/-- A good read of the seq the set must name, its page the sheet's place and its total the first total, adds no mark (R78). -/
theorem joinSheet_of_in_order {x : SetRec} {seq page total : Nat} (bound : boundSeq x.binding = some seq)
    (place : page = x.sheets.length + 1) (first : x.firstTotal = none ∨ x.firstTotal = some total) (word : Word16) :
    joinSheet (goodRead seq page total word false) x = { x with
      sheets := x.sheets ++ [Sheet.mk (some (page, total, word)) false]
      firstTotal := some total, balance := x.balance ^^^ word } := by
  have marks : sheetMarks (goodRead seq page total word false) x = [] := by
    rw [sheetMarks_of_good]
    rcases first with first | first <;> simp [bound, place, first]
  have totals : x.firstTotal.or (some total) = some total := by
    rcases first with first | first <;> simp [first]
  simp only [joinSheet, marks, bindingAfter_of_bound bound, Option.map_some, totals]
  rfl

/-! ### Finishing by sheets, and moving up (R79, R81, R82) -/

theorem judgeFinish_of_good (seq page total : Nat) (word : Word16) (double : Bool) (x : SetRec) :
    judgeFinish (goodRead seq page total word double) x =
      if page = total then finishSet .complete x
      else if x.sheets.length = x.maxSheets then finishSet .maximum (x.mark .overlength) else x := by
  simp only [judgeFinish, Option.any_some, beq_iff_eq]

theorem judgeFinish_of_unread (double : Bool) (x : SetRec) : judgeFinish (noRead double) x =
    if x.sheets.length = x.maxSheets then finishSet .maximum (x.mark .overlength) else x := rfl

theorem balanceMark_eq (x : SetRec) (l : List Reason) : balanceMark x l =
    if x.sheets ≠ [] ∧ (∀ e ∈ x.sheets, e.good ≠ none) ∧ x.balance ≠ 0 then addMark .unbalanced l else l := by
  refine if_congr ?_ rfl rfl
  simp [Option.isSome_iff_ne_none, and_assoc]

theorem moveUp_of_unfinished {t : Stage} {x : SetRec} (slot : t.assembly = some x) (unfinished : x.finish = none) : moveUp t = t := by
  unfold moveUp
  split
  · rename_i y same empty
    rw [slot, Option.some.injEq] at same
    subst same
    exact if_neg (by simp [unfinished])
  · rfl

theorem moveUp_eq {t : Stage} {x : SetRec} (slot : t.assembly = some x) : moveUp t =
    if x.finish ≠ none ∧ t.ready = none then { t with assembly := none, ready := some { x with state := .ready } } else t := by
  split
  · rename_i h
    obtain ⟨finished, empty⟩ := h
    exact moveUp_of_empty slot empty (Option.isSome_iff_ne_none.2 finished)
  · rename_i h
    by_cases empty : t.ready = none
    · exact moveUp_of_unfinished slot (not_not.1 fun finished => h ⟨finished, empty⟩)
    · exact moveUp_of_occupied (Option.isSome_iff_ne_none.2 empty)

/-! ### A sheet that leaves its set in the assembly slot (R78, R82) -/

/-- The state with a set in its assembly slot. -/
abbrev assembles (x : SetRec) (s : State) : State := { s with stage := { s.stage with assembly := some x } }

theorem assembleSheet_of_unfinished {r : SheetRead} {x y : SetRec} (joined : joinSheet r x = y) (judged : judgeFinish r y = y)
    (unfinished : y.finish = none) (s : State) : assembleSheet r x s = assembles y s := by
  rw [assembleSheet, joined, judged, moveUp_of_unfinished rfl unfinished]
  rfl

/-- The first sheet of a set with room for more, read well as page 1 of more, of the seq the set must name (R78, R79). -/
theorem assembleSheet_of_first {x : SetRec} {seq total : Nat} (bound : boundSeq x.binding = some seq) (empty : x.sheets = [])
    (first : x.firstTotal = none) (unfinished : x.finish = none) (more : 2 ≤ total) (room : 2 ≤ x.maxSheets) (word : Word16) (s : State) :
    assembleSheet (goodRead seq 1 total word false) x s = assembles { x with
      sheets := [Sheet.mk (some (1, total, word)) false], firstTotal := some total, balance := x.balance ^^^ word } s := by
  have joined := joinSheet_of_in_order (page := 1) (total := total) bound (by rw [empty]; rfl) (.inl first) word
  rw [empty, List.nil_append] at joined
  refine assembleSheet_of_unfinished joined ?_ unfinished s
  rw [judgeFinish_of_good, if_neg (by omega), if_neg (by simp only [List.length_singleton]; omega)]

/-! ### The end of the event (R87, R146) -/

/-- An event that leaves a set in the assembly slot, and changes nothing that a release rests on, ends where it stands (R87, R146). -/
theorem settle_of_assembled {s t : State} {x : SetRec} (release : releasePocket s = none)
    (stage : t.stage = { s.stage with assembly := some x }) (line : t.line = s.line) (pitch : t.pitch = s.pitch) : settle t = t := by
  have same : releasePocket t = releasePocket s := releasePocket_congr (by rw [stage]) (by rw [stage]) (by rw [line]) (by rw [pitch])
  exact settle_of_held (same.trans release) (by simp [held, stageHeld, stage])

theorem settle_assembles {s : State} (release : releasePocket s = none) (x : SetRec) : settle (assembles x s) = assembles x s :=
  settle_of_assembled release rfl rfl rfl

/-- Settles O28: a first sheet of the set's own account, the sheet that completes a set behind an occupied release slot, and any later
sheet. -/
theorem sheetsJoinTheirSet : Obligations.SheetsJoinTheirSet := by
  refine ⟨fun src seq total word n r x s reports release slot own unfinished named few => ⟨fun ordered empty first more room => ?_,
    fun assembling last first occupied => ?_⟩, fun src seq page total word quality double n r x s reports slot unfinished later => ?_⟩
  · have joins := assembleSheet_of_first (x := settled x) (congrArg boundSeq own) empty first unfinished more room word s
    rw [exec_firstSheet reports named more few, routeSheet_of_unfinished slot unfinished, sheetToSet_of_first ordered own,
      firstSheet_of_own, joins, settle_assembles release]
    rfl
  · intro y
    have joined : joinSheet (goodRead seq.toNat total.toNat total.toNat word false) x = y :=
      (joinSheet_of_in_order (congrArg boundSeq own) last.symm (.inr first) word).trans (by rw [← first])
    have finished : judgeFinish (goodRead seq.toNat total.toNat total.toNat word false) y = finishSet .complete y := by
      rw [judgeFinish_of_good, if_pos rfl]
    have stays := moveUp_of_occupied (t := { s.stage with assembly := some (finishSet .complete y) }) occupied
    have assembled : assembleSheet (goodRead seq.toNat total.toNat total.toNat word false) x s =
        assembles (finishSet .complete y) s := by
      rw [assembleSheet, joined, finished, stays]
      rfl
    have read : readsWell seq.toNat total.toNat total.toNat (0 : Byte).toNat := ⟨rfl, named, by omega, few, by omega, few⟩
    rw [exec_sheet reports, sheetRead_of_good read, routeSheet_of_unfinished slot unfinished,
      sheetToSet_of_later (.inl assembling), assembled, settle_assembles release]
    simp only [finishSet, y, assembling]
  · intro add head good bound added y finished z
    let read := sheetRead seq.toNat page.toNat total.toNat word quality.toNat double
    have binds : boundSeq x.binding = bound := by
      simp only [bound]
      cases x.binding <;> rfl
    have joined : joinSheet read x = y := by
      by_cases h : good
      · have marks : sheetMarks (goodRead seq.toNat page.toNat total.toNat word double) x = added := by
          rw [sheetMarks_of_good, binds]
          simp only [added, if_pos h]
        simp only [read, sheetRead_of_good h, joinSheet, marks, y, if_pos h]
        cases x.firstTotal <;> rcases x.binding with q | _ | q <;> rfl
      · simp only [read, sheetRead_of_unread h, joinSheet, balance_of_unread, y, added, if_neg h]
        cases x.firstTotal <;> rcases x.binding with q | _ | q <;> rfl
    have finishes : ∀ why u, finishSet why u = finished why u := fun why u => by
      simp only [finished, finishSet, finishMarks, balanceMark_eq, pageCountMark, hostMarks, ite_not]
      cases u.binding <;> cases u.acct <;> rfl
    have judged : judgeFinish read y = z := by
      by_cases h : good
      · simp only [read, sheetRead_of_good h, judgeFinish_of_good, finishes, z, h, true_and, BitVec.toNat_inj]
        rfl
      · simp only [read, sheetRead_of_unread h, judgeFinish_of_unread, finishes, z, h, false_and, if_false]
        rfl
    have routed : routeSheet src.toNat read s = assembleSheet read x s := by
      rw [routeSheet_of_unfinished slot unfinished, sheetToSet_of_later later]
    rw [exec_sheet reports, routed, assembleSheet, joined, judged, moveUp_eq rfl]
    rfl

end Sys2Proof.Machine
end

section
/-! Sheets with no set to join (O29). -/

namespace Sys2Proof.Machine

/-! ### Where such a sheet goes (R74, R84, R85) -/

theorem routeSheet_of_empty {s : State} (slot : s.stage.assembly = none) (src : Nat) (r : SheetRead) :
    routeSheet src r s = sheetLate src r s := by
  simp only [routeSheet, slot]

theorem sheetLate_of_no_set {s : State} (slot : s.stage.assembly = none) (ready : s.stage.ready = none) (src : Nat) (r : SheetRead) :
    sheetLate src r s = if s.line.state = .halted then bumpRun 14 s else sheetAlone src r s := by
  simp only [sheetLate, slot, ready, lateMatches, Bool.false_eq_true, if_false]

/-- The stray set with no sheet yet that is made with the drive on (R84). -/
def strayEmpty (seq : Option Nat) (w : Working) : SetRec where
  binding := .stray seq
  acct := none
  state := .assembling
  finish := none
  rebindSpent := true
  sheets := []
  extraSheets := 0
  firstTotal := none
  balance := 0
  pitches := 0
  maxSheets := w.maxSheets
  captured := some (capture w)
  marks := [.stray]
  suspect := false
  unsettled := false

theorem strayNew_of_on {s : State} {w : Working} (on : s.pitch.driveEn = true) (work : s.tables.work = some w) (seq page total : Nat)
    (word : Word16) (double : Bool) : strayNew (goodRead seq page total word double) s = strayEmpty (some seq) w := by
  simp only [strayNew, on, if_true, work]
  rfl

theorem sheetAlone_of_room {s : State} (slot : s.stage.assembly = none) (room : claims s + 2 ≤ free s) (src : Nat) (r : SheetRead) :
    sheetAlone src r s = bumpRun 8 (assembleSheet r (strayNew r s) s) := if_pos ⟨slot, room⟩

theorem sheetAlone_of_no_room {s : State} (full : free s < claims s + 2) (src : Nat) (r : SheetRead) :
    sheetAlone src r s = raise .collationOverrun 1 src (suspectStage s) := if_neg fun both => Nat.not_le_of_lt full both.2

/-! ### The collation overrun (R85, R155) -/

theorem suspectStage_of_no_set {s : State} (slot : s.stage.assembly = none) (ready : s.stage.ready = none) : suspectStage s = s := by
  have assembly : s.stage.assembly.map markSuspect = s.stage.assembly := by rw [slot, Option.map_none]
  have release : s.stage.ready.map markSuspect = s.stage.ready := by rw [ready, Option.map_none]
  simp only [suspectStage, assembly, release]

/-- A collation overrun takes a drive state to RECOVERY, with its own cause (R155). -/
theorem raise_collationOverrun_line {s : State} (drive : driveState s.line.state = true) (a b : Nat) :
    (raise .collationOverrun a b s).line.state = .recovery ∧ (raise .collationOverrun a b s).line.lastCause = 8 ∧
    (raise .collationOverrun a b s).pitch.driveEn = false := by
  obtain ⟨state, cause, -, off⟩ := enterRecovery_line 8 (takeRaising .collationOverrun a b s)
  rw [raise_recoveryKind rfl, if_pos drive]
  exact ⟨state, cause, off⟩

/-- An empty slot stays empty in a suspect marking (R89). -/
theorem StageMarked.ready {s t : State} (h : StageMarked s t) : t.stage.ready = none ↔ s.stage.ready = none := by
  rcases h with same | marked
  · rw [same]
  · rw [marked]
    exact Option.map_eq_none_iff

/-- Settles O29: a stale sheet, a stray set, and a collation overrun. -/
theorem sheetsWithNoSet : Obligations.SheetsWithNoSet := by
  intro src seq page total word n r s reports slot ready
  have noRelease : releasePocket s = none := by simp [releasePocket, ready]
  have routed : ∀ r, routeSheet src.toNat r s = if s.line.state = .halted then bumpRun 14 s else sheetAlone src.toNat r s := fun r => by
    rw [routeSheet_of_empty slot, sheetLate_of_no_set slot ready]
  refine ⟨fun halted quality double => ?_, fun w running on room work sheets named more few => ?_, fun running full quality double => ?_⟩
  · have stays : settle (bumpRun 14 s) = bumpRun 14 s :=
      settle_eq_self ((releasePocket_congr rfl rfl rfl rfl).trans noRelease) (by simp [halted])
    rw [exec_sheet reports, routed, if_pos halted, stays]
  · have joins := assembleSheet_of_first (x := strayEmpty (some seq.toNat) w) rfl rfl rfl rfl more sheets word s
    have balance : (strayEmpty (some seq.toNat) w).balance ^^^ word = word := BitVec.zero_xor
    rw [balance] at joins
    have stays : ∀ y, settle (bumpRun 8 (assembles y s)) = bumpRun 8 (assembles y s) := fun y =>
      settle_of_assembled noRelease rfl rfl rfl
    rw [exec_firstSheet reports named more few, routed, if_neg (by simp [running]), sheetAlone_of_room slot room, strayNew_of_on on work,
      joins, stays]
    rfl
  · obtain ⟨recovery, cause, off⟩ := raise_collationOverrun_line (s := s) (by rw [running]; rfl) 1 src.toNat
    have marked := raise_stageMarked .collationOverrun (by decide) 1 src.toNat s
    refine ⟨raise .collationOverrun 1 src.toNat s, ?_, recovery, cause, ?_, marked.keeps.2.2.2 slot, marked.ready.2 ready, off, ?_⟩
    · rw [exec_sheet reports, routed, if_neg (by simp [running]), sheetAlone_of_no_room full, suspectStage_of_no_set slot ready,
        settle_of_recovery recovery]
    · rw [latch_raise _ _ _ (by decide) (by decide), if_pos rfl]
    · simp only [raise_frame, and_self]

end Sys2Proof.Machine
end

section
/-! A first sheet of another account, and a late sheet (O30). -/

namespace Sys2Proof.Machine

/-! ### A first sheet of another account (R76, R77) -/

section First

variable {own seq page total : Nat} {word : Word16} {double : Bool}

theorem firstSheet_of_later_seq (later : own < seq) (x : SetRec) (s : State) :
    firstSheet own (goodRead seq page total word double) x s = rebindFirst own seq (goodRead seq page total word double) x s :=
  (if_neg (Nat.ne_of_gt later)).trans (if_pos later)

theorem firstSheet_of_earlier_seq (earlier : seq < own) (x : SetRec) (s : State) :
    firstSheet own (goodRead seq page total word double) x s = strayFirst own (goodRead seq page total word double) x s :=
  (if_neg (Nat.ne_of_lt earlier)).trans (if_neg (Nat.lt_asymm earlier))

theorem firstSheet_of_unread (own : Nat) (double : Bool) (x : SetRec) (s : State) :
    firstSheet own (noRead double) x s = strayFirst own (noRead double) x s := rfl

/-- The state after the queue has been rebound to the record a of seq t: its earlier records skipped, a taken, the pull list searched
(R58, R68). -/
def queueRebound (t : Nat) (a : Account) (s : State) : State := bumpRun 1 { s with
  acct := { s.acct with queue := rebindQueue t s.acct.queue }
  tables := { s.tables with pull := pullAfter a.key s.tables.pull } }

theorem rebindRecord_of_found {t : Nat} {s : State} {a : Account} (found : (s.acct.queue.find? fun r => r.seq == t) = some a) :
    rebindRecord t s = some (queueRebound t a s, boundFields a s) := by
  simp only [rebindRecord, found, bindRecord, pullSearch_eq]
  rfl

theorem rebindFirst_of_found {t : Nat} {s : State} {a : Account} (found : (s.acct.queue.find? fun r => r.seq == t) = some a)
    (own : Nat) (r : SheetRead) (x : SetRec) : rebindFirst own t r x s =
      writeRecord (.missing own .reboundPast) (assembleSheet r (reboundSet t (boundFields a s) x) (queueRebound t a s)) := by
  simp only [rebindFirst, rebindRecord_of_found found]

theorem rebindFirst_of_gone {t : Nat} {s : State} (gone : ∀ r ∈ s.acct.queue, r.seq ≠ t) (own : Nat) (r : SheetRead) (x : SetRec) :
    rebindFirst own t r x s = strayFirst own r x s := by
  have none : (s.acct.queue.find? fun r => r.seq == t) = none := by simpa using gone
  simp only [rebindFirst, rebindRecord, none]

/-- A good first sheet of an earlier seq, or of one the queue does not hold, makes the set stray (R76, R77). -/
theorem firstSheet_strays {s : State} (h : seq < own ∨ own < seq ∧ ∀ r ∈ s.acct.queue, r.seq ≠ seq) (x : SetRec) :
    firstSheet own (goodRead seq page total word double) x s = strayFirst own (goodRead seq page total word double) x s := by
  rcases h with earlier | ⟨later, gone⟩
  · exact firstSheet_of_earlier_seq earlier x s
  · rw [firstSheet_of_later_seq later, rebindFirst_of_gone gone]

end First

theorem pulled_eq (key : Nat) (l : List PullEntry) : (pullFind key l).isSome = l.any fun e => e.key == key := by
  rw [pullFind, List.isSome_find?]

/-- The no-read first sheet of a set made stray (R77, R78). -/
theorem assembleSheet_of_unread_first {x : SetRec} (empty : x.sheets = []) (unfinished : x.finish = none) (room : 2 ≤ x.maxSheets)
    (s : State) : assembleSheet (noRead false) (strayedSet none x) s = assembles { settled x with
      binding := .stray none, acct := none, marks := addMark .noRead (headMark .stray x.marks), sheets := [Sheet.mk none false] } s := by
  have joined : joinSheet (noRead false) (strayedSet none x) = { settled x with
      binding := .stray none, acct := none, marks := addMark .noRead (headMark .stray x.marks), sheets := [Sheet.mk none false] } := by
    simp only [joinSheet, balance_of_unread, strayedSet, settled, empty, Option.map_none, Option.or_none]
    rfl
  refine assembleSheet_of_unfinished joined ?_ unfinished s
  rw [judgeFinish_of_unread, if_neg]
  simp only [settled, List.length_singleton]
  omega

/-- The MISSING record of the old seq changes nothing that the end of the event rests on (R87, R146). -/
theorem settle_missing {s u : State} (release : releasePocket s = none) (stage : u.stage = s.stage) (line : u.line = s.line)
    (pitch : u.pitch = s.pitch) (r : Record) (x : SetRec) :
    settle (writeRecord r (assembles x u)) = writeRecord r (assembles x u) :=
  settle_of_assembled (x := x) release (by simp [stage]) (by simp [line]) (by simp [pitch])

/-- The end of the event in which a set turns stray (R77). -/
theorem settle_strayFirst {s : State} {r : SheetRead} {x y : SetRec} (release : releasePocket s = none)
    (joins : assembleSheet r (strayedSet (r.good.map fun (q, _, _, _) => q) x) s = assembles y s) (own : Nat) :
    settle (strayFirst own r x s) = writeRecord (.missing own .setStrayed) (assembles y s) := by
  rw [strayFirst, joins, settle_missing release rfl rfl rfl]

/-! ### A late sheet (R74, R83) -/

theorem lateMatches_of_good {x : SetRec} {seq : Nat} (finished : x.finish.isSome = true) (bound : boundSeq x.binding = some seq)
    (page total : Nat) (word : Word16) (double : Bool) : lateMatches (goodRead seq page total word double) (some x) = true := by
  simp [lateMatches, finished, bound]

theorem lateMatches_of_unread {x : SetRec} (finished : x.finish.isSome = true) (double : Bool) :
    lateMatches (noRead double) (some x) = true := finished

theorem routeSheet_in_assembly {s : State} {x : SetRec} {r : SheetRead} (slot : s.stage.assembly = some x)
    (finished : x.finish.isSome = true) (late : lateMatches r (some x) = true) (src : Nat) :
    routeSheet src r s = assembles (lateSheet r x) s := by
  have there : lateMatches r s.stage.assembly = true := by rwa [slot]
  have joined : x.finish.isNone = false := by simpa using finished
  have goesLate : routeSheet src r s = sheetLate src r s := by simp only [routeSheet, slot, joined, Bool.false_eq_true, if_false]
  rw [goesLate, sheetLate, if_pos there, slot]
  rfl

/-- The state with a set in its release slot. -/
abbrev waitsReady (x : SetRec) (s : State) : State := { s with stage := { s.stage with ready := some x } }

theorem routeSheet_in_ready {s : State} {x : SetRec} {r : SheetRead} (slot : s.stage.assembly = none) (ready : s.stage.ready = some x)
    (late : lateMatches r (some x) = true) (src : Nat) : routeSheet src r s = waitsReady (lateSheet r x) s := by
  have notThere : ¬lateMatches r s.stage.assembly = true := by
    rw [slot]
    exact Bool.false_ne_true
  have there : lateMatches r s.stage.ready = true := by rwa [ready]
  rw [routeSheet_of_empty slot, sheetLate, if_neg notThere, if_pos there, ready]
  rfl

theorem settle_waitsReady {s : State} (release : releasePocket s = none) (ready : s.stage.ready.isSome = true) (x : SetRec) :
    settle (waitsReady x s) = waitsReady x s := by
  have same : releasePocket (waitsReady x s) = releasePocket s := releasePocket_congr ready.symm rfl rfl rfl
  exact settle_of_held (same.trans release) (by simp [held, stageHeld])

/-- Settles O30: a first sheet of another account by what the queue holds, and a late sheet by the slot its set stands in. -/
theorem firstAndLateSheetsSettleTheSet : Obligations.FirstAndLateSheetsSettleTheSet := by
  intro src seq page total word quality double n r s reports release assembling
  have unread : quality ≠ 0 → ∀ double, sheetRead seq.toNat page.toNat total.toNat word quality.toNat double = noRead double :=
    fun bad double => sheetRead_of_unread (fun read => bad (BitVec.eq_of_toNat_eq read.1)) word double
  refine ⟨fun x own slot binding ordered unfinished empty noTotal room => ?_, fun y own binding finished => ?_⟩
  · intro head first one
    have routed : ∀ r, routeSheet src.toNat r s = firstSheet own r x s := fun r => by
      rw [routeSheet_of_unfinished slot unfinished, sheetToSet_of_first ordered binding]
    refine ⟨fun named more few => ⟨fun a later found => ?_, fun strays => ?_⟩, fun bad => ?_⟩
    · intro hit found' pull bound
      have joins := assembleSheet_of_first (x := reboundSet seq.toNat (boundFields a s) x) rfl empty noTotal unfinished more room word
        (queueRebound seq.toNat a s)
      rw [exec_firstSheet reports named more few, routed, firstSheet_of_later_seq later, rebindFirst_of_found found, joins,
        settle_missing (u := queueRebound seq.toNat a s) release rfl rfl rfl]
      simp only [boundFields, pulled_eq]
      rfl
    · have joins := assembleSheet_of_first (x := strayedSet (some seq.toNat) x) rfl empty noTotal unfinished more room word s
      rw [exec_firstSheet reports named more few, routed, firstSheet_strays strays,
        settle_strayFirst release joins]
      rfl
    · have joins := assembleSheet_of_unread_first empty unfinished room s
      rw [exec_sheet reports, unread bad, routed, firstSheet_of_unread, settle_strayFirst release joins]
      rfl
  · intro late good unreadSet read
    have goodLate : read →
        sheetRead seq.toNat page.toNat total.toNat word (0 : Byte).toNat double = goodRead own page.toNat total.toNat word double ∧
        lateMatches (goodRead own page.toNat total.toNat word double) (some y) = true := fun now => by
      obtain ⟨pageLow, pageHigh, totalLow, totalHigh, named, same⟩ := now
      have well : readsWell seq.toNat page.toNat total.toNat (0 : Byte).toNat := ⟨rfl, named, pageLow, pageHigh, totalLow, totalHigh⟩
      rw [sheetRead_of_good well, same]
      exact ⟨rfl, lateMatches_of_good finished (congrArg boundSeq binding) ..⟩
    refine ⟨fun slot => ⟨fun now => ?_, fun bad => ?_⟩, fun slot ready => ?_⟩
    · obtain ⟨reads, joins⟩ := goodLate now
      rw [exec_sheet reports, reads, routeSheet_in_assembly slot finished joins, settle_assembles release]
      rfl
    · rw [exec_sheet reports, unread bad, routeSheet_in_assembly slot finished (lateMatches_of_unread finished double),
        settle_assembles release]
      rfl
    · intro readySlot
      have filled : s.stage.ready.isSome = true := by rw [ready]; rfl
      refine ⟨fun now => ?_, fun bad => ?_⟩
      · obtain ⟨reads, joins⟩ := goodLate now
        rw [exec_sheet reports, reads, routeSheet_in_ready slot ready joins, settle_waitsReady release filled]
        rfl
      · rw [exec_sheet reports, unread bad, routeSheet_in_ready slot ready (lateMatches_of_unread finished double),
          settle_waitsReady release filled]
        rfl

end Sys2Proof.Machine
end

section
/-! A record of the track at its position: what the shared operations make of it (O31, O32, O56, O57, O58). -/

namespace Sys2Proof.Machine

/-! ### One record of the track -/

/-- The state with the record at position p replaced. -/
def putPocket (p : Nat) (q : PocketRec) (s : State) : State := { s with track := { s.track with recs := s.track.recs.set p q } }

section Record

variable {p : Nat} {r : PocketRec} {s : State}

theorem putPocket_self (here : s.track.recs[p]? = some r) : putPocket p r s = s := by
  obtain ⟨inside, rfl⟩ := List.getElem?_eq_some_iff.1 here
  rw [putPocket, List.set_getElem_self]

theorem putPocket_putPocket (q q' : PocketRec) (s : State) : putPocket p q' (putPocket p q s) = putPocket p q' s := by
  simp only [putPocket, List.set_set]

theorem record_putPocket (here : s.track.recs[p]? = some r) (q : PocketRec) : (putPocket p q s).track.recs[p]? = some q := by
  obtain ⟨inside, -⟩ := List.getElem?_eq_some_iff.1 here
  exact List.getElem?_set_self inside

theorem modPocket_of_record (here : s.track.recs[p]? = some r) (f : PocketRec → PocketRec) :
    modPocket p f s = putPocket p (f r) s := by
  obtain ⟨inside, rfl⟩ := List.getElem?_eq_some_iff.1 here
  rw [modPocket, modify_eq_set _ _ inside, putPocket]

theorem modPocket_putPocket (here : s.track.recs[p]? = some r) (f : PocketRec → PocketRec) (q : PocketRec) :
    modPocket p f (putPocket p q s) = putPocket p (f q) s := by
  rw [modPocket_of_record (record_putPocket here q), putPocket_putPocket]

/-- What a mark makes of the record q at position p: a set pocket at 0 to D-1 takes it, no other does (R103). -/
def markedAt (p : Nat) (why : Reason) (s : State) (q : PocketRec) : PocketRec :=
  if belowGate p s = true then { q with content := q.content.map fun x => { x with marks := addMark why x.marks } } else q

theorem markedAt_of_set {why : Reason} {x : SetRec} (below : belowGate p s = true) (set : r.content = some x) :
    markedAt p why s r = { r with content := some { x with marks := addMark why x.marks } } := by
  rw [markedAt, if_pos below, set, Option.map_some]

theorem markPocket_putPocket (here : s.track.recs[p]? = some r) (why : Reason) (q : PocketRec) :
    markPocket p why (putPocket p q s) = putPocket p (markedAt p why s q) s := by
  have gate : belowGate p (putPocket p q s) = belowGate p s := belowGate_of rfl rfl p
  rw [markPocket, markedAt, gate, modPocket_putPocket here, apply_ite (putPocket p · s)]

end Record

end Sys2Proof.Machine
end

section
/-! The sets that leave the track, and the arrivals with the drive off (O58). -/

namespace Sys2Proof.Machine

/-! ### Departures (R105 to R108) -/

section Depart

variable {p : Nat} {r : PocketRec} {x : SetRec} {on : Bool} {s : State}

/-- At D a set leaves with the record its order gives, or stays when the order gives none (R105, R106, R108). -/
theorem departGate_of_set (gate : positionOf .divertGate s = some p) (here : s.track.recs[p]? = some r) (set : r.content = some x) :
    (∀ out, gateOutcome on x r = some out → departGate on s = writeRecord out (putPocket p (emptied r) s)) ∧
    (gateOutcome on x r = none → departGate on s = s) := by
  refine ⟨fun out leaves => ?_, fun stays => ?_⟩
  · simp only [departGate, gate, pocketAt, here, set, leaves, modPocket_of_record here]
  · simp only [departGate, gate, pocketAt, here, set, stays]

theorem departGate_of_empty (gate : positionOf .divertGate s = some p) (here : s.track.recs[p]? = some r) (empty : r.content = none) :
    departGate on s = s := by
  simp only [departGate, gate, pocketAt, here, empty]

/-- At X, the last position, a set leaves always (R107, R108). -/
theorem departExit_of_set (last : s.track.recs.length = p + 1) (here : s.track.recs[p]? = some r) (set : r.content = some x) :
    departExit on s = writeRecord (exitOutcome on x r) (putPocket p (emptied r) s) := by
  simp only [departExit, last, Nat.add_sub_cancel, pocketAt, here, set, modPocket_of_record here]

theorem departExit_of_empty (last : s.track.recs.length = p + 1) (here : s.track.recs[p]? = some r) (empty : r.content = none) :
    departExit on s = s := by
  simp only [departExit, last, Nat.add_sub_cancel, pocketAt, here, empty]

/-- The record of a set diverted at D names its first mark and counts its marks (R105). -/
theorem divertRecord_of_marks {why : Reason} {more : List Reason} (marks : x.marks = why :: more) :
    (∀ seq, x.binding = .account seq → divertRecord x r = .diverted seq why (more.length + 1) r.gateConfirmed) ∧
    (∀ o, x.binding = .stray o → divertRecord x r = .stray o r.gateConfirmed why (more.length + 1)) := by
  constructor <;> intro _ binding <;> simp only [divertRecord, binding, marks, List.headD_cons, List.length_cons]

end Depart

/-! ### Arrivals with the drive off (R108) -/

theorem markSuspect_eq (x : SetRec) : markSuspect x = { x with
    suspect := true, marks := if x.suspect = true ∨ .suspect ∈ x.marks then x.marks else x.marks ++ [.suspect] } := by
  by_cases suspect : x.suspect = true
  · rw [markSuspect, if_pos suspect, if_pos (.inl suspect), ← suspect]
  · simp only [markSuspect, addMark, suspect, false_or, Bool.false_eq_true, if_false]

theorem arriveOff_of_set {n : NodeEntry} {r : PocketRec} {x : SetRec} {s : State} (here : s.track.recs[n.position]? = some r)
    (set : r.content = some x) (role : n.role ∈ [some Role.insertFeeder, some .envReader, some .envStation, some .caliper]) :
    arriveOff s n = putPocket n.position { r with content := some (markSuspect x) } s := by
  have marks : arriveOff s n = modPocket n.position (fun r => { r with content := r.content.map markSuspect }) s := by
    simp only [List.mem_cons, List.not_mem_nil, or_false] at role
    rcases role with role | role | role | role <;> simp only [arriveOff, role]
  rw [marks, modPocket_of_record here, set, Option.map_some]

theorem arriveOff_at_gate_or_sorter {n : NodeEntry} (role : n.role ∈ [some Role.divertGate, some .sorter]) (s : State) :
    arriveOff s n = s := by
  simp only [List.mem_cons, List.not_mem_nil, or_false] at role
  rcases role with role | role <;> simp only [arriveOff, role]

/-- Settles O58: a departure by the record its order or its exit decision gives, then what an EMPTY pocket and the drive off leave. -/
theorem departuresWriteTheOutcomes : Obligations.DeparturesWriteTheOutcomes := by
  intro x r s set gone
  refine ⟨fun d gate here => ?_, fun last length here => ?_, fun y on empty => ⟨fun d gate here => departGate_of_empty gate here empty,
    fun last length here => departExit_of_empty length here empty⟩, fun m here => ⟨fun role => ?_, fun role =>
    arriveOff_at_gate_or_sorter role s⟩⟩
  · have leaves {on : Bool} {out : Record} (given : gateOutcome on x r = some out) : departGate on s = writeRecord out (gone d) :=
      (departGate_of_set gate here set).1 out given
    refine ⟨fun why more divert marks => ⟨fun seq binding => ?_, fun o binding => ?_⟩, fun pass => ?_, fun none => ?_, leaves rfl⟩
    · exact leaves (by rw [gateOutcome, if_pos rfl, divert, (divertRecord_of_marks marks).1 seq binding])
    · exact leaves (by rw [gateOutcome, if_pos rfl, divert, (divertRecord_of_marks marks).2 o binding])
    · exact (departGate_of_set gate here set).2 (by rw [gateOutcome, if_pos rfl, pass])
    · exact leaves (by rw [gateOutcome, if_pos rfl, none])
  · have leaves {on : Bool} {out : Record} (given : exitOutcome on x r = out) : departExit on s = writeRecord out (gone last) :=
      given ▸ departExit_of_set length here set
    refine ⟨fun seq b g t p binding decision => leaves ?_, fun seq g why binding decision => leaves ?_, fun undecided => leaves ?_,
      leaves rfl⟩
    · simp only [exitOutcome, decision, exitRecord, binding, bindingSeq]
    · simp only [exitOutcome, decision, exitRecord, binding, bindingSeq]
    · simp only [exitOutcome, undecided]
  · rw [arriveOff_of_set here set role, markSuspect_eq]
    rfl

end Sys2Proof.Machine
end

section
/-! The envelope check, and an ENVREAD at the reader (O32). -/

namespace Sys2Proof.Machine

/-! ### A report that is awaited no more (R95, R98) -/

/-- The record once its awaited report has come, or has been judged missing. -/
def answered (r : PocketRec) : PocketRec := { r with awaited := none }

@[simp] theorem answered_content (r : PocketRec) : (answered r).content = r.content := rfl

theorem modPocket_answered {p : Nat} {r : PocketRec} {s : State} (here : s.track.recs[p]? = some r) :
    modPocket p (fun r => { r with awaited := none }) s = putPocket p (answered r) s :=
  modPocket_of_record here answered

/-! ### The envelope check (R123) -/

theorem envelopeJudge_of_no_match {x : SetRec} (noMatch : ∀ f, x.acct = some f → f.matchReq = false) (key : Option Nat) :
    envelopeJudge x key = (.notRequired, none) := by
  cases acct : x.acct with
  | none => simp only [envelopeJudge, acct]
  | some f => simp only [envelopeJudge, acct, noMatch f acct, Bool.false_eq_true, if_false]

section Match

variable {x : SetRec} {f : AcctFields}

theorem envelopeJudge_of_no_read (acct : x.acct = some f) (required : f.matchReq = true) :
    envelopeJudge x none = (.noread, some .envNoRead) := by
  simp only [envelopeJudge, acct, required, if_true]

theorem envelopeJudge_of_own_key {k : Nat} (acct : x.acct = some f) (required : f.matchReq = true) (own : f.envKey = some k) :
    envelopeJudge x (some k) = (.matched, none) := by
  simp only [envelopeJudge, acct, required, own, if_true]

theorem envelopeJudge_of_other_key {k : Nat} (acct : x.acct = some f) (required : f.matchReq = true) (other : f.envKey ≠ some k) :
    envelopeJudge x (some k) = (.mismatch, some .envMismatch) := by
  simp only [envelopeJudge, acct, required, other, if_true, if_false]

end Match

section Check

variable {p : Nat} {r q : PocketRec} {x : SetRec} {key : Option Nat} {part : ReadPart} {s : State}

theorem envelopeCheck_of_unmarked (here : s.track.recs[p]? = some r) (set : q.content = some x)
    (judged : envelopeJudge x key = (part, none)) :
    envelopeCheck p key (putPocket p q s) = putPocket p { q with readPart := part } s := by
  simp only [envelopeCheck, pocketAt, record_putPocket here, Option.bind_some, set, judged, modPocket_putPocket here]

theorem envelopeCheck_of_marked {why : Reason} (here : s.track.recs[p]? = some r) (set : q.content = some x)
    (judged : envelopeJudge x key = (part, some why)) :
    envelopeCheck p key (putPocket p q s) = putPocket p (markedAt p why s { q with readPart := part }) s := by
  simp only [envelopeCheck, pocketAt, record_putPocket here, Option.bind_some, set, judged, modPocket_putPocket here,
    markPocket_putPocket here]

end Check

/-! ### The ENVREAD (R92, R97) -/

theorem recordAt_of_positions {n : NodeEntry} {s : State} (positions : s.track.positions = true) :
    recordAt n s = s.track.recs[n.position]? := if_pos positions

theorem recordAt_of_no_positions {n : NodeEntry} {s : State} (none : s.track.positions = false) : recordAt n s = Option.none :=
  if_neg (by simp [none])

theorem exec_envread {src : Byte} {n : NodeEntry} {r : Role} {s : State} (h : Reports 0x12 src n r s) (pocket noRead : Byte)
    (key : BitVec 32) : exec (.envread src pocket key noRead) s = .next (trackEnvread n pocket.toNat (envKeyRead key noRead) s) :=
  report_of_reports h _

section Envread

variable {n : NodeEntry} {q : PocketRec} {pocket : Nat} {key : Option Nat} {s : State}

theorem trackEnvread_of_empty (here : recordAt n s = some q) (same : q.pocket = some pocket) (empty : q.content = none) :
    trackEnvread n pocket key s = s := by
  simp only [trackEnvread, here, same, empty, Option.isNone_none, and_self, if_true]

/-- An ENVREAD that the set pocket at E-1 awaits goes to the envelope check, and is awaited no more (R97). -/
theorem trackEnvread_of_awaited {x : SetRec} {a : Awaited} (positions : s.track.positions = true)
    (here : s.track.recs[n.position]? = some q) (same : q.pocket = some pocket) (set : q.content = some x)
    (awaited : q.awaited = some a) (reader : a.role = .envReader) :
    trackEnvread n pocket key s = envelopeCheck n.position key (putPocket n.position (answered q) s) := by
  simp only [trackEnvread, recordAt_of_positions positions, here, same, set, awaited, reader, modPocket_answered here,
    Option.isNone_some, Bool.false_eq_true, and_false, if_false, Option.any_some, BEq.rfl, and_self, if_true]

/-- An ENVREAD for another pocket, or for a set pocket that does not await the reader, is stale (R97). -/
theorem trackEnvread_of_stale (here : recordAt n s = some q)
    (stale : q.pocket ≠ some pocket ∨ q.content.isSome = true ∧ ∀ a, q.awaited = some a → a.role ≠ .envReader) :
    trackEnvread n pocket key s = bumpRun 27 s := by
  have notEmpty : ¬(q.pocket = some pocket ∧ q.content.isNone = true) := by
    rintro ⟨same, empty⟩
    rcases stale with other | ⟨set, -⟩
    · exact other same
    · simp [Option.isNone_iff_eq_none.1 empty] at set
  have notAwaited : ¬(q.pocket = some pocket ∧ (q.awaited.any fun a => a.role == .envReader) = true) := by
    rintro ⟨same, awaits⟩
    obtain ⟨a, awaited, reader⟩ := (Option.any_eq_true _ _).1 awaits
    rcases stale with other | ⟨-, noReader⟩
    · exact other same
    · exact noReader a awaited (beq_iff_eq.1 reader)
  simp only [trackEnvread, here, if_neg notEmpty, if_neg notAwaited]

end Envread

/-- Settles O32: an ENVREAD the pocket awaits by what the envelope check judges, any other by the record at E-1. -/
theorem envreadsAreMatchedAtTheReader : Obligations.EnvreadsAreMatchedAtTheReader := by
  intro src pocket noRead key n r q s reports here
  rw [exec_envread reports]
  refine ⟨fun none => ?_, fun positions => ?_⟩
  · rw [trackEnvread, recordAt_of_no_positions none]
  have record : recordAt n s = some q := (recordAt_of_positions positions).trans here
  refine ⟨fun x a set awaited reader same => ?_, fun same empty => ?_, fun stale => ?_⟩
  · intro put
    rw [trackEnvread_of_awaited positions here same set awaited reader]
    have waiting : (answered q).content = some x := set
    have read : noRead = 0 → envKeyRead key noRead = some key.toNat := fun good => if_pos good
    refine ⟨fun noMatch => ?_, fun f acct required => ⟨fun good own => ?_, fun good other below => ?_, fun bad below => ?_⟩⟩
    · rw [envelopeCheck_of_unmarked here waiting (envelopeJudge_of_no_match noMatch _), waiting]
      rfl
    · rw [read good, envelopeCheck_of_unmarked here waiting (envelopeJudge_of_own_key acct required own), waiting]
      rfl
    · rw [read good, envelopeCheck_of_marked here waiting (envelopeJudge_of_other_key acct required other),
        markedAt_of_set (r := { answered q with readPart := .mismatch }) below waiting]
      rfl
    · rw [envKeyRead, if_neg bad, envelopeCheck_of_marked here waiting (envelopeJudge_of_no_read acct required),
        markedAt_of_set (r := { answered q with readPart := .noread }) below waiting]
      rfl
  · rw [trackEnvread_of_empty record same empty]
  · rw [trackEnvread_of_stale record stale]

end Sys2Proof.Machine
end

section
/-! Timing errors at the stations and the feeders, and the close of a pitch (O57). -/

namespace Sys2Proof.Machine

/-! ### Timing counts (R99, R100) -/

@[simp] theorem stationCount_putCount_zero (role : Role) (s : State) : stationCount role (putCount role 0 s).track = 0 := by
  cases role <;> rfl

@[simp] theorem stationCount_suspectTrack (role : Role) (s : State) :
    stationCount role (suspectTrack s).track = stationCount role s.track := by
  cases role <;> rfl

@[simp] theorem stationCount_putPocket (role : Role) (p : Nat) (q : PocketRec) (s : State) :
    stationCount role (putPocket p q s).track = stationCount role s.track := by
  cases role <;> rfl

theorem putCount_records (role : Role) (n : Nat) (s : State) :
    (putCount role n s).track.recs = s.track.recs ∧ (putCount role n s).track.positions = s.track.positions := by
  cases role <;> exact ⟨rfl, rfl⟩

/-- The suspect marking of the track rests on its records, its positions and the tables: the timing counts do not enter it (R104). -/
theorem suspectTrack_putCount (role : Role) (n : Nat) (s : State) :
    (suspectTrack (putCount role n s)).track.recs = (suspectTrack s).track.recs := by
  obtain ⟨recs, positions⟩ := putCount_records role n s
  have gate : ∀ p, belowGate p (putCount role n s) = belowGate p s := belowGate_of (by simp) positions
  simp only [suspectTrack, recs, gate]

/-- STATION TIMING raised marks the sets below D suspect where it takes the line to RECOVERY, and leaves the track otherwise (R104,
R155). -/
theorem raise_stationTiming_track (a b : Nat) (s : State) : (raise .stationTiming a b s).track =
    if driveState s.line.state = true then (suspectTrack s).track else s.track := by
  have entered : (enterRecovery 7 (takeRaising .stationTiming a b s)).track = (suspectTrack s).track := by
    rw [show (enterRecovery 7 (takeRaising .stationTiming a b s)).track =
      (suspectAll (setLine .recovery 7 (takeRaising .stationTiming a b s))).track from rfl]
    exact (suspectAll_of (by simp) (by simp) (by simp)).2
  have lowered : ∀ u : State, (lower .stationTiming u).track = u.track := fun u => by simp
  rw [raise_stationTiming, apply_ite fun t : State => t.track, lowered, ite_self, respondRecovery, takeRaising_state,
    apply_ite fun t : State => t.track, entered]
  simp only [takeRaising_frame]

/-- What the raising of STATION TIMING for a station's timing leaves of a state s, in t (R99, R100, R145, R155). -/
structure TimingRaised (role : Role) (s t : State) : Prop where
  count : stationCount role t.track = 0
  recs : t.track.recs = if driveState s.line.state = true then (suspectTrack s).track.recs else s.track.recs
  latched : latch .stationTiming t = { (latch .stationTiming s).raised 1 (addrOf role s) with state := .latched }
  state : t.line.state = if driveState s.line.state = true then .recovery else s.line.state

theorem raise_timing (role : Role) {s : State} (drive : DriveFollowsLine s) :
    TimingRaised role s (raise .stationTiming 1 (addrOf role s) (putCount role 0 s)) := by
  have line : (putCount role 0 s).line = s.line := by simp
  refine ⟨?_, ?_, ?_, ?_⟩
  · rw [raise_stationTiming_track]
    split <;> simp
  · rw [raise_stationTiming_track, line, apply_ite TrackUnit.recs, suspectTrack_putCount, (putCount_records role 0 s).1]
  · have drive' : DriveFollowsLine (putCount role 0 s) := by simpa [DriveFollowsLine] using drive
    rw [latch_raise_stationTiming _ _ drive', latch_of _ (congrArg (·.latches) line)]
  · rw [raise_stationTiming_state, line]

theorem timingError_of_few {role : Role} {s : State} (few : stationCount role s.track < 2) :
    timingError role s = putCount role (stationCount role s.track + 1) s :=
  if_neg (by omega)

/-- The third timing error in a row raises STATION TIMING (R99). -/
theorem timingError_of_third {role : Role} {s : State} (third : stationCount role s.track = 2) (drive : DriveFollowsLine s) :
    TimingRaised role s (timingError role s) := by
  have raises : timingError role s = raise .stationTiming 1 (addrOf role s) (putCount role 0 s) := if_pos (by omega)
  exact raises ▸ raise_timing role drive

/-! ### A feeder that becomes FAULTED by its counts (R118, R119) -/

section Feeder

variable {k : Nat} {counted : FeederRec} {b : Bool} {s : State}

theorem feederRec_putFeeder_self (low : 1 ≤ k) (high : k ≤ 12) : feederRec k (putFeeder k counted s) = counted :=
  vget_vset_self _ _ (by omega)

theorem feederRec_putFeeder_of_ne {j : Nat} (low : 1 ≤ k) (other : 1 ≤ j) (ne : j ≠ k) :
    feederRec j (putFeeder k counted s) = feederRec j s :=
  vget_vset_of_ne _ _ (by omega)

/-- What the fault of feeder k, with the counts `counted`, leaves of a state s, in t (R110, R115). -/
structure FeederFaults (k : Nat) (counted : FeederRec) (s t : State) : Prop where
  track : t.track = s.track
  self : feederRec k t = { counted with state := .faulted }
  others : ∀ j, 1 ≤ j → j ≠ k → feederRec j t = feederRec j s
  latched : latch .feederFault t = (latch .feederFault s).raised 2 k
  stage : t.stage = s.stage
  presort : t.presort = s.presort
  tables : t.tables = s.tables
  outcomes : t.outcomes = s.outcomes

/-- The counts reach a limit at a READY or EMPTY feeder: it becomes FAULTED (R118, R119). -/
theorem faultIf_faults (low : 1 ≤ k) (high : k ≤ 12) (trips : b = true ∧ (counted.state = .ready ∨ counted.state = .empty)) :
    FeederFaults k counted s (faultIf b k (putFeeder k counted s)) := by
  have self : feederRec k (putFeeder k counted s) = counted := feederRec_putFeeder_self low high
  have faults : faultIf b k (putFeeder k counted s) = feederBecomes k .faulted (putFeeder k counted s) :=
    if_pos (by rw [self]; exact trips)
  rw [faults]
  constructor
  case self => rw [feederRec_feederBecomes _ _ _ _ low high low, if_pos rfl, self]
  case others =>
    intro j other ne
    rw [feederRec_feederBecomes _ _ _ _ low high other, if_neg ne, feederRec_putFeeder_of_ne low other ne]
  case latched => exact latch_feederFault_feederBecomes _ _ low high
  all_goals simp

theorem faultIf_stays (low : 1 ≤ k) (high : k ≤ 12) (stays : ¬(b = true ∧ (counted.state = .ready ∨ counted.state = .empty))) :
    faultIf b k (putFeeder k counted s) = putFeeder k counted s :=
  if_neg (by rw [feederRec_putFeeder_self low high]; exact stays)

end Feeder

/-- A feeder's record after one more timing error, at most 3 (R114, R119). -/
def FeederRec.oneMoreTiming (f : FeederRec) : FeederRec := { f with timing := if f.timing < 3 then f.timing + 1 else f.timing }

theorem feederMissing_eq (k : Nat) (s : State) : feederMissing k s =
    faultIf ((feederRec k s).oneMoreTiming.timing == 3) k (putFeeder k (feederRec k s).oneMoreTiming s) := rfl

/-! ### The report still awaited at a position (R98) -/

theorem planResult_markedAt (k : Nat) (res : PlanResult) (p : Nat) (why : Reason) (s : State) (q : PocketRec) :
    planResult k res (markedAt p why s q) = markedAt p why s (planResult k res q) := by
  rw [markedAt, apply_ite (planResult k res)]
  rfl

theorem closeAt_of_none {p : Nat} {r : PocketRec} {s : State} (here : s.track.recs[p]? = some r) (none : r.awaited = none) :
    closeAt s p = s := by
  simp only [closeAt, pocketAt, here, Option.bind_some, none]

section Close

variable {p : Nat} {r : PocketRec} {a : Awaited} {s : State}

/-- The record at p, awaited no more and marked STATION TIMING below D (R98). -/
def missedAt (p : Nat) (r : PocketRec) (s : State) : State :=
  putPocket p (markedAt p .stationTiming s (answered r)) s

theorem closeAt_of_reader (here : s.track.recs[p]? = some r) (awaited : r.awaited = some a) (role : a.role = .envReader) :
    closeAt s p = envelopeCheck p none (putPocket p (answered r) s) := by
  simp only [closeAt, pocketAt, here, Option.bind_some, awaited, role, modPocket_answered here]

theorem closeAt_of_feeder (here : s.track.recs[p]? = some r) (awaited : r.awaited = some a) (role : a.role = .insertFeeder) :
    closeAt s p = feederMissing a.feeder
      (putPocket p (markedAt p .stationTiming s (planResult a.feeder .miss (answered r))) s) := by
  simp only [closeAt, pocketAt, here, Option.bind_some, awaited, role, modPocket_answered here, markPocket_putPocket here,
    modPocket_putPocket here, planResult_markedAt]

/-- At the envelope station and the caliper a missing report counts (R99). -/
theorem closeAt_of_counted (here : s.track.recs[p]? = some r) (awaited : r.awaited = some a)
    (role : a.role = .envStation ∨ a.role = .caliper) : closeAt s p = timingError a.role (missedAt p r s) := by
  rcases role with role | role <;>
    simp only [closeAt, pocketAt, here, Option.bind_some, awaited, role, modPocket_answered here, markPocket_putPocket here, missedAt]

/-- At the divert gate and the sorter a missing report raises STATION TIMING at once (R100). -/
theorem closeAt_of_confirmed (here : s.track.recs[p]? = some r) (awaited : r.awaited = some a)
    (role : a.role = .divertGate ∨ a.role = .sorter) : closeAt s p = missingConfirmation a.role (missedAt p r s) := by
  rcases role with role | role <;>
    simp only [closeAt, pocketAt, here, Option.bind_some, awaited, role, modPocket_answered here, markPocket_putPocket here, missedAt]

end Close

/-- Settles O57: a report still awaited by the role of its station; a raising and a feeder's fault by what each leaves. -/
theorem missingReportsAreJudgedAtTheClose : Obligations.MissingReportsAreJudgedAtTheClose := by
  refine ⟨fun s => rfl, fun p r s here => ⟨closeAt_of_none here, fun a awaited => ?_⟩⟩
  intro mark put missing raised
  have raises (timed : TimingRaised a.role (missedAt p r s) (closeAt s p)) : raised :=
    ⟨_, rfl, timed.count, timed.recs, timed.latched, timed.state⟩
  refine ⟨fun reader x set => ⟨?_, fun noMatch => ?_⟩, fun counted => ⟨fun few => ?_, fun third drive => ?_⟩,
    fun confirmed drive => ?_, fun feeder low high => ?_⟩
  · rintro ⟨f, acct, required⟩
    rw [closeAt_of_reader here awaited reader,
      envelopeCheck_of_marked here ((answered_content r).trans set) (envelopeJudge_of_no_read acct required)]
    rfl
  · rw [closeAt_of_reader here awaited reader,
      envelopeCheck_of_unmarked here ((answered_content r).trans set) (envelopeJudge_of_no_match noMatch _)]
    rfl
  · have same : stationCount a.role (missedAt p r s).track = stationCount a.role s.track := stationCount_putPocket ..
    rw [closeAt_of_counted here awaited counted, timingError_of_few (same ▸ few), same]
    rfl
  · have same : stationCount a.role (missedAt p r s).track = stationCount a.role s.track := stationCount_putPocket ..
    refine raises ?_
    rw [closeAt_of_counted here awaited counted]
    exact timingError_of_third (same.trans third) drive
  · refine raises ?_
    rw [closeAt_of_confirmed here awaited confirmed]
    exact raise_timing a.role (s := missedAt p r s) drive
  · intro f counted missed trips
    have missing : closeAt s p = faultIf (counted.timing == 3) a.feeder (putFeeder a.feeder counted missed) :=
      (closeAt_of_feeder here awaited feeder).trans (feederMissing_eq ..)
    rw [missing]
    refine ⟨fun stays => ?_, fun faults => ?_⟩
    · rw [faultIf_stays low high (by simpa only [beq_iff_eq] using stays)]
      rfl
    · have fault : FeederFaults a.feeder counted missed _ :=
        faultIf_faults (b := counted.timing == 3) low high (by simpa only [beq_iff_eq] using faults)
      exact ⟨_, rfl, fault.track, fault.self, fault.others, fault.latched, fault.stage, fault.presort, fault.tables, fault.outcomes⟩

end Sys2Proof.Machine
end

section
/-! A DONE that answers what its station's record awaits (O31). -/

namespace Sys2Proof.Machine

/-! ### A mark that is asked for or not (R103) -/

/-- What the record q at position p is after a mark that is asked for or not. -/
def markedIf (asked : Bool) (p : Nat) (why : Reason) (s : State) (q : PocketRec) : PocketRec :=
  if (asked && belowGate p s) = true then { q with content := q.content.map fun x => { x with marks := addMark why x.marks } } else q

theorem markedIf_true (p : Nat) (why : Reason) (s : State) (q : PocketRec) : markedIf true p why s q = markedAt p why s q := rfl

theorem markedIf_false (p : Nat) (why : Reason) (s : State) (q : PocketRec) : markedIf false p why s q = q := rfl

/-! ### The window (R96) -/

theorem insideWindow_some (o c phase : Nat) : insideWindow (some (o, c)) phase = decide (o ≤ phase ∧ phase ≤ c) :=
  (Bool.decide_and ..).symm

section Timed

variable {role : Role} {p : Nat} {r q : PocketRec} {s : State}

theorem stationTimed_of_inside : stationTimed role p true s = putCount role 0 s := if_pos rfl

theorem stationTimed_of_outside (here : s.track.recs[p]? = some r) : stationTimed role p false (putPocket p q s) =
    timingError role (putPocket p (markedAt p .stationTiming s q) s) := by
  rw [stationTimed, if_neg Bool.false_ne_true, markPocket_putPocket here]

theorem stationTimed_of_outside_few (here : s.track.recs[p]? = some r) (few : stationCount role s.track < 2) :
    stationTimed role p false (putPocket p q s) =
      putCount role (stationCount role s.track + 1) (putPocket p (markedAt p .stationTiming s q) s) := by
  have same := stationCount_putPocket role p (markedAt p .stationTiming s q) s
  rw [stationTimed_of_outside here, timingError_of_few (same ▸ few), same]

theorem stationTimed_of_outside_third (here : s.track.recs[p]? = some r) (third : stationCount role s.track = 2)
    (drive : DriveFollowsLine s) : TimingRaised role (putPocket p (markedAt p .stationTiming s q) s)
      (stationTimed role p false (putPocket p q s)) := by
  rw [stationTimed_of_outside here]
  exact timingError_of_third ((stationCount_putPocket ..).trans third) drive

end Timed

/-! ### The caliper check and the result of a FEED (R118, R126) -/

theorem withinTolerance_of_captured {x : SetRec} {cap : Captured} (captured : x.captured = some cap) (expected measured : Nat) :
    withinTolerance x expected measured =
      decide (expected - cap.tolerance ≤ measured ∧ measured ≤ expected + cap.tolerance) := by
  simp only [withinTolerance, captured, Option.map_some, Option.getD_some, Bool.decide_and]

theorem caliperCheck_putPocket {p measured e : Nat} {r q : PocketRec} {x : SetRec} {s : State} (here : s.track.recs[p]? = some r)
    (set : q.content = some x) (expected : q.expected = some e) : caliperCheck p measured (putPocket p q s) =
      putPocket p (markedIf (!withinTolerance x e measured) p .thickness s { q with caliper := some measured }) s := by
  simp only [caliperCheck, pocketAt, record_putPocket here, set, expected, Option.getD_some, modPocket_putPocket here,
    markPocket_putPocket here]
  cases withinTolerance x e measured with
  | true => rfl
  | false => rfl

theorem resultMark_feedResult {p : Nat} {r : PocketRec} {s : State} (here : s.track.recs[p]? = some r) (m : Nat) (q : PocketRec) :
    resultMark (feedResult m) p (putPocket p q s) = putPocket p (markedIf (!decide (m = 1)) p
      (if decide (m = 3) = true then .insertDouble else .insertMiss) s q) s := by
  by_cases fed : m = 1
  · simp only [feedResult, fed, if_true, resultMark, decide_true, Bool.not_true, markedIf_false]
  · by_cases double : m = 3
    · simp only [feedResult, double, Nat.reduceEqDiff, if_false, if_true, resultMark, decide_false, decide_true, Bool.not_false,
        markedIf_true, markPocket_putPocket here]
    · simp only [feedResult, fed, double, if_false, resultMark, decide_false, Bool.not_false, Bool.false_eq_true, markedIf_true,
        markPocket_putPocket here]

theorem feedResult_eq (m : Nat) : feedResult m =
    if decide (m = 1) = true then .fed else if decide (m = 3) = true then .double else .miss := by
  simp only [feedResult, decide_eq_true_eq]

theorem feedResult_eq_fed {m : Nat} : feedResult m = .fed ↔ m = 1 := by
  unfold feedResult
  split
  · simp [*]
  · split <;> simp [*]

/-- A feeder's record after the result m of a FEED, judged inside its window or outside (R118, R119). -/
def FeederRec.fedBack (m : Nat) (inside : Bool) (f : FeederRec) : FeederRec :=
  { f with
    misses := if decide (m = 1) = true then 0 else if f.misses < 7 then f.misses + 1 else f.misses
    timing := if inside = true then 0 else if f.timing < 3 then f.timing + 1 else f.timing }

theorem fedBack_eq (m : Nat) (inside : Bool) (f : FeederRec) : f.fedBack m inside =
    { f with
      misses := missesAfter (feedResult m) f.misses
      timing := timingAfter (if inside = true then .inside else .outside) f.timing } := by
  have misses : missesAfter (feedResult m) f.misses = (f.fedBack m inside).misses := by
    simp only [missesAfter, feedResult_eq_fed, FeederRec.fedBack, decide_eq_true_eq, satInc]
  have timing : timingAfter (if inside = true then .inside else .outside) f.timing = (f.fedBack m inside).timing := by
    cases inside <;> rfl
  rw [misses, timing]
  rfl

/-- The counts after a FEED's report reach the working miss limit, or the third timing error (R118, R119). -/
def feedTrips (m : Nat) (inside : Bool) (counted : FeederRec) (s : State) : Bool :=
  missTrips (feedResult m) counted.misses s || (!inside && counted.timing == 3)

theorem feedTrips_iff {m : Nat} {inside : Bool} {counted : FeederRec} {w : Working} {s : State} (work : s.tables.work = some w) :
    feedTrips m inside counted s = true ↔
      decide (m = 1) = false ∧ w.missLimit ≤ counted.misses ∨ inside = false ∧ counted.timing = 3 := by
  simp only [feedTrips, missTrips, work, Bool.or_eq_true, Bool.and_eq_true, bne_iff_ne, ne_eq, feedResult_eq_fed, decide_eq_true_eq,
    decide_eq_false_iff_not, Bool.not_eq_true', beq_iff_eq]

theorem feederReport_eq (k m : Nat) (inside : Bool) (s : State) :
    feederReport k (feedResult m) (if inside = true then .inside else .outside) s =
      faultIf (feedTrips m inside ((feederRec k s).fedBack m inside) s) k (putFeeder k ((feederRec k s).fedBack m inside) s) := by
  rw [fedBack_eq]
  cases inside <;> rfl

/-! ### The matched DONE (R95, R96) -/

theorem doneMatches_of_match {n : NodeEntry} {role : Role} {pocket subtype bin : Nat} {q : PocketRec} {a : Awaited}
    (awaited : q.awaited = some a) (station : a.role = role) (feeder : a.feeder = n.feeder) (sub : a.subtype = subtype)
    (same : q.pocket = some pocket) (binned : subtype = 10 → q.exitDecision.map decisionBin = some bin) :
    doneMatches n role pocket subtype bin q = some a := by
  simp only [doneMatches, awaited]
  exact if_pos ⟨station, feeder, same, sub, binned⟩

theorem trackDone_of_match {n : NodeEntry} {role : Role} {pocket subtype bin result thickness : Nat} {q : PocketRec} {a : Awaited}
    {s : State} (positions : s.track.positions = true) (here : s.track.recs[n.position]? = some q)
    (answers : doneMatches n role pocket subtype bin q = some a) :
    trackDone n role pocket subtype result thickness bin s = matchedDone n role a result thickness s := by
  simp only [trackDone, recordAt_of_positions positions, here, Option.bind_some, answers]

section Matched

variable {n : NodeEntry} {a : Awaited} {result thickness : Nat} {q : PocketRec} {s : State}

theorem matchedDone_envStation (here : s.track.recs[n.position]? = some q) : matchedDone n .envStation a result thickness s =
    stationTimed .envStation n.position (insideWindow a.window (phaseNow s))
      (putPocket n.position { answered q with stationPart := if a.subtype = 5 then .inserted else .held } s) := by
  simp only [matchedDone, modPocket_answered here, modPocket_putPocket here]

theorem matchedDone_divertGate (here : s.track.recs[n.position]? = some q) : matchedDone n .divertGate a result thickness s =
    stationTimed .divertGate n.position (insideWindow a.window (phaseNow s))
      (putPocket n.position { answered q with gateConfirmed := true } s) := by
  simp only [matchedDone, modPocket_answered here, modPocket_putPocket here]

theorem matchedDone_sorter (here : s.track.recs[n.position]? = some q) : matchedDone n .sorter a result thickness s =
    stationTimed .sorter n.position (insideWindow a.window (phaseNow s))
      (putPocket n.position { answered q with binConfirmed := true } s) := by
  simp only [matchedDone, modPocket_answered here, modPocket_putPocket here]

theorem matchedDone_caliper {x : SetRec} {e : Nat} (here : s.track.recs[n.position]? = some q) (set : q.content = some x)
    (expected : q.expected = some e) : matchedDone n .caliper a result thickness s =
    stationTimed .caliper n.position (insideWindow a.window (phaseNow s)) (putPocket n.position
      (markedIf (!withinTolerance x e thickness) n.position .thickness s { answered q with caliper := some thickness }) s) := by
  have check := caliperCheck_putPocket (q := answered q) (measured := thickness) here set expected
  simp only [matchedDone, modPocket_answered here, check]

/-- The record at a feeder after the result of its FEED, judged inside the window or outside: the plan's result, its mark, then the
timing's (R118, R119, log 16). -/
def fedRecord (n : NodeEntry) (result : Nat) (inside : Bool) (s : State) (q : PocketRec) : PocketRec :=
  markedIf (!inside) n.position .stationTiming s (markedIf (!decide (result = 1)) n.position
    (if decide (result = 3) = true then .insertDouble else .insertMiss) s (planResult n.feeder (feedResult result) (answered q)))

theorem matchedDone_insertFeeder (here : s.track.recs[n.position]? = some q) : matchedDone n .insertFeeder a result thickness s =
    feederReport n.feeder (feedResult result) (if insideWindow a.window (phaseNow s) = true then .inside else .outside)
      (putPocket n.position (fedRecord n result (insideWindow a.window (phaseNow s)) s q) s) := by
  simp only [matchedDone, modPocket_answered here, modPocket_putPocket here, resultMark_feedResult here, fedRecord,
    markPocket_putPocket here]
  cases insideWindow a.window (phaseNow s) <;> rfl

end Matched

/-- Settles O31: what the matched DONE hands on by its station, and its timing by what the count stands at. -/
theorem matchedDoneReportsAreTaken : Obligations.MatchedDoneReportsAreTaken := by
  intro src pocket subtype result bin thickness n r q a o c s reports positions here awaited role feeder sub same window binned
    did inside mark put seen station
  have within : insideWindow a.window (phaseNow s) = inside := by rw [window, insideWindow_some]
  have answers := doneMatches_of_match awaited role feeder sub same binned
  have handed (notSheet : r ≠ .sheetStation) : did = .next (matchedDone n r a result.toNat thickness.toNat s) := by
    have taken := trackDone_of_match (result := result.toNat) (thickness := thickness.toNat) positions here answers
    exact (exec_done reports).trans (by rw [doneReport, if_neg fun release => notSheet release.1, taken])
  have timed (q' : PocketRec) (eq : did = .next (stationTimed r n.position inside (putPocket n.position q' s))) : station q' := by
    have putEq : put q' = putPocket n.position (markedIf (!inside) n.position .stationTiming s q') s := rfl
    refine ⟨fun inTime => ?_, fun late few => ?_, fun late third drive => ?_⟩
    · rw [eq, putEq, inTime, stationTimed_of_inside, Bool.not_true, markedIf_false]
    · rw [eq, putEq, late, stationTimed_of_outside_few here few, Bool.not_false, markedIf_true]
    · rw [late, Bool.not_false, markedIf_true] at putEq
      have raised : TimingRaised r (put q') _ := putEq ▸ stationTimed_of_outside_third (q := q') here third drive
      exact ⟨_, late ▸ eq, raised.count, raised.recs, raised.latched, raised.state⟩
  refine ⟨?_, ?_, ?_, ?_, ?_⟩
  · rintro rfl
    refine timed _ ?_
    rw [handed (by decide), matchedDone_envStation here, within, sub]
    rfl
  · rintro rfl
    refine timed _ ?_
    rw [handed (by decide), matchedDone_divertGate here, within]
    rfl
  · rintro rfl
    refine timed _ ?_
    rw [handed (by decide), matchedDone_sorter here, within]
    rfl
  · rintro rfl x e cap set expected captured good
    refine timed _ ?_
    rw [handed (by decide), matchedDone_caliper here set expected, within, withinTolerance_of_captured captured]
    rfl
  · rintro rfl low high w work f fed double res q' misses timing trips counted
    have putEq : put q' = putPocket n.position (fedRecord n result.toNat inside s q) s := by
      rw [fedRecord, feedResult_eq]
      rfl
    have reported : did = .next (faultIf (feedTrips result.toNat inside counted (put q')) n.feeder
        (putFeeder n.feeder counted (put q'))) := by
      rw [handed (by decide), matchedDone_insertFeeder here, within, feederReport_eq, ← putEq]
      rfl
    have tripsIff :
        feedTrips result.toNat inside counted (put q') = true ∧ (counted.state = .ready ∨ counted.state = .empty) ↔ trips :=
      (and_congr_left' (feedTrips_iff (s := put q') work)).trans and_comm
    refine ⟨fun stays => ?_, fun faults => ?_⟩
    · rw [reported, faultIf_stays low high (tripsIff.not.2 stays)]
      rfl
    · have fault : FeederFaults n.feeder counted (put q') _ := faultIf_faults low high (tripsIff.2 faults)
      exact ⟨_, reported, fault.track, fault.self, fault.others, fault.latched, fault.stage, fault.presort, fault.tables,
        fault.outcomes⟩

end Sys2Proof.Machine
end

section
/-! The arrivals of a pitch notice and the orders they bring (O56). -/

namespace Sys2Proof.Machine

/-! ### The stations in order (R93) -/

/-- The stations of an arrival are the nodes with a position that acts, of a table whose positions the Track Unit has (R92, R93). -/
theorem actingNodes_eq (s : State) : ((trackNodes s).filter fun n => positioned n.role) = if s.track.positions = true then
    (nodesOf s).filter fun n => decide (n.role ∈
      [some Role.insertFeeder, some .envReader, some .envStation, some .caliper, some .divertGate, some .sorter]) else [] := by
  have role : ∀ n : NodeEntry, positioned n.role = decide (n.role ∈
      [some Role.insertFeeder, some .envReader, some .envStation, some .caliper, some .divertGate, some .sorter]) :=
    fun n => Bool.eq_iff_iff.2 ((positioned_iff n.role).trans decide_eq_true_iff.symm)
  unfold trackNodes
  split
  · simp only [role]
  · rfl

theorem trackArrive_eq (on : Bool) (s : State) : trackArrive on s =
    (stationsInOrder s).foldl (fun t n => if on = true then arriveAt t n else arriveOff t n) s := by
  cases on <;> rfl

/-! ### The awaited field (R93) -/

/-- What a station's order awaits: its answer, inside its window; the envelope reader's has none (R93). -/
def awaiting (n : NodeEntry) (role : Role) (subtype : Nat) (r : PocketRec) : PocketRec :=
  { r with awaited := some (Awaited.mk role n.feeder subtype
      (if role = .envReader then none else some (n.windowOpen, n.windowClose))) }

section Arrive

variable {n : NodeEntry} {r : PocketRec} {x : SetRec} {s : State}

theorem await_of_record (here : s.track.recs[n.position]? = some r) (role : Role) (subtype : Nat) :
    await n.position n role subtype s = putPocket n.position (awaiting n role subtype r) s :=
  modPocket_of_record here (awaiting n role subtype)

theorem await_putPocket (here : s.track.recs[n.position]? = some r) (role : Role) (subtype : Nat) (q : PocketRec) :
    await n.position n role subtype (putPocket n.position q s) = putPocket n.position (awaiting n role subtype q) s :=
  modPocket_putPocket here (awaiting n role subtype) q

/-! ### The arrival at each station (R94, R106, R117, R124, R125) -/

/-- A feeder's arrival: FEED is awaited, SKIP is not (R117). -/
theorem arriveAt_feeder (here : s.track.recs[n.position]? = some r) (set : r.content = some x) (role : n.role = some .insertFeeder) :
    (∀ q, feedDecision n.feeder x r s = (q, true) →
      arriveAt s n = issueOrder n [3, pocketByte r] (putPocket n.position (awaiting n .insertFeeder 3 q) s)) ∧
    (∀ q, feedDecision n.feeder x r s = (q, false) →
      arriveAt s n = issueOrder n [4, pocketByte r] (putPocket n.position q s)) := by
  constructor <;> intro q decision
  · simp only [arriveAt, pocketAt, here, role, set, arriveFeeder, decision, if_true, modPocket_of_record here, await_putPocket here]
  · simp only [arriveAt, pocketAt, here, role, set, arriveFeeder, decision, Bool.false_eq_true, if_false, modPocket_of_record here]

theorem arriveAt_reader (here : s.track.recs[n.position]? = some r) (set : r.content = some x) (role : n.role = some .envReader) :
    arriveAt s n = putPocket n.position (awaiting n .envReader 0 r) s := by
  simp only [arriveAt, pocketAt, here, role, set, await_of_record here]

theorem arriveAt_envStation (here : s.track.recs[n.position]? = some r) (set : r.content = some x)
    (role : n.role = some .envStation) : arriveAt s n =
      issueOrder n [BitVec.ofNat 8 (if clean x = true then 5 else 6), pocketByte r]
        (putPocket n.position (awaiting n .envStation (if clean x = true then 5 else 6) r) s) := by
  simp only [arriveAt, pocketAt, here, role, set, arriveEnvelope, await_of_record here]

theorem arriveAt_caliper (here : s.track.recs[n.position]? = some r) (set : r.content = some x) (role : n.role = some .caliper) :
    (r.stationPart = .inserted → arriveAt s n = issueOrder n [7, pocketByte r]
      (putPocket n.position (awaiting n .caliper 7 { r with expected := some (expectedThickness x r s) }) s)) ∧
    (r.stationPart ≠ .inserted → arriveAt s n = issueOrder n [4, pocketByte r] s) := by
  constructor <;> intro part
  · simp only [arriveAt, pocketAt, here, role, set, arriveCaliper, part, if_true, modPocket_of_record here, await_putPocket here]
  · simp only [arriveAt, pocketAt, here, role, set, arriveCaliper, part, if_false]

/-- The divert gate's arrival, of an EMPTY pocket too, by its decision (R94). -/
theorem arriveAt_gate (here : s.track.recs[n.position]? = some r) (role : n.role = some .divertGate) :
    (gateDecision r = .pass → arriveAt s n = issueOrder n [9, pocketByte r]
      (putPocket n.position (awaiting n .divertGate 9 { r with gateOrder := .pass }) s)) ∧
    (gateDecision r = .divert → arriveAt s n = issueOrder n [8, pocketByte r]
      (putPocket n.position (awaiting n .divertGate 8 { r with gateOrder := .divert }) s)) ∧
    (gateDecision r = .none → arriveAt s n = putPocket n.position { r with gateOrder := .none } s) := by
  refine ⟨fun decision => ?_, fun decision => ?_, fun decision => ?_⟩ <;>
    simp only [arriveAt, pocketAt, here, role, arriveGate, decision, modPocket_of_record here, await_putPocket here]

/-- The sorter's arrival: the exit decision is the presort's and leaves the track, then BIN is awaited (R106). -/
theorem arriveAt_sorter {decision : ExitDecision} {decided : State} (here : s.track.recs[n.position]? = some r)
    (set : r.content = some x) (role : n.role = some .sorter)
    (made : exitDecision ((x.acct.map (·.group)).getD 0) (bindingSeq x.binding) s = (decided, decision)) :
    arriveAt s n = issueOrder n
      ([10, pocketByte r] ++ beBytes 1 (decisionBin decision) ++ beBytes 3 (bindingSeq x.binding))
      (putPocket n.position (awaiting n .sorter 10 { r with exitDecision := some decision }) decided) := by
  have track : decided.track = s.track := by
    have same := exitDecision_track ((x.acct.map (·.group)).getD 0) (bindingSeq x.binding) s
    rwa [made] at same
  have stands : decided.track.recs[n.position]? = some r := by rw [track, here]
  simp only [arriveAt, pocketAt, here, role, set, arriveSorter, made, modPocket_of_record stands, await_putPocket stands]

theorem arriveAt_of_empty (here : s.track.recs[n.position]? = some r) (empty : r.content = none)
    (other : n.role ≠ some .divertGate) : arriveAt s n = s := by
  simp only [arriveAt, pocketAt, here, empty]
  split
  case h_5 gate => exact absurd gate other
  case h_7 => rfl
  all_goals contradiction

/-! ### The decisions at a feeder and at the gate (R94, R117) -/

theorem feedDecision_of_clean (isClean : clean x = true) (k : Nat) :
    ((r.plan.any fun e => e.feeder == k) = true → (feederRec k s).state = .ready → feedDecision k x r s = (r, true)) ∧
    ((r.plan.any fun e => e.feeder == k) = true → (feederRec k s).state ≠ .ready → feedDecision k x r s =
      ({ planResult k .unavailable r with content := some { x with marks := addMark .insertUnavailable x.marks } }, false)) ∧
    ((r.plan.any fun e => e.feeder == k) = false → feedDecision k x r s = (r, false)) := by
  refine ⟨fun named ready => ?_, fun named notReady => ?_, fun unnamed => ?_⟩
  · simp only [feedDecision, isClean, named, ready, Bool.not_true, Bool.false_eq_true, if_false, if_true]
  · simp only [feedDecision, isClean, named, notReady, Bool.not_true, Bool.false_eq_true, if_false, if_true]
  · simp only [feedDecision, isClean, unnamed, Bool.not_true, Bool.false_eq_true, if_false]

theorem feedDecision_of_marked (marked : clean x = false) (k : Nat) : feedDecision k x r s = (planResult k .unavailable r, false) := by
  simp only [feedDecision, marked, Bool.not_false, if_true]

theorem gateDecision_of_set (set : r.content = some x) : gateDecision r = if clean x = true then .pass else .divert := by
  simp only [gateDecision, set]

theorem gateDecision_of_empty (empty : r.content = none) : gateDecision r = if r.pocket.isSome = true then .pass else .none := by
  simp only [gateDecision, empty]

theorem expectedThickness_of_captured {cap : Captured} (captured : x.captured = some cap) : expectedThickness x r s =
    min 65535 (cap.envCaliper + (x.sheets.length + x.extraSheets) * cap.sheetCaliper +
      ((r.plan.filter fun e => e.result == .fed).map fun e => (feederJob e.feeder s).caliper).sum) := by
  simp only [expectedThickness, captured, sheetCount]

end Arrive

/-- Settles O56: the stations by their sorting, then one arrival by the role of its station. -/
theorem arrivalsOrderTheStations : Obligations.ArrivalsOrderTheStations := by
  refine ⟨fun on s => ⟨stationsInOrder s, ?_, (sortBy_spec _ _).2, trackArrive_eq on s⟩, fun n r s here => ?_⟩
  · rw [← actingNodes_eq]
    exact (sortBy_spec _ _).1
  intro put pocket awaits
  refine ⟨fun x set => ?_, fun gate => ⟨fun passes => ?_, fun x set marked => ?_, fun empty unnumbered => ?_⟩,
    fun other empty => arriveAt_of_empty here empty other⟩
  · intro named unavailable
    refine ⟨fun role => ?_, fun role => arriveAt_reader here set role, fun role => ⟨fun isClean => ?_, fun marked => ?_⟩,
      fun role => ⟨fun cap inserted captured => ?_, fun notInserted => (arriveAt_caliper here set role).2 notInserted⟩,
      fun role => ?_⟩
    · obtain ⟨feeds, skips⟩ := arriveAt_feeder here set role
      refine ⟨fun isClean isNamed ready => ?_, fun isClean isNamed notReady => ?_, fun isClean unnamed => ?_, fun marked => ?_⟩
      · exact feeds _ ((feedDecision_of_clean isClean n.feeder).1 isNamed ready)
      · exact skips _ ((feedDecision_of_clean isClean n.feeder).2.1 isNamed notReady)
      · rw [skips r ((feedDecision_of_clean isClean n.feeder).2.2 unnamed), putPocket_self here]
        rfl
      · exact skips _ (feedDecision_of_marked marked n.feeder)
    · rw [arriveAt_envStation here set role, isClean]
      rfl
    · rw [arriveAt_envStation here set role, marked]
      rfl
    · intro fed sheets
      rw [(arriveAt_caliper here set role).1 inserted, expectedThickness_of_captured captured]
      rfl
    · intro seq made bin
      have track : made.1.track = s.track := exitDecision_track ..
      have seqEq : bindingSeq x.binding = seq := rfl
      have binEq : decisionBin made.2 = bin := rfl
      rw [arriveAt_sorter (decided := made.1) (decision := made.2) here set role rfl, seqEq, binEq, beBytes_one, putPocket, track]
      rfl
  · refine (arriveAt_gate here gate).1 ?_
    rcases passes with ⟨x, set, isClean⟩ | ⟨empty, numbered⟩
    · rw [gateDecision_of_set set, if_pos isClean]
    · rw [gateDecision_of_empty empty, if_pos numbered]
  · refine (arriveAt_gate here gate).2.1 ?_
    rw [gateDecision_of_set set, if_neg (by simp [marked])]
  · refine (arriveAt_gate here gate).2.2 ?_
    rw [gateDecision_of_empty empty, if_neg (by simp [unnumbered])]

end Sys2Proof.Machine
end

section
/-! A feeder's reports move its record, and the essential pairs follow (O34). -/

namespace Sys2Proof.Machine

/-! ### The standings (R121) -/

/-- The standing of a pair by the states of its members (R121). -/
theorem standingOf_eq (n : Nat) (s : State) : standingOf n s =
    if pairMembers n s = [] then .none
    else if ∃ k ∈ pairMembers n s, (feederRec k s).state = .ready then .covered
    else if ∀ k ∈ pairMembers n s, (feederRec k s).state = .empty then .allEmpty
    else .lost := by
  simp only [standingOf, available, List.isEmpty_iff, List.any_eq_true, List.all_eq_true, beq_iff_eq]

theorem feederRec_congr {s t : State} (recs : t.feeders.recs = s.feeders.recs) (k : Nat) : feederRec k t = feederRec k s := by
  rw [feederRec, recs, feederRec]

/-- A standing depends on the feeders' records and the working values only (R121). -/
theorem standingOf_congr {s t : State} (recs : t.feeders.recs = s.feeders.recs) (tables : t.tables = s.tables) (n : Nat) :
    standingOf n t = standingOf n s := by
  have members : pairMembers n t = pairMembers n s := by simp only [pairMembers, tables, feederJob_of_tables tables]
  simp only [standingOf_eq, members, feederRec_congr recs]

/-- Each pair holds the standing that R121 gives it. -/
def PairsJudged (s : State) : Prop := ∀ n, 1 ≤ n → n ≤ 6 → vget s.feeders.pairs (n - 1) = standingOf n s

theorem PairsJudged.congr {s t : State} (h : PairsJudged s) (feeders : t.feeders = s.feeders) (tables : t.tables = s.tables) :
    PairsJudged t := fun n low high => by
  rw [standingOf_congr (congrArg _ feeders) tables, feeders]
  exact h n low high

theorem evalPairs_recs (s : State) : (evalPairs s).feeders.recs = s.feeders.recs := by rw [evalPairs_feeders]

theorem evalPairs_judged (s : State) : PairsJudged (evalPairs s) := fun n low high => by
  rw [evalPairs_pair (by omega), standingOf_congr (evalPairs_recs s) (by simp), Nat.sub_add_cancel low]

/-! ### A feeder takes a state (R110, R115) -/

/-- A state t in which, of the feeders of s, only k has changed, with every pair judged: nothing else of the line's sets, tables,
bins and records is touched (R110, R121). -/
structure OnlyFeeder (k : Nat) (s t : State) : Prop where
  judged : PairsJudged t
  others : ∀ j, 1 ≤ j → j ≠ k → feederRec j t = feederRec j s
  tables : t.tables = s.tables
  stage : t.stage = s.stage
  track : t.track = s.track
  presort : t.presort = s.presort
  outcomes : t.outcomes = s.outcomes

theorem feederBecomes_onlyFeeder {k : Nat} (low : 1 ≤ k) (high : k ≤ 12) (st : FeederState) (s : State) :
    OnlyFeeder k s (feederBecomes k st s) where
  judged := evalPairs_judged _
  others j other ne := by rw [feederRec_feederBecomes _ _ _ _ low high other, if_neg ne]
  tables := by simp
  stage := by simp
  track := by simp
  presort := by simp
  outcomes := by simp

theorem feederRec_feederBecomes_self {k : Nat} (low : 1 ≤ k) (high : k ≤ 12) (st : FeederState) (s : State) :
    feederRec k (feederBecomes k st s) = { feederRec k s with state := st } := by
  rw [feederRec_feederBecomes _ _ _ _ low high low, if_pos rfl]

/-- The judgement of WAIT at the end of the event leaves the feeders and all that they leave (R158). -/
theorem OnlyFeeder.endWait {k : Nat} {s t : State} (h : OnlyFeeder k s t) (before : State) : OnlyFeeder k s (endWait before t) where
  judged := h.judged.congr (by simp) (by simp)
  others j other ne := by simpa [feederRec] using h.others j other ne
  tables := by simpa using h.tables
  stage := by simpa using h.stage
  track := by simpa using h.track
  presort := by simpa using h.presort
  outcomes := by simpa using h.outcomes

/-! ### A feeder's STATUS (R111, R156) -/

/-- The rows of R111's table that move a feeder: the state reported, the feeder's state, and the state it takes. -/
def feederRows : List (StationState × FeederState × FeederState) :=
  [(.ready, .empty, .ready), (.empty, .ready, .empty), (.fault, .ready, .faulted), (.fault, .empty, .faulted),
    (.fault, .disabled, .faulted), (.fault, .lost, .faulted)]

theorem feederStatus_of_row {k : Nat} {st : StationState} {new : FeederState} {s : State}
    (row : (st, (feederRec k s).state, new) ∈ feederRows) : feederStatus k st s = feederBecomes k new s := by
  unfold feederStatus
  revert row
  cases st <;> cases (feederRec k s).state <;> simp +contextual [feederRows]

theorem feederStatus_of_no_row {k : Nat} {st : StationState} {s : State}
    (none : ∀ new, (st, (feederRec k s).state, new) ∉ feederRows) : feederStatus k st s = s := by
  unfold feederStatus
  revert none
  cases st <;> cases (feederRec k s).state <;> simp [feederRows]

/-- The Line Controller takes no part in a feeder's STATUS, but for a JAM and for a READY that leaves the jammed set (R156). -/
theorem lineStatus_of_feeder {src : Nat} {st : StationState} {s : State} (noJam : st ≠ .jam) (free : src ∉ s.line.jammed) :
    lineStatus src .insertFeeder st s = s := by
  cases st
  case ready => exact if_neg free
  case empty => rfl
  case fault => rfl
  case jam => exact absurd rfl noJam

/-- A feeder's STATUS, but for a JAM and for one of a jammed node: it is recorded and moves the feeder (R19, R111). -/
theorem exec_status_of_feeder {src : Byte} {st : StationState} {n : NodeEntry} {i : Nat} {s : State}
    (reports : Reports 0x13 src n .insertFeeder s) (found : ((nodesOf s).findIdx? fun e => e.addr == src.toNat) = some i)
    (noJam : st ≠ .jam) (free : src.toNat ∉ s.line.jammed) (detail : Byte) :
    exec (.status src st detail) s = .next (endWait s (feederStatus n.feeder st (statusNoted i st detail s))) := by
  rw [exec_status reports found, lineStatus_of_feeder (s := statusNoted i st detail s) noJam free]
  rfl

/-! ### ESSENTIAL LOST (R122) -/

/-- The state whose pairs have been evaluated, before ESSENTIAL LOST is raised or lowered (R121). -/
def pairsEvaluated (s : State) : State :=
  { s with feeders := { s.feeders with pairs := Vector.ofFn fun i => standingOf (i.val + 1) s } }

/-- Pair n becomes LOST by this evaluation (R122). -/
def BecomesLost (n : Nat) (s : State) : Prop := standingOf n s = .lost ∧ vget s.feeders.pairs (n - 1) ≠ .lost

theorem evalPairs_of_becomesLost {n : Nat} {s : State} (low : 1 ≤ n) (high : n ≤ 6) (becomes : BecomesLost n s)
    (lowest : ∀ j, 1 ≤ j → j < n → ¬ BecomesLost j s) :
    evalPairs s = raise .essentialLost 2 (lostMember n s) (pairsEvaluated s) := by
  have found : ((List.range 6).find? fun i => vget (Vector.ofFn fun i : Fin 6 => standingOf (i.val + 1) s) i == .lost &&
      vget s.feeders.pairs i != .lost) = some (n - 1) := by
    rw [List.find?_range_eq_some]
    refine ⟨?_, List.mem_range.2 (by omega), fun j lower => ?_⟩
    · simpa [vget, show n - 1 < 6 by omega, Nat.sub_add_cancel low, BecomesLost] using becomes
    · have := lowest (j + 1) (by omega) (by omega)
      simpa [vget, show j < 6 by omega, BecomesLost, imp_iff_not_or] using this
  simp only [evalPairs, found, Nat.sub_add_cancel low]
  rfl

theorem any_pairsEvaluated (s : State) : ((pairsEvaluated s).feeders.pairs.toList.any (· == .lost)) =
    [1, 2, 3, 4, 5, 6].any fun n => decide (standingOf n s = .lost) := by
  rw [pairsEvaluated, Vector.toList_ofFn]
  simp [List.ofFn_succ, beq_eq_decide]

theorem evalPairs_of_none_becomesLost {s : State} (none : ∀ n, 1 ≤ n → n ≤ 6 → ¬ BecomesLost n s) : evalPairs s =
    if [1, 2, 3, 4, 5, 6].any fun n => decide (standingOf n s = .lost) then pairsEvaluated s
    else lower .essentialLost (pairsEvaluated s) := by
  have found : ((List.range 6).find? fun i => vget (Vector.ofFn fun i : Fin 6 => standingOf (i.val + 1) s) i == .lost &&
      vget s.feeders.pairs i != .lost) = Option.none := by
    refine List.find?_eq_none.2 fun i mem => ?_
    have place : i < 6 := List.mem_range.1 mem
    simpa [vget, place, BecomesLost] using none (i + 1) (by omega) (by omega)
  rw [← any_pairsEvaluated]
  simp only [evalPairs, found]
  rfl

theorem pairMembers_sorted (n : Nat) (s : State) : (pairMembers n s).Pairwise (· < ·) := by
  simp only [pairMembers]
  split
  · exact List.Pairwise.filter _ (by decide)
  · exact List.Pairwise.nil

/-- The source of ESSENTIAL LOST: the lowest member that is neither READY nor EMPTY (R122). -/
theorem lostMember_eq {n m : Nat} {s : State} (mem : m ∈ pairMembers n s) (notReady : (feederRec m s).state ≠ .ready)
    (notEmpty : (feederRec m s).state ≠ .empty)
    (lowest : ∀ j ∈ pairMembers n s, j < m → (feederRec j s).state = .ready ∨ (feederRec j s).state = .empty) :
    lostMember n s = m := by
  obtain ⟨before, after, split⟩ := List.append_of_mem mem
  have sorted := pairMembers_sorted n s
  rw [split, List.pairwise_append] at sorted
  have found : ((pairMembers n s).find? fun k => (feederRec k s).state != .ready && (feederRec k s).state != .empty) = some m := by
    rw [List.find?_eq_some_iff_append]
    refine ⟨by simp [notReady, notEmpty], before, after, split, fun j here => ?_⟩
    have stands := lowest j (by simp [split, here]) (sorted.2.2 j here m (by simp))
    rcases stands with stands | stands <;> simp [stands]
  rw [lostMember, found, Option.getD_some]

/-- ESSENTIAL LOST sends PRIMING and RUNNING, and RECOVERY with drain-pending no, to LOCKOUT (R155, R160). -/
theorem raise_essentialLost_state (a b : Nat) (s : State) : (raise .essentialLost a b s).line.state =
    if s.line.state = .priming ∨ s.line.state = .running ∨ s.line.state = .recovery ∧ s.line.drainPending = false then .lockout
    else s.line.state := by
  have drain : (takeRaising .essentialLost a b s).line.drainPending = s.line.drainPending := by simp [takeRaising]
  simp only [raise, raiseFor, respond, respondEssential, takeRaising_state, drain, reduceCtorEq, false_and, if_false]
  cases state : s.line.state
  case recovery => cases s.line.drainPending <;> simp [state]
  all_goals simp [state]

/-- Settles O34: a feeder moves by `feederBecomes`, whose evaluation of the pairs is `evalPairs`. -/
theorem feedersFollowTheirReports : Obligations.FeedersFollowTheirReports := by
  unfold Obligations.FeedersFollowTheirReports
  intro members standing judged others
  have members_eq : members = pairMembers := rfl
  have standing_eq : standing = standingOf := funext fun n => funext fun t => (standingOf_eq n t).symm
  clear_value members standing
  subst members_eq standing_eq
  have only {k : Nat} {s t : State} (h : OnlyFeeder k s t) : judged t ∧ others k s t :=
    ⟨h.judged, h.others, h.tables, h.stage, h.track, h.presort, h.outcomes⟩
  refine ⟨fun src detail st n i s reports found low high noJam free => ?_, fun k s low high => ⟨fun present => ?_, fun lost => ?_,
    fun seen => if_neg seen⟩, fun s => ⟨evalPairs_judged s, ?_, ?_, fun n low high lost was lowest => ?_, fun none => ?_⟩⟩
  · intro noted f rows
    have run := exec_status_of_feeder reports found noJam free detail
    rw [show statusNoted i st detail s = noted from rfl] at run
    refine ⟨fun new row => ?_, fun none => ?_⟩
    · rw [feederStatus_of_row (k := n.feeder) (s := noted) row] at run
      obtain ⟨judges, leaves⟩ := only ((feederBecomes_onlyFeeder low high new noted).endWait s)
      refine ⟨_, run, by simp, ?_, judges, leaves, fun fault => ?_⟩
      · exact (feederRec_congr (by simp) _).trans (feederRec_feederBecomes_self low high new noted)
      · rw [latch_endWait, fault]
        exact latch_feederFault_feederBecomes _ noted low high
    · rw [run, feederStatus_of_no_row (k := n.feeder) (s := noted) none]
      exact congrArg _ (endWait_none _ _ (.inr rfl))
  · have moves : feederNodeLost k s = feederBecomes k .lost s := if_neg present
    intro t
    rw [show t = _ from moves]
    exact ⟨feederRec_feederBecomes_self low high _ s, only (feederBecomes_onlyFeeder low high _ s)⟩
  · have moves : feederNodeSeen k s = feederBecomes k .faulted s := if_pos lost
    intro t
    rw [show t = _ from moves]
    obtain ⟨judges, leaves⟩ := only (feederBecomes_onlyFeeder low high .faulted s)
    exact ⟨feederRec_feederBecomes_self low high _ s, judges, leaves, latch_feederFault_feederBecomes k s low high⟩
  · exact evalPairs_recs s
  · exact ⟨fun j _ _ => feederRec_congr (evalPairs_recs s) j, by simp, by simp, by simp, by simp, by simp⟩
  · have raises := evalPairs_of_becomesLost low high ⟨lost, was⟩ fun j first before becomes =>
      becomes.2 (lowest j first before becomes.1)
    refine ⟨fun m mem notReady notEmpty lowestMember => ?_, ?_⟩
    · rw [raises, latch_raise _ _ _ (by simp) (by simp), if_pos rfl, lostMember_eq mem notReady notEmpty lowestMember]
      rfl
    · rw [raises, raise_essentialLost_state]
      rfl
  · exact evalPairs_of_none_becomesLost fun n low high becomes => becomes.2 (none n low high becomes.1)

end Sys2Proof.Machine
end

section
/-! FEEDER ENABLE, FEEDER DISABLE, RESTART GROUP and CLOSE GROUP (O47). -/

namespace Sys2Proof.Machine

/-! ### FEEDER ENABLE and FEEDER DISABLE (R113) -/

theorem feederOk_iff (k : Nat) : feederOk k = true ↔ 1 ≤ k ∧ k ≤ 12 := by
  simp [feederOk]

theorem lastReady_iff (k : Nat) (s : State) : lastReady k s = true ↔ ∃ d, lastStatusOf .insertFeeder k s = some (.ready, d) := by
  simp [lastReady, Option.any_eq_true, Prod.exists]

section Feeders

variable {c : Cell} {s : State}

theorem feederEnableHandler_of_bad (bad : ¬(1 ≤ payByte c 4 ∧ payByte c 4 ≤ 12)) : feederEnableHandler c s = (s, one .arg []) := by
  simp only [feederEnableHandler, Bool.eq_false_iff.2 (mt (feederOk_iff _).1 bad), Bool.not_false, if_true]

theorem feederDisableHandler_of_bad (bad : ¬(1 ≤ payByte c 4 ∧ payByte c 4 ≤ 12)) :
    feederDisableHandler c s = (s, one .arg []) := by
  simp only [feederDisableHandler, Bool.eq_false_iff.2 (mt (feederOk_iff _).1 bad), Bool.not_false, if_true]

/-- FEEDER ENABLE of a feeder in range is judged by its state (R113). -/
theorem feederEnableHandler_of_ready (low : 1 ≤ payByte c 4) (high : payByte c 4 ≤ 12)
    (ready : (feederRec (payByte c 4) s).state = .ready) :
    feederEnableHandler c s = (s, one .accepted (feederData (payByte c 4) s)) := by
  simp [feederEnableHandler, (feederOk_iff (payByte c 4)).2 ⟨low, high⟩, ready]

theorem feederEnableHandler_of_refused (low : 1 ≤ payByte c 4) (high : payByte c 4 ≤ 12)
    (refused : (feederRec (payByte c 4) s).state = .none ∨ (feederRec (payByte c 4) s).state = .empty ∨
      (feederRec (payByte c 4) s).state = .lost) :
    feederEnableHandler c s = (s, one .state (feederData (payByte c 4) s)) := by
  rcases refused with state | state | state <;>
    simp [feederEnableHandler, (feederOk_iff (payByte c 4)).2 ⟨low, high⟩, state]

/-- A FAULTED or DISABLED feeder is enabled when its node last reported READY (R113). -/
theorem feederEnableHandler_of_able (low : 1 ≤ payByte c 4) (high : payByte c 4 ≤ 12)
    (able : (feederRec (payByte c 4) s).state = .faulted ∨ (feederRec (payByte c 4) s).state = .disabled) :
    feederEnableHandler c s = if lastReady (payByte c 4) s then (enableFeeder (payByte c 4) s, one .accepted (feederData (payByte c 4) s))
      else (s, one .state (feederData (payByte c 4) s)) := by
  rcases able with state | state <;> simp [feederEnableHandler, (feederOk_iff (payByte c 4)).2 ⟨low, high⟩, state]

theorem feederDisableHandler_of_ok (low : 1 ≤ payByte c 4) (high : payByte c 4 ≤ 12) : feederDisableHandler c s =
    if (feederRec (payByte c 4) s).state = .none then (s, one .state (feederData (payByte c 4) s))
    else (feederBecomes (payByte c 4) .disabled s, one .accepted (feederData (payByte c 4) s)) := by
  simp only [feederDisableHandler, (feederOk_iff (payByte c 4)).2 ⟨low, high⟩, Bool.not_true, Bool.false_eq_true, if_false]

end Feeders

/-- An enabled feeder is READY with its counts at 0 (R113, R114). -/
theorem feederRec_enableFeeder {k : Nat} (low : 1 ≤ k) (high : k ≤ 12) (s : State) :
    feederRec k (enableFeeder k s) = { state := .ready, misses := 0, timing := 0 } := by
  rw [enableFeeder, feederRec_feederBecomes_self low high, feederRec_putFeeder_self low high]

theorem enableFeeder_onlyFeeder {k : Nat} (low : 1 ≤ k) (high : k ≤ 12) (s : State) : OnlyFeeder k s (enableFeeder k s) := by
  obtain ⟨judged, others, tables, stage, track, presort, outcomes⟩ :=
    feederBecomes_onlyFeeder low high .ready (putFeeder k { feederRec k s with misses := 0, timing := 0 } s)
  exact ⟨judged, fun j other ne => (others j other ne).trans (feederRec_putFeeder_of_ne low other ne), tables, stage, track,
    presort, outcomes⟩

/-! ### RESTART GROUP (R135, R143) -/

theorem stopExhausted_iff (s : State) : stopExhausted s = true ↔
    ∃ g, g < 64 ∧ (groupRec g s).action = .stop ∧ (groupRec g s).state = .exhausted := by
  simp only [stopExhausted, List.any_eq_true, Vector.mem_toList_iff, Vector.mem_iff_getElem, Bool.and_eq_true, beq_iff_eq]
  constructor
  · rintro ⟨r, ⟨g, place, rfl⟩, stop, exhausted⟩
    refine ⟨g, place, ?_⟩
    simpa [groupRec, vget, place] using ⟨stop, exhausted⟩
  · rintro ⟨g, place, stop, exhausted⟩
    refine ⟨_, ⟨g, place, rfl⟩, ?_⟩
    simpa [groupRec, vget, place] using And.intro stop exhausted

/-- A group's record after RESTART GROUP (R143). -/
def GroupRec.restarted (r : GroupRec) : GroupRec := { r with index := 0, state := .active }

/-- After the restart of group g, a STOP group is EXHAUSTED when another one was (R135). -/
theorem stopExhausted_restarted (g : Nat) (s : State) : stopExhausted (modGroup g GroupRec.restarted s) = true ↔
    ∃ h, h < 64 ∧ h ≠ g ∧ (groupRec h s).action = .stop ∧ (groupRec h s).state = .exhausted := by
  have record (h : Nat) (inside : h < 64) : groupRec h (modGroup g GroupRec.restarted s) =
      if g = h then (groupRec g s).restarted else groupRec h s := vget_vmod _ _ _ _ inside
  rw [stopExhausted_iff]
  refine exists_congr fun h => and_congr_right fun inside => ?_
  rw [record h inside]
  by_cases same : g = h
  · simp [same, GroupRec.restarted]
  · simp [same, Ne.symm same]

theorem restartGroupHandler_of_bad {c : Cell} (bad : 63 < payByte c 4) (s : State) :
    restartGroupHandler c s = (s, one .arg []) := by
  simp [restartGroupHandler, bad]

theorem restartGroupHandler_of_ok {c : Cell} (ok : payByte c 4 ≤ 63) (s : State) : restartGroupHandler c s =
    (restartGroup (payByte c 4) s, one .accepted (beBytes 1 (groupStateCode (groupRec (payByte c 4) s).state))) := by
  simp [restartGroupHandler, ok]

theorem restartGroup_of_no_bins {g : Nat} {s : State} (none : (groupRec g s).rotation = []) : restartGroup g s = s := by
  simp [restartGroup, none]

theorem restartGroup_of_bins {g : Nat} {s : State} (some : (groupRec g s).rotation ≠ []) : restartGroup g s =
    if (groupRec g s).action = .stop ∧ (groupRec g s).state = .exhausted then evalExhausted (modGroup g GroupRec.restarted s)
    else modGroup g GroupRec.restarted s := if_neg (by simpa using some)

/-! ### CLOSE GROUP (R131, R142) -/

theorem writeRecord_recs (r : Record) (s : State) : (writeRecord r s).outcomes.recs = s.outcomes.recs ++ [r] := by
  have bumps (l : List Nat) (t : State) : (l.foldl (fun s n => bumpRun n s) t).outcomes.recs = t.outcomes.recs := by
    induction l generalizing t with
    | nil => rfl
    | cons n l ih => exact ih _
  simp only [writeRecord]
  split <;> simp [bumps]

/-- The TRAY record of bin b as it stands (R131). -/
def trayRecord (cause : TrayCause) (b : Nat) (s : State) : Record :=
  .tray ((ownerOf b s).getD 0) cause b (binRec b s).tray (binRec b s).count (binRec b s).firstSeq (binRec b s).lastSeq

/-- What the closing of the trays in the bins of a list leaves of a state s, in t: their TRAY records, in order, and the bins FULL
with count 0 (R131). -/
structure TraysClosed (cause : TrayCause) (closed : List Nat) (s t : State) : Prop where
  recs : t.outcomes.recs = s.outcomes.recs ++ closed.map (trayRecord cause · s)
  bins : ∀ b, 1 ≤ b → b ≤ 16 → binRec b t = if b ∈ closed then { binRec b s with state := .full, count := 0 } else binRec b s
  groups : t.presort.groups = s.presort.groups
  overflow : t.presort.overflow = s.presort.overflow
  pins : t.pins = s.pins
  pitch : t.pitch = s.pitch
  tables : t.tables = s.tables
  acct : t.acct = s.acct
  stage : t.stage = s.stage
  track : t.track = s.track
  feeders : t.feeders = s.feeders
  line : t.line = s.line

theorem TraysClosed.refl (cause : TrayCause) (s : State) : TraysClosed cause [] s s where
  recs := by simp
  bins b _ _ := by simp
  groups := rfl
  overflow := rfl
  pins := rfl
  pitch := rfl
  tables := rfl
  acct := rfl
  stage := rfl
  track := rfl
  feeders := rfl
  line := rfl

theorem closeTray_presort (b : Nat) (cause : TrayCause) (s : State) : (closeTray b cause .full s).presort =
    { s.presort with bins := vset s.presort.bins (b - 1) { binRec b s with state := .full, count := 0 } } := by
  simp [closeTray]

theorem closeTray_traysClosed {b : Nat} (low : 1 ≤ b) (cause : TrayCause) (s : State) :
    TraysClosed cause [b] s (closeTray b cause .full s) where
  recs := writeRecord_recs _ _
  bins a first last := by
    simp only [binRec, closeTray_presort, vget_vset _ _ _ _ (show a - 1 < 16 by omega), List.mem_singleton]
    by_cases same : a = b
    · simp [same]
    · rw [if_neg same, if_neg (by omega)]
  groups := by rw [closeTray_presort]
  overflow := by rw [closeTray_presort]
  pins := by simp
  pitch := by simp
  tables := by simp
  acct := by simp
  stage := by simp
  track := by simp
  feeders := by simp
  line := by simp

theorem ownerOf_congr {s t : State} (groups : t.presort.groups = s.presort.groups) (b : Nat) : ownerOf b t = ownerOf b s := by
  simp only [ownerOf, groupRec, groups]

/-- One tray closed, then those of other bins (R131). -/
theorem TraysClosed.cons {cause : TrayCause} {b : Nat} {l : List Nat} {s t u : State} (first : TraysClosed cause [b] s t)
    (rest : TraysClosed cause l t u) (new : b ∉ l) (inside : ∀ a ∈ l, 1 ≤ a ∧ a ≤ 16) : TraysClosed cause (b :: l) s u where
  recs := by
    have same : l.map (trayRecord cause · t) = l.map (trayRecord cause · s) := List.map_congr_left fun a mem => by
      have other : a ∉ [b] := fun here => new (List.mem_singleton.1 here ▸ mem)
      rw [trayRecord, ownerOf_congr first.groups, first.bins a (inside a mem).1 (inside a mem).2, if_neg other, trayRecord]
    rw [rest.recs, first.recs, same, List.append_assoc]
    rfl
  bins a low high := by
    rw [rest.bins a low high, first.bins a low high]
    by_cases same : a = b
    · simp [same, new]
    · simp [same]
  groups := rest.groups.trans first.groups
  overflow := rest.overflow.trans first.overflow
  pins := rest.pins.trans first.pins
  pitch := rest.pitch.trans first.pitch
  tables := rest.tables.trans first.tables
  acct := rest.acct.trans first.acct
  stage := rest.stage.trans first.stage
  track := rest.track.trans first.track
  feeders := rest.feeders.trans first.feeders
  line := rest.line.trans first.line

/-- The bins of a list that are OPEN and picked (R142). -/
def openPicked (pick : Nat → State → Bool) (l : List Nat) (s : State) : List Nat :=
  l.filter fun b => (binRec b s).state == .opened && pick b s

/-- Closing in a list of bins closes the tray of each OPEN one that is picked, and counts them, where the pick depends on the groups
only (R142). -/
theorem closeBins_traysClosed (cause : TrayCause) {pick : Nat → State → Bool}
    (byGroups : ∀ b s t, t.presort.groups = s.presort.groups → pick b t = pick b s) (l : List Nat) (s : State) (once : l.Nodup)
    (inside : ∀ b ∈ l, 1 ≤ b ∧ b ≤ 16) :
    TraysClosed cause (openPicked pick l s) s (closeBins cause pick l s).1 ∧
      (closeBins cause pick l s).2 = (openPicked pick l s).length := by
  induction l generalizing s with
  | nil => exact ⟨TraysClosed.refl cause s, rfl⟩
  | cons b l ih =>
    obtain ⟨new, once⟩ := List.nodup_cons.1 once
    obtain ⟨⟨low, high⟩, inside⟩ := List.forall_mem_cons.1 inside
    by_cases here : (binRec b s).state = .opened ∧ pick b s = true
    · have first := closeTray_traysClosed low cause s
      obtain ⟨rest, count⟩ := ih (closeTray b cause .full s) once inside
      have same : openPicked pick l (closeTray b cause .full s) = openPicked pick l s := List.filter_congr fun a mem => by
        have other : a ∉ [b] := fun here => new (List.mem_singleton.1 here ▸ mem)
        rw [first.bins a (inside a mem).1 (inside a mem).2, if_neg other, byGroups a _ _ first.groups]
      rw [same] at rest count
      have picked : openPicked pick (b :: l) s = b :: openPicked pick l s := List.filter_cons_of_pos (by simpa using here)
      have closes : closeBins cause pick (b :: l) s = ((closeBins cause pick l (closeTray b cause .full s)).1,
          (closeBins cause pick l (closeTray b cause .full s)).2 + 1) := if_pos here
      rw [closes, picked, count]
      exact ⟨first.cons rest (fun mem => new (List.mem_of_mem_filter mem)) (fun a mem => inside a (List.mem_of_mem_filter mem)), rfl⟩
    · have picked : openPicked pick (b :: l) s = openPicked pick l s := List.filter_cons_of_neg (by simpa using here)
      have passes : closeBins cause pick (b :: l) s = closeBins cause pick l s := if_neg here
      rw [passes, picked]
      exact ih s once inside

theorem namedBin_eq (g b : Nat) (s : State) : namedBin g b s =
    if g = 255 then (ownerOf b s).isSome else ownerOf b s == some g := by
  unfold namedBin
  cases ownerOf b s
  · simp
  · by_cases every : g = 255 <;> simp [every]

theorem namedBin_congr (g b : Nat) (s t : State) (groups : t.presort.groups = s.presort.groups) :
    namedBin g b t = namedBin g b s := by
  rw [namedBin_eq, namedBin_eq, ownerOf_congr groups]

theorem allBins_inside : ∀ b ∈ allBins, 1 ≤ b ∧ b ≤ 16 := by decide

theorem closeGroupHandler_of_bad {c : Cell} (above : 63 < payByte c 4) (notAll : payByte c 4 ≠ 255) (s : State) :
    closeGroupHandler c s = (s, one .arg []) := by
  simp [closeGroupHandler, above, notAll]

theorem closeGroupHandler_of_ok {c : Cell} (ok : payByte c 4 ≤ 63 ∨ payByte c 4 = 255) (s : State) : closeGroupHandler c s =
    ((closeBins .closed (namedBin (payByte c 4)) allBins s).1,
      one .accepted (beBytes 1 (closeBins .closed (namedBin (payByte c 4)) allBins s).2)) := by
  exact if_neg (by simpa using fun above => ok.resolve_left (Nat.not_le.2 above))

/-- Settles O47: each request by the cases of its handler; the trays closed by induction over the bins. -/
theorem requestsOfFeedersAndGroups : Obligations.RequestsOfFeedersAndGroups := by
  unfold Obligations.RequestsOfFeedersAndGroups
  refine ⟨fun c s => ?_, fun c s takes => ?_, fun c s takes => ?_⟩
  · intro k state before leaves
    have byte : BitVec.ofNat 8 (feederCode state) = before := by
      clear_value state
      cases state <;> rfl
    have data : feederData k (handed c s) = [before] := (beBytes_one _).trans (congrArg (fun b => [b]) byte)
    have enables {u : State} {code : ResultCode} (takes : Takes 0x3E c s)
        (handler : feederEnableHandler c (handed c s) = (u, one code (feederData k (handed c s)))) :
        exec .feederEnable s = .next (replied c code [before] u) := run_request_of_handler takes (by rw [handler, data])
    have disables {u : State} {code : ResultCode} (takes : Takes 0x3F c s)
        (handler : feederDisableHandler c (handed c s) = (u, one code (feederData k (handed c s)))) :
        exec .feederDisable s = .next (replied c code [before] u) := run_request_of_handler takes (by rw [handler, data])
    have keeps {v : State} (only : OnlyFeeder k (handed c s) v) (pins : v.pins = s.pins) (queue : v.acct.queue = s.acct.queue) :
        leaves v := ⟨only.others, pins, only.tables, queue, only.stage, only.track, only.presort, only.outcomes⟩
    refine ⟨fun takes => ⟨fun bad => ?_, fun low high ready => ?_, fun low high refused => ?_, fun low high able unready => ?_,
      fun low high able d ready => ?_⟩, fun takes => ⟨fun bad => ?_, fun low high absent => ?_, fun low high present => ?_⟩⟩
    · exact run_request_of_handler takes (feederEnableHandler_of_bad bad)
    · exact enables takes (feederEnableHandler_of_ready low high ready)
    · exact enables takes (feederEnableHandler_of_refused low high refused)
    · have last : ¬ lastReady k (handed c s) = true := fun last =>
        ((lastReady_iff k (handed c s)).1 last).elim unready
      exact enables takes ((feederEnableHandler_of_able (s := handed c s) low high able).trans (if_neg last))
    · have last : lastReady k (handed c s) = true := (lastReady_iff k (handed c s)).2 ⟨d, ready⟩
      refine ⟨_, enables takes ((feederEnableHandler_of_able (s := handed c s) low high able).trans (if_pos last)),
        feederRec_enableFeeder low high _, keeps (enableFeeder_onlyFeeder low high _) ?_ ?_⟩
      · simp [enableFeeder, handed]
      · simp [enableFeeder, handed]
    · exact run_request_of_handler takes (feederDisableHandler_of_bad bad)
    · exact disables takes ((feederDisableHandler_of_ok low high).trans (if_pos absent))
    · refine ⟨_, disables takes ((feederDisableHandler_of_ok low high).trans (if_neg present)),
        feederRec_feederBecomes_self low high _ _, keeps (feederBecomes_onlyFeeder low high _ _) ?_ ?_⟩
      · simp [handed]
      · simp [handed]
  · intro g r before restarted others
    have byte : BitVec.ofNat 8 (groupStateCode r.state) = before := by
      cases state : r.state <;> simp only [before, state] <;> rfl
    have data : beBytes 1 (groupStateCode (groupRec g (handed c s)).state) = [before] :=
      (beBytes_one _).trans (congrArg (fun b => [b]) byte)
    have other : stopExhausted restarted = true ↔ others := stopExhausted_restarted g (handed c s)
    have runs {u : State} (ok : g ≤ 63) (restarts : restartGroup g (handed c s) = u) :
        exec .restartGroup s = .next (replied c .accepted [before] u) :=
      run_request_of_handler takes (by rw [restartGroupHandler_of_ok ok, restarts, data])
    refine ⟨fun bad => ?_, fun ok none => ?_, fun ok some active => ?_, fun ok some stop exhausted => ⟨fun more => ?_, fun last => ?_⟩,
      rfl, by simp⟩
    · exact run_request_of_handler takes (restartGroupHandler_of_bad bad _)
    · exact runs ok (restartGroup_of_no_bins (s := handed c s) none)
    · exact runs ok ((restartGroup_of_bins (s := handed c s) some).trans (if_neg active))
    · exact runs ok ((restartGroup_of_bins (s := handed c s) some).trans ((if_pos ⟨stop, exhausted⟩).trans (if_pos (other.2 more))))
    · exact runs ok ((restartGroup_of_bins (s := handed c s) some).trans ((if_pos ⟨stop, exhausted⟩).trans (if_neg (mt other.1 last))))
  · intro g closed
    refine ⟨fun above notAll => run_request_of_handler takes (closeGroupHandler_of_bad above notAll _), fun ok => ?_⟩
    have closes := closeBins_traysClosed .closed (namedBin_congr g) allBins (handed c s) (by decide) allBins_inside
    have named : openPicked (namedBin g) allBins (handed c s) = closed := List.filter_congr fun b _ => by rw [namedBin_eq]; rfl
    rw [named] at closes
    obtain ⟨trays, count⟩ := closes
    have answered : closeGroupHandler c (handed c s) = ((closeBins .closed (namedBin g) allBins (handed c s)).1,
        one .accepted [BitVec.ofNat 8 closed.length]) := by rw [closeGroupHandler_of_ok ok, count, beBytes_one]
    exact ⟨_, run_request_of_handler takes answered, trays.recs, trays.bins, trays.groups, trays.overflow, trays.pins, trays.pitch,
      trays.tables, trays.acct, trays.stage, trays.track, trays.feeders, trays.line⟩

end Sys2Proof.Machine
end

section
/-! BIN EMPTIED, BIN OFFLINE and BIN ONLINE (O35). -/

namespace Sys2Proof.Machine

/-! ### A group that waits for a bin (R140) -/

/-- Bin b's group, if it has one, is no EXHAUSTED LOOP group: it waits for no bin (R140). -/
def WaitsForNone (b : Nat) (s : State) : Prop :=
  ∀ g, ownerOf b s = some g → ¬((groupRec g s).mode = .loop ∧ (groupRec g s).state = .exhausted)

theorem WaitsForNone.congr {b : Nat} {s t : State} (h : WaitsForNone b s) (groups : t.presort.groups = s.presort.groups) :
    WaitsForNone b t := by
  simpa only [WaitsForNone, ownerOf_congr groups, groupRec, groups] using h

theorem reactivate_of_waitsForNone {b : Nat} {s : State} (h : WaitsForNone b s) : reactivate b s = s := by
  unfold reactivate
  split
  · rename_i g owner
    exact if_neg (h g owner)
  · rfl

/-- A group's record after its return to ACTIVE at bin b's place (R140). -/
def GroupRec.returned (b : Nat) (r : GroupRec) : GroupRec := { r with state := .active, index := r.rotation.idxOf b }

theorem reactivate_of_exhaustedLoop {b g : Nat} {s : State} (owner : ownerOf b s = some g) (loop : (groupRec g s).mode = .loop)
    (exhausted : (groupRec g s).state = .exhausted) :
    reactivate b s = evalExhausted (modGroup g (GroupRec.returned b) s) := by
  simp only [reactivate, owner]
  exact if_pos ⟨loop, exhausted⟩

theorem evalExhausted_state (s : State) : (evalExhausted s).line.state = s.line.state := by
  unfold evalExhausted
  split
  · rfl
  · exact lower_state s _

/-! ### What a report makes of the bin (R137, R138) -/

/-- Bin b becomes READY or OFFLINE: it has no piece and no tray (R130, R137, R138). -/
def trayless (b : Nat) (st : BinState) (s : State) : State :=
  putBin b { state := st, count := 0, tray := 0, firstSeq := 0, lastSeq := 0 } s

/-- A tray closed in a bin that does not become FULL: its record is written, and the bin has no tray (R131, R137, R138). -/
theorem closeTray_of_not_full {after : BinState} (h : after ≠ .full) (b : Nat) (cause : TrayCause) (s : State) :
    closeTray b cause after s = writeRecord (trayRecord cause b s) (trayless b after s) := by
  simp only [closeTray, if_neg h]
  rfl

section ByState

variable {b : Nat} {s : State}

theorem binEmptied_of_unused (h : (binRec b s).state = .ready ∨ (binRec b s).state = .offline) : binEmptied b s = s := by
  rcases h with state | state <;> simp only [binEmptied, state]

theorem binEmptied_of_full (state : (binRec b s).state = .full) : binEmptied b s = reactivate b (trayless b .ready s) := by
  simp only [binEmptied, state]
  rfl

theorem binEmptied_of_opened (state : (binRec b s).state = .opened) :
    binEmptied b s = reactivate b (writeRecord (trayRecord .forced b s) (trayless b .ready s)) := by
  simp only [binEmptied, state, closeTray_of_not_full (after := .ready) (by decide)]

theorem binOffline_of_no_tray (h : (binRec b s).state = .ready ∨ (binRec b s).state = .full) :
    binOffline b s = trayless b .offline s := by
  rcases h with state | state <;> simp only [binOffline, state] <;> rfl

theorem binOffline_of_opened (state : (binRec b s).state = .opened) :
    binOffline b s = writeRecord (trayRecord .forced b s) (trayless b .offline s) := by
  simp only [binOffline, state, closeTray_of_not_full (after := .offline) (by decide)]

theorem binOffline_of_offline (state : (binRec b s).state = .offline) : binOffline b s = s := by
  simp only [binOffline, state]

theorem binOnline_of_offline (state : (binRec b s).state = .offline) :
    binOnline b s = reactivate b (trayless b .ready s) := by
  simp only [binOnline, state]
  rfl

theorem binOnline_of_online (h : (binRec b s).state ≠ .offline) : binOnline b s = s := by
  unfold binOnline
  split
  · contradiction
  · rfl
  · rfl
  · rfl

end ByState

/-! ### The commands (R19, R139) -/

/-- A report of a bin 1 to 16 acts on it; one of another bin is stale (R139). -/
theorem run_binReport {src bin : Byte} {n : NodeEntry} {r : Role} {s : State} (reports : Reports 0x14 src n r s)
    (f : Nat → State → State) : run true (report 0x14 src fun _ _ s => binReport f bin s) s =
      .next (if 1 ≤ bin.toNat ∧ bin.toNat ≤ 16 then f bin.toNat s else bumpRun 31 s) := report_of_reports reports _

section ByCommand

variable {src bin : Byte} {n : NodeEntry} {r : Role} {s : State}

theorem exec_binEmptied (reports : Reports 0x14 src n r s) : exec (.binEmptied src bin) s =
    .next (if 1 ≤ bin.toNat ∧ bin.toNat ≤ 16 then binEmptied bin.toNat s else bumpRun 31 s) := run_binReport reports _

theorem exec_binOffline (reports : Reports 0x14 src n r s) : exec (.binOffline src bin) s =
    .next (if 1 ≤ bin.toNat ∧ bin.toNat ≤ 16 then binOffline bin.toNat s else bumpRun 31 s) := run_binReport reports _

theorem exec_binOnline (reports : Reports 0x14 src n r s) : exec (.binOnline src bin) s =
    .next (if 1 ≤ bin.toNat ∧ bin.toNat ≤ 16 then binOnline bin.toNat s else bumpRun 31 s) := run_binReport reports _

theorem exec_unknownBinReport (reports : Reports 0x14 src n r s) {code : Byte} (unknown : ¬(1 ≤ code.toNat ∧ code.toNat ≤ 3)) :
    exec (.unknownBinReport src code bin) s = .next (bumpRun 31 s) := by
  have formed : Instr.wf (.unknownBinReport src code bin) = true := by
    simp only [Instr.wf, Bool.not_eq_true', Bool.and_eq_false_iff, decide_eq_false_iff_not]
    exact not_and_or.1 unknown
  show run (Instr.wf (.unknownBinReport src code bin)) _ s = _
  rw [formed]
  exact report_of_reports reports _

end ByCommand

/-- Settles O35: the command by its report and its bin, then by the bin's state. -/
theorem binReportsMoveTheBin : Obligations.BinReportsMoveTheBin := by
  refine ⟨fun src bin n r s reports low high group => ?_, fun src bin n r s reports =>
    ⟨fun outside => ?_, fun code unknown => exec_unknownBinReport reports unknown, fun g low high owner loop exhausted full => ?_⟩⟩
  · intro b become tray
    have inside : 1 ≤ bin.toNat ∧ bin.toNat ≤ 16 := ⟨low, high⟩
    have group : WaitsForNone bin.toNat s := group
    have stays : reactivate bin.toNat (become .ready) = become .ready := reactivate_of_waitsForNone (group.congr rfl)
    have closes : reactivate bin.toNat (writeRecord tray (become .ready)) = writeRecord tray (become .ready) :=
      reactivate_of_waitsForNone (group.congr (by simp [become]))
    rw [exec_binEmptied reports, exec_binOffline reports, exec_binOnline reports, if_pos inside, if_pos inside, if_pos inside]
    refine ⟨fun state => ⟨?_, ?_, ?_⟩, fun state => ⟨?_, ?_, ?_⟩, fun state => ⟨?_, ?_, ?_⟩, fun state => ⟨?_, ?_, ?_⟩⟩
    · rw [binEmptied_of_unused (.inl state)]
    · rw [binOffline_of_no_tray (.inl state)]
      rfl
    · rw [binOnline_of_online (by rw [state]; decide)]
    · rw [binEmptied_of_opened state]
      exact congrArg _ closes
    · rw [binOffline_of_opened state]
      rfl
    · rw [binOnline_of_online (by rw [state]; decide)]
    · rw [binEmptied_of_full state]
      exact congrArg _ stays
    · rw [binOffline_of_no_tray (.inr state)]
      rfl
    · rw [binOnline_of_online (by rw [state]; decide)]
    · rw [binEmptied_of_unused (.inr state)]
    · rw [binOffline_of_offline state]
    · rw [binOnline_of_offline state]
      exact congrArg _ stays
  · rw [exec_binEmptied reports, exec_binOffline reports, exec_binOnline reports, if_neg outside, if_neg outside, if_neg outside]
    exact ⟨rfl, rfl, rfl⟩
  · have inside : 1 ≤ bin.toNat ∧ bin.toNat ≤ 16 := ⟨low, high⟩
    have g64 : g < 64 := List.mem_range.1 (List.mem_of_find?_eq_some owner)
    have emptied : binEmptied bin.toNat s = evalExhausted (modGroup g (GroupRec.returned bin.toNat) (trayless bin.toNat .ready s)) := by
      rw [binEmptied_of_full full]
      exact reactivate_of_exhaustedLoop owner loop exhausted
    refine ⟨_, by rw [exec_binEmptied reports, if_pos inside, emptied], ?_, ?_, fun h other => ?_, ?_⟩
    · simp only [binRec, evalExhausted_frame, modGroup_presort, trayless, putBin_presort]
      exact vget_vset_self _ _ (by omega)
    · simp only [groupRec, evalExhausted_frame, modGroup_presort]
      exact vget_vset_self _ _ g64
    · simp only [groupRec, evalExhausted_frame, modGroup_presort]
      exact vget_vset_of_ne _ _ (Ne.symm other)
    · simp [evalExhausted_state, trayless]

end Sys2Proof.Machine
end

section
/-! The presort lookup and the insert plan of a set that enters the track (O55). -/

namespace Sys2Proof.Machine

/-! ### The lookup (R128) -/

/-- Digits read from the most significant are the base-10 digits in reverse (R128). -/
theorem digitsNum_eq (l : List Nat) : digitsNum l = Nat.ofDigits 10 l.reverse := by
  rw [digitsNum, Nat.ofDigits_eq_foldr, List.foldr_reverse]
  congr 1
  funext a d
  simp only [Nat.cast_id]
  ring

/-- The entry e of the scheme covers the code's first len digits (R128). -/
def Covers (postal : List Nat) (s : State) (len : Nat) (e : SchemeEntry) : Prop :=
  e ∈ schemeOf s ∧ e.digits = len ∧ len ≤ postal.length ∧ e.low ≤ Nat.ofDigits 10 (postal.take len).reverse ∧
    Nat.ofDigits 10 (postal.take len).reverse ≤ e.high

section Lookup

variable {postal : List Nat} {s : State}

/-- What the search at one digit length finds covers the digits. -/
theorem covers_of_schemeHit {len : Nat} {e : SchemeEntry} (h : schemeHit (schemeOf s) postal len = some e) :
    Covers postal s len e := by
  unfold schemeHit at h
  split at h
  · rename_i given
    have inside := List.find?_some h
    simp only [Bool.and_eq_true, beq_iff_eq, decide_eq_true_eq, digitsNum_eq] at inside
    obtain ⟨⟨digits, low⟩, high⟩ := inside
    exact ⟨List.mem_of_find?_eq_some h, digits, given, low, high⟩
  · contradiction

/-- The search at one digit length finds nothing when no entry covers the digits. -/
theorem schemeHit_eq_none {len : Nat} (h : ∀ e, ¬Covers postal s len e) : schemeHit (schemeOf s) postal len = none :=
  Option.eq_none_iff_forall_ne_some.2 fun e hit => h e (covers_of_schemeHit hit)

/-- The search at one digit length finds the one entry that covers the digits (R44, R128). -/
theorem schemeHit_eq_some {len : Nat} {e : SchemeEntry} (covers : Covers postal s len e)
    (only : ∀ e', Covers postal s len e' → e' = e) : schemeHit (schemeOf s) postal len = some e := by
  have found : (schemeHit (schemeOf s) postal len).isSome = true := by
    obtain ⟨mem, digits, given, low, high⟩ := covers
    rw [schemeHit, if_pos given, List.find?_isSome]
    exact ⟨e, mem, by simp [digits, digitsNum_eq, low, high]⟩
  obtain ⟨e', hit⟩ := Option.isSome_iff_exists.1 found
  rw [hit, only e' (covers_of_schemeHit hit)]

/-- The digit lengths of a scheme, the greatest first (R44, R128). -/
abbrev digitLengths : List Nat := [11, 9, 5, 3]

theorem presortLookup_of_digits (digits : ∀ d ∈ postal, d < 10) : presortLookup postal s =
    ((digitLengths.findSome? (schemeHit (schemeOf s) postal)).map (·.group)).getD 0 :=
  if_neg (by simpa using digits)

theorem presortLookup_of_non_digit (bad : ∃ d ∈ postal, 10 ≤ d) : presortLookup postal s = 0 :=
  if_pos (by simpa using bad)

theorem presortLookup_of_no_cover (none : ∀ len ∈ digitLengths, ∀ e, ¬Covers postal s len e) : presortLookup postal s = 0 := by
  by_cases digits : ∀ d ∈ postal, d < 10
  · have nothing : digitLengths.findSome? (schemeHit (schemeOf s) postal) = Option.none :=
      List.findSome?_eq_none_iff.2 fun len mem => schemeHit_eq_none (none len mem)
    rw [presortLookup_of_digits digits, nothing]
    rfl
  · exact presortLookup_of_non_digit (by simpa using digits)

/-- In a descending list of digit lengths, the search ends at the first whose digits an entry covers (R128). -/
theorem findSome_schemeHit {len : Nat} {e : SchemeEntry} (lengths : List Nat) (descending : lengths.Pairwise (· > ·))
    (mem : len ∈ lengths) (hit : schemeHit (schemeOf s) postal len = some e)
    (none : ∀ m ∈ lengths, len < m → ∀ e', ¬Covers postal s m e') : lengths.findSome? (schemeHit (schemeOf s) postal) = some e := by
  induction lengths with
  | nil => exact absurd mem List.not_mem_nil
  | cons first rest ih =>
    obtain ⟨above, descending⟩ := List.pairwise_cons.1 descending
    rcases List.mem_cons.1 mem with rfl | later
    · exact List.findSome?_cons_of_isSome (by rw [hit]; rfl) |>.trans hit
    · have passes := schemeHit_eq_none (none first List.mem_cons_self (above len later))
      rw [List.findSome?_cons, passes]
      exact ih descending later fun m inRest => none m (List.mem_cons_of_mem _ inRest)

theorem presortLookup_of_cover (digits : ∀ d ∈ postal, d < 10) {len : Nat} (mem : len ∈ digitLengths) {e : SchemeEntry}
    (covers : Covers postal s len e) (only : ∀ e', Covers postal s len e' → e' = e)
    (greatest : ∀ m ∈ digitLengths, len < m → ∀ e', ¬Covers postal s m e') : presortLookup postal s = e.group := by
  rw [presortLookup_of_digits digits,
    findSome_schemeHit digitLengths (by decide) mem (schemeHit_eq_some covers only) greatest]
  rfl

end Lookup

theorem schemeOf_of_not_valid {s : State} (h : s.tables.scheme.state ≠ .valid) : schemeOf s = [] := by
  rw [schemeOf, contents, if_neg h, List.map_nil]

/-! ### The order of consideration (R116) -/

/-- Feeder a is considered before b: present ones by position, then the others by number (R116). -/
def considered (s : State) (a b : Nat) : Prop :=
  match feederPos a s, feederPos b s with
  | some p, some q => p ≤ q
  | some _, none => True
  | none, some _ => False
  | none, none => a < b

theorem planOrder_perm (sel : List Nat) (s : State) : (planOrder sel s).Perm sel := by
  have absent : (sel.filter fun k => (feederPos k s).isNone) = sel.filter fun k => !(feederPos k s).isSome :=
    List.filter_congr fun k _ => (Option.not_isSome _).symm
  rw [planOrder, absent]
  exact ((sortBy_spec _ _).1.append_right _).trans (List.filter_append_perm _ _)

theorem planOrder_sorted {sel : List Nat} (ascending : sel.Pairwise (· < ·)) (s : State) :
    (planOrder sel s).Pairwise (considered s) := by
  have present {k : Nat} (mem : k ∈ sortBy (fun k => (feederPos k s).getD 0) (sel.filter fun k => (feederPos k s).isSome)) :
      ∃ p, feederPos k s = some p :=
    Option.isSome_iff_exists.1 (List.mem_filter.1 ((sortBy_spec _ _).1.mem_iff.1 mem)).2
  have absent {k : Nat} (mem : k ∈ sel.filter fun k => (feederPos k s).isNone) : feederPos k s = none :=
    Option.isNone_iff_eq_none.1 (List.mem_filter.1 mem).2
  refine List.pairwise_append.2 ⟨(sortBy_spec _ _).2.imp_of_mem fun {a b} inA inB le => ?_,
    (ascending.filter _).imp_of_mem fun {a b} inA inB lt => ?_, fun a inA b inB => ?_⟩
  · obtain ⟨p, placeA⟩ := present inA
    obtain ⟨q, placeB⟩ := present inB
    simpa [considered, placeA, placeB] using le
  · simpa [considered, absent inA, absent inB] using lt
  · obtain ⟨p, placeA⟩ := present inA
    simp [considered, placeA, absent inB]

/-! ### The plan (R116) -/

/-- One selected feeder is considered: it or its alternate is planned, or there is no plan (R116). -/
def planOne (sel : List Nat) (s : State) (planned : List Nat) (k : Nat) : Option (List Nat) :=
  if (feederRec k s).state = .ready then some (planned ++ [k])
  else if (feederRec (feederJob k s).alternate s).state = .ready ∧ (feederJob k s).alternate ≠ 0 ∧
      (feederJob k s).alternate ∉ sel ∧ (feederJob k s).alternate ∉ planned then some (planned ++ [(feederJob k s).alternate])
  else none

theorem planFeeders_eq_foldlM (sel : List Nat) (s : State) (order planned : List Nat) :
    planFeeders sel s order planned = order.foldlM (planOne sel s) planned := by
  induction order generalizing planned with
  | nil => rfl
  | cons k order ih =>
    simp only [planFeeders, List.foldlM_cons, planOne, available, beq_iff_eq]
    split
    · exact ih _
    · split
      · exact ih _
      · rfl

/-- A feeder's entry of an insert plan before it has fed (R116). -/
def pendingEntry (s : State) (k : Nat) : PlanEntry := { feeder := k, position := (feederPos k s).getD 0, result := .pending }

section Plan

variable {x : SetRec} {s : State}

theorem insertPlan_of_unclean (h : clean x = false) : insertPlan x s = (x, []) := by
  simp only [insertPlan, h, Bool.not_false, if_true]

theorem insertPlan_of_clean (h : clean x = true) {f : AcctFields} (acct : x.acct = some f) : insertPlan x s =
    match (planOrder f.inserts s).foldlM (planOne f.inserts s) [] with
    | some planned => (x, sortBy (·.position) (planned.map (pendingEntry s)))
    | none => ({ x with marks := addMark .insertUnavailable x.marks }, []) := by
  simp only [insertPlan, h, Bool.not_true, Bool.false_eq_true, if_false, acct, Option.map_some, Option.getD_some,
    planFeeders_eq_foldlM]
  rfl

theorem marks_of_clean (h : clean x = true) : x.marks = [] := by
  simp only [clean, Bool.and_eq_true, List.isEmpty_iff] at h
  exact h.1

end Plan

/-- Settles O55: the lookup by whether an entry covers the digits, the plan by whether each selected feeder can be planned. -/
theorem lookupAndInsertPlan : Obligations.LookupAndInsertPlan := by
  refine ⟨fun postal s => ⟨presortLookup_of_non_digit, fun invalid => presortLookup_of_no_cover fun len _ e covers => ?_,
    presortLookup_of_no_cover, fun digits len mem e => presortLookup_of_cover digits mem⟩, fun x s => ⟨insertPlan_of_unclean, ?_⟩⟩
  · obtain ⟨inScheme, -⟩ := covers
    rw [schemeOf_of_not_valid invalid] at inScheme
    exact List.not_mem_nil inScheme
  · intro f isClean acct ascending
    refine ⟨planOrder f.inserts s, planOrder_perm _ s, planOrder_sorted ascending s, ?_⟩
    have plan := insertPlan_of_clean (s := s) isClean acct
    show match (planOrder f.inserts s).foldlM (planOne f.inserts s) [] with
      | some planned => _
      | none => _
    cases planned : (planOrder f.inserts s).foldlM (planOne f.inserts s) [] with
    | some planned =>
      rw [planned] at plan
      exact ⟨_, plan, (sortBy_spec _ _).2, (sortBy_spec _ _).1⟩
    | none =>
      rw [planned, marks_of_clean isClean] at plan
      exact plan

end Sys2Proof.Machine
end

section
/-! The exit decision: the search for a bin, the tray that takes the piece, the overflow bin (O60). -/

namespace Sys2Proof.Machine

/-! ### One record of the presort replaced -/

/-- Replace group g's record. -/
def putGroup (g : Nat) (r : GroupRec) (s : State) : State :=
  { s with presort := { s.presort with groups := vset s.presort.groups g r } }

theorem modGroup_eq_putGroup (g : Nat) (f : GroupRec → GroupRec) (s : State) :
    modGroup g f s = putGroup g (f (groupRec g s)) s := rfl

theorem groupRec_putGroup {g : Nat} (inside : g < 64) (r : GroupRec) (s : State) : groupRec g (putGroup g r s) = r :=
  vget_vset_self _ _ inside

theorem binRec_putBin {b : Nat} (low : 1 ≤ b) (high : b ≤ 16) (r : BinRec) (s : State) : binRec b (putBin b r s) = r :=
  vget_vset_self _ _ (by omega)

theorem putGroup_putGroup (g : Nat) (q r : GroupRec) (s : State) : putGroup g r (putGroup g q s) = putGroup g r s := by
  simp only [putGroup, vset_vset]

theorem putBin_putBin (b : Nat) (q r : BinRec) (s : State) : putBin b r (putBin b q s) = putBin b r s := by
  simp only [putBin, vset_vset]

theorem putGroup_self (g : Nat) (s : State) : putGroup g (groupRec g s) s = s := by
  simp only [putGroup, groupRec, vset_vget]

theorem putBin_self (b : Nat) (s : State) : putBin b (binRec b s) s = s := by
  simp only [putBin, binRec, vset_vget]

theorem putBin_putGroup (b g : Nat) (q : BinRec) (r : GroupRec) (s : State) :
    putBin b q (putGroup g r s) = putGroup g r (putBin b q s) := rfl

/-- A group's record with the same list leaves every bin's owner (R130). -/
theorem ownerOf_putGroup {g : Nat} {r : GroupRec} {s : State} (same : r.rotation = (groupRec g s).rotation) (b : Nat) :
    ownerOf b (putGroup g r s) = ownerOf b s := by
  have lists (h : Nat) : (groupRec h (putGroup g r s)).rotation = (groupRec h s).rotation := by
    by_cases here : g = h
    · subst here
      by_cases inside : g < 64
      · rw [groupRec_putGroup inside, same]
      · simp only [groupRec, vget, dif_neg inside]
    · exact congrArg GroupRec.rotation (vget_vset_of_ne _ _ here)
  simp only [ownerOf, lists]

/-! ### The search (R132) -/

section Search

variable {rot : List Nat} {s : State}

theorem usable_iff (b : Nat) (s : State) : usable b s = true ↔ (binRec b s).state = .ready ∨ (binRec b s).state = .opened := by
  simp [usable]

/-- The SINGLE search ends at the first usable bin from its start (R132). -/
theorem searchSingle_eq_some {fuel i j : Nat} (start : i ≤ j) (within : j ≤ i + fuel) (here : usable (rot.getD j 0) s = true)
    (first : ∀ m, i ≤ m → m < j → ¬usable (rot.getD m 0) s = true) : searchSingle rot s fuel i = some j := by
  induction fuel generalizing i with
  | zero =>
    obtain rfl : i = j := by omega
    exact if_pos here
  | succ fuel ih =>
    by_cases done : i = j
    · subst done
      exact if_pos here
    · exact (if_neg (first i (Nat.le_refl i) (by omega))).trans
        (ih (by omega) (by omega) fun m from_ before => first m (by omega) before)

theorem searchSingle_eq_none {fuel i : Nat} (none : ∀ m, i ≤ m → m ≤ i + fuel → ¬usable (rot.getD m 0) s = true) :
    searchSingle rot s fuel i = Option.none := by
  induction fuel generalizing i with
  | zero => exact if_neg (none i (Nat.le_refl i) (Nat.le_refl i))
  | succ fuel ih =>
    exact (if_neg (none i (Nat.le_refl i) (by omega))).trans (ih fun m from_ within => none m (by omega) (by omega))

/-- The next index of a LOOP list, back to 0 from its end (R132). -/
theorem nextIndex_eq_mod {i n : Nat} (inside : i < n) : (if i + 1 < n then i + 1 else 0) = (i + 1) % n := by
  split
  · rename_i more
    rw [Nat.mod_eq_of_lt more]
  · obtain rfl : n = i + 1 := by omega
    rw [Nat.mod_self]

/-- The LOOP search ends at the first usable bin round the list (R132). -/
theorem searchLoop_eq_some {fuel i k : Nat} (inside : i < rot.length) (within : k < fuel)
    (here : usable (rot.getD ((i + k) % rot.length) 0) s = true)
    (first : ∀ j, j < k → ¬usable (rot.getD ((i + j) % rot.length) 0) s = true) :
    searchLoop rot s fuel i = some ((i + k) % rot.length) := by
  have start : (i + 0) % rot.length = i := Nat.mod_eq_of_lt inside
  induction k generalizing fuel i with
  | zero =>
    obtain ⟨fuel, rfl⟩ := Nat.exists_eq_add_of_lt within
    rw [start] at here ⊢
    simp only [Nat.zero_add, searchLoop, here, if_true]
  | succ k ih =>
    obtain ⟨fuel, rfl⟩ : ∃ f, fuel = f + 1 := ⟨fuel - 1, by omega⟩
    have moves (j : Nat) : ((i + 1) % rot.length + j) % rot.length = (i + (j + 1)) % rot.length := by
      rw [Nat.mod_add_mod, Nat.add_assoc, Nat.add_comm 1 j]
    have next : (i + 1) % rot.length < rot.length := Nat.mod_lt _ (by omega)
    have passes : ¬usable (rot.getD i 0) s = true := by simpa only [start] using first 0 (by omega)
    rw [searchLoop, if_neg passes, nextIndex_eq_mod inside, ← moves k]
    exact ih (fuel := fuel) next (by omega) (by rwa [moves]) (fun j before => by rw [moves]; exact first (j + 1) (by omega))
      (Nat.mod_eq_of_lt next)

theorem searchLoop_eq_none {i : Nat} (inside : i < rot.length) (none : ∀ m, m < rot.length → ¬usable (rot.getD m 0) s = true)
    (fuel : Nat) : searchLoop rot s fuel i = Option.none := by
  induction fuel generalizing i with
  | zero => rfl
  | succ fuel ih =>
    rw [searchLoop, if_neg (none i inside), nextIndex_eq_mod inside]
    exact ih (Nat.mod_lt _ (by omega))

end Search

/-- The search of a group ends at index i: the bin there is usable, and none before it in the order of the mode (R132). -/
def SearchEndsAt (r : GroupRec) (s : State) (i : Nat) : Prop :=
  i < r.rotation.length ∧ usable (r.rotation.getD i 0) s = true ∧
    (r.mode = .single → r.index ≤ i ∧ ∀ j, r.index ≤ j → j < i → ¬usable (r.rotation.getD j 0) s = true) ∧
    (r.mode = .loop → ∃ k, k < r.rotation.length ∧ i = (r.index + k) % r.rotation.length ∧
      ∀ j, j < k → ¬usable (r.rotation.getD ((r.index + j) % r.rotation.length) 0) s = true)

theorem searchBin_eq_some {r : GroupRec} {s : State} {i : Nat} (inside : r.index < r.rotation.length) (ends : SearchEndsAt r s i) :
    searchBin r s = some i := by
  obtain ⟨listed, here, single, loop⟩ := ends
  unfold searchBin
  split
  · rename_i mode
    obtain ⟨start, first⟩ := single mode
    exact searchSingle_eq_some start (by omega) here first
  · rename_i mode
    obtain ⟨k, within, rfl, first⟩ := loop mode
    exact searchLoop_eq_some inside within here first

theorem searchBin_eq_none {r : GroupRec} {s : State} (inside : r.index < r.rotation.length)
    (none : ∀ i, (r.mode = .single → r.index ≤ i) → i < r.rotation.length → ¬usable (r.rotation.getD i 0) s = true) :
    searchBin r s = Option.none := by
  unfold searchBin
  split
  · exact searchSingle_eq_none fun m from_ within => none m (fun _ => from_) (by omega)
  · rename_i mode
    exact searchLoop_eq_none inside (fun m listed => none m (by simp [mode]) listed) _

/-! ### The overflow bin (R136) -/

/-- A piece has gone to the overflow bin: its count, and the notice at the warning level (R136). -/
def spilled (s : State) : State :=
  let n := if s.presort.overflow < 65535 then s.presort.overflow + 1 else s.presort.overflow
  let t := { s with presort := { s.presort with overflow := n } }
  if s.presort.overflow < 65535 ∧ n = warningLevel s ∧ warningLevel s ≠ 0 then notice 5 (beBytes 2 n) t else t

theorem overflowPiece_eq (g : Nat) (why : HeldReason) (s : State) : overflowPiece g why s = (spilled s, .held g why) := by
  by_cases room : s.presort.overflow < 65535 <;> simp [overflowPiece, spilled, satInc, room]

/-! ### A group that becomes EXHAUSTED (R133, R134) -/

/-- A group of action STOP raises GROUP EXHAUSTED (R134). -/
def raiseStop (g : Nat) (action : ExhaustAction) (s : State) : State := if action = .stop then raise .groupExhausted 4 g s else s

theorem exhaust_eq (g : Nat) (s : State) : exhaust g s =
    raiseStop g (groupRec g s).action (putGroup g { groupRec g s with state := .exhausted } s) := rfl

/-- A group's record after one of its bins is filled (R133). -/
def GroupRec.advanced (r : GroupRec) : GroupRec :=
  if r.index + 1 < r.rotation.length then { r with index := r.index + 1 }
  else if r.mode = .single then { r with state := .exhausted }
  else { r with index := 0 }

/-- The fill of the last bin of a SINGLE list exhausts it (R133). -/
def GroupRec.atEnd (r : GroupRec) : Prop := ¬r.index + 1 < r.rotation.length ∧ r.mode = .single

/-- The advance of an ACTIVE group, by the end of its list and by whether it is spent (R133). -/
theorem advanced_eq {q : GroupRec} (listed : q.index < q.rotation.length) (active : q.state = .active) {spent : Bool}
    (spent_iff : spent = true ↔ q.atEnd) : q.advanced = { q with
      index := if q.index < q.rotation.length - 1 then q.index + 1 else if spent then q.index else 0
      state := if spent then .exhausted else .active } := by
  by_cases more : q.index + 1 < q.rotation.length
  · have before : q.index < q.rotation.length - 1 := by omega
    have notSpent : ¬spent = true := fun ended => (spent_iff.1 ended).1 more
    rw [GroupRec.advanced, if_pos more, if_pos before, if_neg notSpent, ← active]
  · have isLast : ¬q.index < q.rotation.length - 1 := by omega
    by_cases single : q.mode = .single
    · have isSpent : spent = true := spent_iff.2 ⟨more, single⟩
      simp only [GroupRec.advanced, if_neg more, if_pos single, if_neg isLast, if_pos isSpent]
    · have notSpent : ¬spent = true := fun ended => single (spent_iff.1 ended).2
      simp only [GroupRec.advanced, if_neg more, if_neg single, if_neg isLast, if_neg notSpent, ← active]

theorem advanceIndex_of_atEnd {g : Nat} {s : State} (ends : (groupRec g s).atEnd) :
    advanceIndex g s = raiseStop g (groupRec g s).action (putGroup g (groupRec g s).advanced s) := by
  obtain ⟨last, mode⟩ := ends
  have exhausts : advanceIndex g s = exhaust g s := by simp only [advanceIndex, if_neg last, mode]
  rw [exhausts, exhaust_eq, GroupRec.advanced, if_neg last, if_pos mode]

theorem advanceIndex_of_not_atEnd {g : Nat} {s : State} (more : ¬(groupRec g s).atEnd) :
    advanceIndex g s = putGroup g (groupRec g s).advanced s := by
  by_cases inside : (groupRec g s).index + 1 < (groupRec g s).rotation.length
  · rw [GroupRec.advanced, if_pos inside]
    exact if_pos inside
  · have mode : (groupRec g s).mode = .loop := by
      cases mode : (groupRec g s).mode with
      | single => exact absurd ⟨inside, mode⟩ more
      | loop => rfl
    have wraps : advanceIndex g s = modGroup g (fun r => { r with index := 0 }) s := by simp only [advanceIndex, if_neg inside, mode]
    rw [wraps, GroupRec.advanced, if_neg inside, if_neg (by simp [mode])]
    rfl

/-! ### Records and the presort (R163) -/

/-- The writing of a record before its notice: it joins the queue and is counted (R163, R168). -/
def recorded (rec_ : Record) (s : State) : State :=
  (recordCounters rec_).foldl (fun s n => bumpRun n s) { s with outcomes := { s.outcomes with recs := s.outcomes.recs ++ [rec_] } }

theorem writeRecord_eq (rec_ : Record) (s : State) : writeRecord rec_ s =
    if (recorded rec_ s).outcomes.recs.length = Config.queueLevel then
      notice 4 (beBytes 2 (recorded rec_ s).outcomes.recs.length) (recorded rec_ s)
    else recorded rec_ s := rfl

theorem recorded_putGroup (rec_ : Record) (g : Nat) (r : GroupRec) (s : State) :
    recorded rec_ (putGroup g r s) = putGroup g r (recorded rec_ s) := by
  have counts (l : List Nat) (t : State) :
      l.foldl (fun s n => bumpRun n s) (putGroup g r t) = putGroup g r (l.foldl (fun s n => bumpRun n s) t) := by
    induction l generalizing t with
    | nil => rfl
    | cons n l ih => exact ih (bumpRun n t)
  exact counts (recordCounters rec_) { s with outcomes := { s.outcomes with recs := s.outcomes.recs ++ [rec_] } }

theorem notice_putGroup (cls : Nat) (data : List Byte) (g : Nat) (r : GroupRec) (s : State) :
    notice cls data (putGroup g r s) = putGroup g r (notice cls data s) := by
  by_cases asked : vget s.loop.noticeMask (cls - 1) = true
  · have asked' : vget (putGroup g r s).loop.noticeMask (cls - 1) = true := asked
    rw [notice, notice, if_pos asked, if_pos asked']
    rfl
  · have asked' : ¬vget (putGroup g r s).loop.noticeMask (cls - 1) = true := asked
    rw [notice, notice, if_neg asked, if_neg asked']

/-- The writing of a record neither reads nor changes a group's record (R163). -/
theorem writeRecord_putGroup (rec_ : Record) (g : Nat) (r : GroupRec) (s : State) :
    writeRecord rec_ (putGroup g r s) = putGroup g r (writeRecord rec_ s) := by
  rw [writeRecord_eq, writeRecord_eq, recorded_putGroup, notice_putGroup]
  exact (apply_ite (putGroup g r) _ _ _).symm

theorem groupRec_writeRecord_putGroup {g : Nat} (inside : g < 64) (rec_ : Record) (r : GroupRec) (s : State) :
    groupRec g (writeRecord rec_ (putGroup g r s)) = r := by
  rw [writeRecord_putGroup]
  exact groupRec_putGroup inside r _

/-- After a record the index of a group as it stood advances (R133). -/
theorem advanceIndex_writeRecord_of_atEnd {g : Nat} (inside : g < 64) {r : GroupRec} (ends : r.atEnd) (rec_ : Record) (s : State) :
    advanceIndex g (writeRecord rec_ (putGroup g r s)) = raiseStop g r.action (writeRecord rec_ (putGroup g r.advanced s)) := by
  have same := groupRec_writeRecord_putGroup inside rec_ r s
  rw [advanceIndex_of_atEnd (by rwa [same]), same, ← writeRecord_putGroup, putGroup_putGroup]

theorem advanceIndex_writeRecord_of_not_atEnd {g : Nat} (inside : g < 64) {r : GroupRec} (more : ¬r.atEnd) (rec_ : Record)
    (s : State) : advanceIndex g (writeRecord rec_ (putGroup g r s)) = writeRecord rec_ (putGroup g r.advanced s) := by
  have same := groupRec_writeRecord_putGroup inside rec_ r s
  rw [advanceIndex_of_not_atEnd (by rwa [same]), same, ← writeRecord_putGroup, putGroup_putGroup]

/-! ### The tray that takes a piece (R131, R133) -/

/-- The bin that takes a piece, before it is counted: a READY one opens with the group's tray number (R131). -/
def takingBin (b tray seq : Nat) (s : State) : BinRec :=
  if (binRec b s).state = .ready then { state := .opened, count := 0, tray := tray, firstSeq := seq, lastSeq := seq } else binRec b s

/-- The group's tray number after the piece (R131). -/
def trayAfter (b tray : Nat) (s : State) : Nat := if (binRec b s).state = .ready then nextTray tray else tray

/-- A bin's record with one more piece (R133). -/
def BinRec.counting (r : BinRec) (seq : Nat) : BinRec := { r with count := r.count + 1, lastSeq := seq }

section Piece

variable {g b : Nat} {s : State}

/-- A READY bin is opened for the piece, an OPEN one is left as it is (R131). -/
theorem openTray_if_ready (g b seq : Nat) (s : State) : (if (binRec b s).state = .ready then openTray g b seq s else s) =
    putGroup g { groupRec g s with tray := trayAfter b (groupRec g s).tray s }
      (putBin b (takingBin b (groupRec g s).tray seq s) s) := by
  by_cases ready : (binRec b s).state = .ready
  · simp only [if_pos ready, trayAfter, takingBin]
    rfl
  · simp only [if_neg ready, trayAfter, takingBin]
    rw [putBin_self]
    exact (putGroup_self g s).symm

/-- A tray filled in the bin of a group writes its record and leaves the bin FULL with its tray number and seqs (R130, R131). -/
theorem closeTray_filled (low : 1 ≤ b) (high : b ≤ 16) (owner : ownerOf b s = some g) {r : GroupRec}
    (same : r.rotation = (groupRec g s).rotation) (q : BinRec) : closeTray b .filled .full (putGroup g r (putBin b q s)) =
      writeRecord (.tray g .filled b q.tray q.count q.firstSeq q.lastSeq)
        (putGroup g r (putBin b { q with state := .full, count := 0 } s)) := by
  have record : binRec b (putGroup g r (putBin b q s)) = q := binRec_putBin low high q s
  have owned : ownerOf b (putGroup g r (putBin b q s)) = some g := by
    rw [ownerOf_putGroup (s := putBin b q s) same]
    exact owner
  simp only [closeTray, record, owned, Option.getD_some, if_true, putBin_putGroup, putBin_putBin]

/-- A piece of a group with record q that finds room in bin b is counted there (R133). -/
theorem placePiece_putGroup (inside : g < 64) (low : 1 ≤ b) (high : b ≤ 16) (q : GroupRec) (seq : Nat) :
    placePiece g b seq (putGroup g q s) =
      let bin := takingBin b q.tray seq s
      let counted := putGroup g { q with tray := trayAfter b q.tray s } (putBin b (bin.counting seq) s)
      (if bin.count + 1 = capacityOf b s then advanceIndex g (closeTray b .filled .full counted) else counted,
        .binned b g bin.tray (bin.count + 1)) := by
  have group : groupRec g (putGroup g q s) = q := groupRec_putGroup inside q s
  have record (p : GroupRec) (r : BinRec) : binRec b (putGroup g p (putBin b r s)) = r := binRec_putBin low high r s
  simp only [placePiece, openTray_if_ready, group, putBin_putGroup, putGroup_putGroup, putBin_putBin, record]
  split
  · rename_i full
    exact congrArg (·, _) (if_pos full).symm
  · rename_i room
    exact congrArg (·, _) (if_neg room).symm

theorem placePiece_of_room (inside : g < 64) (low : 1 ≤ b) (high : b ≤ 16) {q : GroupRec} {seq : Nat} {bin : BinRec} {tray : Nat}
    (taking : takingBin b q.tray seq s = bin) (after : trayAfter b q.tray s = tray) (room : capacityOf b s ≠ bin.count + 1) :
    placePiece g b seq (putGroup g q s) =
      (putGroup g { q with tray := tray } (putBin b (bin.counting seq) s), .binned b g bin.tray (bin.count + 1)) := by
  subst taking after
  rw [placePiece_putGroup inside low high]
  exact congrArg (·, _) (if_neg (Ne.symm room))

/-- The piece that fills a bin, of capacity 1 too, closes its tray and advances the group's index (R133). -/
theorem placePiece_of_fill (inside : g < 64) (low : 1 ≤ b) (high : b ≤ 16) {q : GroupRec} {seq : Nat} {bin : BinRec} {tray : Nat}
    (taking : takingBin b q.tray seq s = bin) (after : trayAfter b q.tray s = tray) (fill : capacityOf b s = bin.count + 1)
    (owner : ownerOf b s = some g) (same : q.rotation = (groupRec g s).rotation) :
    placePiece g b seq (putGroup g q s) =
      (advanceIndex g (writeRecord (.tray g .filled b bin.tray (bin.count + 1) bin.firstSeq seq)
        (putGroup g { q with tray := tray } (putBin b { bin with state := .full, count := 0, lastSeq := seq } s))),
      .binned b g bin.tray (bin.count + 1)) := by
  subst taking after
  rw [placePiece_putGroup inside low high]
  refine congrArg (·, _) ((if_pos fill.symm).trans ?_)
  exact congrArg (advanceIndex g)
    (closeTray_filled low high owner (r := { q with tray := trayAfter b q.tray s }) same ((takingBin b q.tray seq s).counting seq))

end Piece
/-! ### The exit decision (R132) -/

section Decision

variable {g seq : Nat} {s : State}

theorem exitDecision_of_found (active : (groupRec g s).state = .active) {i : Nat} (found : searchBin (groupRec g s) s = some i) :
    exitDecision g seq s = placePiece g ((groupRec g s).rotation.getD i 0) seq (putGroup g { groupRec g s with index := i } s) := by
  have decides : exitDecision g seq s =
      placePiece g ((groupRec g s).rotation.getD i 0) seq (modGroup g (fun r => { r with index := i }) s) := by
    simp only [exitDecision, active, found]
  exact decides

theorem exitDecision_of_none (inside : g < 64) (active : (groupRec g s).state = .active) (none : searchBin (groupRec g s) s = none) :
    exitDecision g seq s = (spilled (raiseStop g (groupRec g s).action (putGroup g { groupRec g s with
      index := if (groupRec g s).mode = .single then (groupRec g s).rotation.length - 1 else (groupRec g s).index
      state := .exhausted } s)), .held g .exhausted) := by
  have decides : exitDecision g seq s = overflowPiece g .exhausted (exhaust g (modGroup g (fun r => { r with
      index := if (groupRec g s).mode = .single then (groupRec g s).rotation.length - 1 else (groupRec g s).index }) s)) := by
    simp only [exitDecision, active, none]
  rw [decides, modGroup_eq_putGroup, overflowPiece_eq, exhaust_eq, groupRec_putGroup inside, putGroup_putGroup]

end Decision

/-- Settles O60: by the group's state, then by what the search finds, then by whether the piece fills the bin. -/
theorem exitDecisionsPlaceAPiece : Obligations.ExitDecisionsPlaceAPiece := by
  intro g seq s inside r spill stopped usable place last found
  have usable_eq (b : Nat) : Machine.usable b s = true ↔ usable b := usable_iff b s
  refine ⟨fun unused => ?_, fun exhausted => ?_, fun active index => ⟨fun i ends low high => ?_, fun none => ?_⟩⟩
  · simp only [exitDecision, show (groupRec g s).state = _ from unused]
    exact overflowPiece_eq g _ s
  · simp only [exitDecision, show (groupRec g s).state = _ from exhausted]
    exact overflowPiece_eq g _ s
  · intro b fresh bin tray counted decision
    have search : searchBin r s = some i := searchBin_eq_some index (by simpa only [SearchEndsAt, usable_eq] using ends)
    have decides : exitDecision g seq s = placePiece g b seq (putGroup g { r with index := i } s) := exitDecision_of_found active search
    have taking : takingBin b r.tray seq s = bin := by simp only [takingBin, bin, fresh, decide_eq_true_eq]
    have after : trayAfter b r.tray s = tray := by simp only [trayAfter, nextTray, tray, fresh, decide_eq_true_eq]
    refine ⟨fun room => decides.trans (placePiece_of_room inside low high taking after room), fun fill owner => ?_⟩
    intro spent filled
    let q : GroupRec := { r with index := i, tray := tray }
    have listed : i < r.rotation.length := ends.1
    have spent_iff : spent = true ↔ q.atEnd := by
      have isLast : i = last ↔ ¬i + 1 < r.rotation.length := by omega
      simp only [spent, decide_eq_true_eq, isLast, GroupRec.atEnd, q]
    have advanced := advanced_eq (q := q) listed active spent_iff
    have placed := placePiece_of_fill (q := { r with index := i }) inside low high taking after fill owner rfl
    refine decides.trans (placed.trans (congrArg (·, decision) ?_))
    change advanceIndex g (writeRecord _ (putGroup g q _)) = _
    by_cases ended : q.atEnd
    · rw [advanceIndex_writeRecord_of_atEnd inside ended, advanced]
      exact (if_pos (spent_iff.2 ended)).symm
    · rw [advanceIndex_writeRecord_of_not_atEnd inside ended, advanced]
      exact (if_neg (mt spent_iff.1 ended)).symm
  · have search : searchBin r s = Option.none := searchBin_eq_none index (by simpa only [usable_eq] using none)
    exact exitDecision_of_none inside active search

end Sys2Proof.Machine
end

section
/-! The latches' numbers stay in range (O9). -/

namespace Sys2Proof.Machine

/-! ### One latch (R153) -/

/-- A raised latch has an occurrence of 1 to 255, and the raisings count stops at its top (R153). -/
theorem Latch.ok.raised {l : Latch} (h : l.ok) (a b : Nat) : (l.raised a b).ok := by
  obtain ⟨occurrence, raisings, -, -⟩ := h
  simp only [Latch.ok, Latch.raised, nextOccurrence, satInc]
  split <;> split <;> omega

/-- A latch that has been raised may stand in any state. -/
theorem Latch.ok.of_raised {l : Latch} (h : l.ok) (raised : l.state ≠ .idle) (st : LatchState) : Latch.ok { l with state := st } := by
  obtain ⟨occurrence, raisings, together, active⟩ := h
  exact ⟨occurrence, raisings, together, fun _ => active raised⟩

/-- A CLEAR FAULT may idle a latch and leaves its numbers (R154). -/
theorem Latch.ok.cleared {l : Latch} (h : l.ok) (n : Nat) : (clearLatch l n).ok := by
  unfold clearLatch
  split
  · next found => exact h.of_raised (by simp [found.1]) .idle
  · exact h

/-! ### The latch table -/

/-- The ranges rest on the latch table only. -/
theorem latchesInRange_of {s t : State} (h : LatchesInRange s) (latches : t.line.latches = s.line.latches) : LatchesInRange t := by
  rw [LatchesInRange, latches]
  exact h

theorem latchesInRange_putLatch {s : State} {l : Latch} (h : LatchesInRange s) (ok : l.ok) (k : LatchKind) :
    LatchesInRange (putLatch k l s) := fun j => by
  change Latch.ok (latch j (putLatch k l s))
  rw [latch_putLatch]
  split
  · exact ok
  · exact h j

theorem latchesInRange_latched {s : State} {k : LatchKind} (h : LatchesInRange s) (active : up k s = true) :
    LatchesInRange (putLatch k { latch k s with state := .latched } s) :=
  latchesInRange_putLatch h ((h k).of_raised (by simp_all [up, latch]) .latched) k

theorem latchesInRange_lower {s : State} (h : LatchesInRange s) (k : LatchKind) : LatchesInRange (lower k s) := by
  unfold lower
  split
  · next active => exact latchesInRange_latched h active
  · exact h

/-- DRIVE RATE may be lowered with the drive going off, and no other latch changes (R12). -/
theorem latchesInRange_lowerDriveRate {s : State} (h : LatchesInRange s) (wasOn : Bool) : LatchesInRange (lowerDriveRate wasOn s) := by
  unfold lowerDriveRate
  split
  · exact latchesInRange_lower (s := putPitch { s.pitch with driveRateUp := false } s) h .driveRate
  · exact h

theorem latchesInRange_updateDrive {s : State} (h : LatchesInRange s) : LatchesInRange (updateDrive s) := by
  obtain ⟨-, -, -, -, -, -, -, -, latches⟩ := driveOutputs_meter s
  exact latchesInRange_lowerDriveRate (latchesInRange_of h latches) _

/-- STATION TIMING may be lowered when the line leaves the drive states, and no other latch changes (R145). -/
theorem latchesInRange_lowerTiming {s : State} (h : LatchesInRange s) (old new : LineState) :
    LatchesInRange (lowerTiming old new s) := by
  unfold lowerTiming
  split
  · exact latchesInRange_lower h _
  · exact h

/-- The ranges of R153 under every update the part's operations are made of: a latch is only raised, lowered or cleared, and a
change of line state or of the outputs only lowers. -/
theorem closed_latchesInRange : Closed LatchesInRange where
  pins _ _ h := h
  stage _ _ h := h
  track _ _ h := h
  feeders _ _ h := h
  presort _ _ h := h
  outcomes _ _ h := h
  draws _ _ h := h
  pitch _ _ _ _ _ h := h
  line _ _ _ latches h := latchesInRange_of h latches
  raised _ k a b h := latchesInRange_putLatch h ((h k).raised a b) k
  lowered _ _ active h := latchesInRange_latched h active
  cleared _ k n h := latchesInRange_putLatch h ((h k).cleared n) k
  moved s n c h := latchesInRange_updateDrive (latchesInRange_lowerTiming (s := putLine (lineChanged n c s.line) s) h s.line.state n)
  estop s b t h := latchesInRange_updateDrive (s := putPitch { s.pitch with estopAsserted := b, releaseTimer := t } s) h
  loop _ _ _ h := h
  tables _ _ _ _ h := h
  pull _ _ _ h := h
  acct _ _ _ h := h

theorem latchesInRange_cold (p : Pins) (d : Nat) (q : List Instr) : LatchesInRange (State.cold p d q) := fun k => by
  change Latch.ok (latch k (State.cold p d q))
  rw [latch_cold]
  simp [Latch.ok, Latch.idle]

theorem latchesInRange_deviceValues (s : State) : LatchesInRange (deviceValues s) := by
  rw [LatchesInRange, (deviceValues_cold s).2]
  exact latchesInRange_cold s.pins s.draws s.pending

/-- Settles O9: the ranges are closed under the updates every operation is made of, and the two resets establish them. -/
theorem latchesStayInRange : Obligations.LatchesStayInRange := fun _ _ h e =>
  step_keeps closed_latchesInRange latchesInRange_cold (fun s _ => latchesInRange_deviceValues s) (fun _ _ h => h) e h

end Sys2Proof.Machine
end

section
/-! CLEAR FAULT (O48). -/

namespace Sys2Proof.Machine

/-! ### The latch a CLEAR FAULT names (R154) -/

theorem latchOfCode_latchCode (k : LatchKind) : latchOfCode (latchCode k) = some k := by cases k <;> decide

/-- The kinds are coded 1 to 14 (02, "Reply and notice"). -/
theorem latchOfCode_eq_none {n : Nat} (h : n = 0 ∨ 15 ≤ n) : latchOfCode n = none := by
  refine List.find?_eq_none.2 fun k _ => ?_
  have coded : 1 ≤ latchCode k ∧ latchCode k ≤ 14 := by cases k <;> decide
  rw [beq_iff_eq]
  omega

theorem putLatch_self (k : LatchKind) (s : State) : putLatch k (latch k s) s = s := by
  simp only [putLatch, latch, vset_vget]

/-! ### CLEAR FAULT, outcome by outcome (R154) -/

theorem clearFaultHandler_of_bad {c : Cell} (bad : payByte c 4 = 0 ∨ 15 ≤ payByte c 4) (s : State) :
    clearFaultHandler c s = (s, one .arg []) := by
  simp only [clearFaultHandler, latchOfCode_eq_none bad]

section Named

variable {c : Cell} {k : LatchKind} {s : State}

theorem clearFaultHandler_of_kind (kind : payByte c 4 = latchCode k) : clearFaultHandler c s =
    (putLatch k (clearLatch (latch k s) (payByte c 5)) s, one (clearCode (latch k s) (payByte c 5))
      [BitVec.ofNat 8 (latchStateCode (clearLatch (latch k s) (payByte c 5)).state), BitVec.ofNat 8 (latch k s).occurrence]) := by
  have occurrence : (clearLatch (latch k s) (payByte c 5)).occurrence = (latch k s).occurrence := by
    rw [clearLatch, apply_ite Latch.occurrence, ite_self]
  simp only [clearFaultHandler, kind, latchOfCode_latchCode, beBytes_one, occurrence, List.cons_append, List.nil_append]

theorem clearFaultHandler_of_latched (kind : payByte c 4 = latchCode k) (latched : (latch k s).state = .latched)
    (named : (latch k s).occurrence = payByte c 5) : clearFaultHandler c s =
      (putLatch k { latch k s with state := .idle } s, one .accepted [1, BitVec.ofNat 8 (latch k s).occurrence]) := by
  have idled : clearLatch (latch k s) (payByte c 5) = { latch k s with state := .idle } := if_pos ⟨latched, named⟩
  have code : clearCode (latch k s) (payByte c 5) = .accepted := by simp only [clearCode, latched, named, if_true]
  rw [clearFaultHandler_of_kind kind, idled, code]
  rfl

/-- A latch that is not LATCHED with the occurrence named stays as it is; the reply tells its state (R154). -/
theorem clearFaultHandler_of_kept (kind : payByte c 4 = latchCode k)
    (kept : ¬((latch k s).state = .latched ∧ (latch k s).occurrence = payByte c 5)) : clearFaultHandler c s =
      (s, one (clearCode (latch k s) (payByte c 5))
        [BitVec.ofNat 8 (latchStateCode (latch k s).state), BitVec.ofNat 8 (latch k s).occurrence]) := by
  have same : clearLatch (latch k s) (payByte c 5) = latch k s := if_neg kept
  rw [clearFaultHandler_of_kind kind, same, putLatch_self]

end Named

/-- Settles O48: by the latch's state, and for a LATCHED one by the occurrence named. -/
theorem clearFaultIdlesALatch : Obligations.ClearFaultIdlesALatch := by
  refine fun c s => ⟨fun kind valid n node role => ?_, fun takes => ?_⟩
  · refine (admitted_iff valid c).2 ⟨n, node, role.imp id fun panel => ⟨panel, ?_⟩⟩
    rw [kind]
    decide
  · intro named
    refine ⟨fun bad => ?_, fun k kind => ?_⟩
    · exact run_request_of_handler takes (clearFaultHandler_of_bad bad _)
    · have keeps {st : LatchState} {code : ResultCode} (state : (latch k s).state = st)
          (kept : ¬(st = .latched ∧ (latch k s).occurrence = named)) (judged : clearCode (latch k s) named = code) :
          exec .clearFault s = .next (replied c code
            [BitVec.ofNat 8 (latchStateCode st), BitVec.ofNat 8 (latch k s).occurrence] (handed c s)) := by
        subst state judged
        exact run_request_of_handler takes (clearFaultHandler_of_kept (s := handed c s) kind kept)
      refine ⟨fun active => keeps active (by simp) (by simp only [clearCode, active]), fun latched same => ?_,
        fun latched other => keeps latched (by simp [other]) (by simp only [clearCode, latched, if_neg other]),
        fun idle => keeps idle (by simp) (by simp only [clearCode, idle])⟩
      exact run_request_of_handler takes (clearFaultHandler_of_latched (s := handed c s) kind latched same)

end Sys2Proof.Machine
end

section
/-! A change of line state (O18). -/

namespace Sys2Proof.Machine

/-! ### The outputs' change (R11, R21) -/

/-- The open period, the reported meter validity and the roll timer after the outputs have taken their levels (R11, R21). -/
theorem driveOutputs_timers (s : State) :
    (driveOutputs s).pitch.openPeriod =
      (if s.pitch.driveEn != wantEn s || (wantEn s && s.pitch.driveCrawl != wantCrawl s) then none else s.pitch.openPeriod) ∧
    (driveOutputs s).line.meterValid =
      (if s.pitch.driveEn != wantEn s || (wantEn s && s.pitch.driveCrawl != wantCrawl s) then false else s.line.meterValid) ∧
    (driveOutputs s).loop.rollTimer =
      (if s.pitch.driveEn = wantEn s then s.loop.rollTimer else if wantEn s then none else some 0) := by
  refine ⟨?_, ?_, ?_⟩
  · simp only [driveOutputs]
    split <;> rfl
  · simp only [driveOutputs]
    split <;> rfl
  · simp only [driveOutputs, beq_iff_eq]

/-- The lowering of DRIVE RATE leaves them (R12). -/
theorem lowerDriveRate_timers (wasOn : Bool) (s : State) : (lowerDriveRate wasOn s).pitch.openPeriod = s.pitch.openPeriod ∧
    (lowerDriveRate wasOn s).line.meterValid = s.line.meterValid ∧ (lowerDriveRate wasOn s).loop.rollTimer = s.loop.rollTimer := by
  unfold lowerDriveRate
  split
  · obtain ⟨-, -, -, -, -, meter, -⟩ := lower_line { s with pitch := { s.pitch with driveRateUp := false } } .driveRate
    exact ⟨by simp, meter, by simp⟩
  · exact ⟨rfl, rfl, rfl⟩

/-! ### The change of line state (R145) -/

/-- The Line Controller's record of a change, with STATION TIMING lowered where the drive states are left (R145, R162). -/
def lineMoved (n : LineState) (cause : Nat) (s : State) : State :=
  lowerTiming s.line.state n { s with line := lineChanged n cause s.line }

theorem lineMoved_frame (n : LineState) (cause : Nat) (s : State) : (lineMoved n cause s).pitch = s.pitch ∧
    (lineMoved n cause s).loop = s.loop ∧ (lineMoved n cause s).line.meterValid = s.line.meterValid ∧
    (lineMoved n cause s).line.state = n := by
  unfold lineMoved lowerTiming
  split
  · obtain ⟨-, -, -, -, -, meter, -⟩ := lower_line { s with line := lineChanged n cause s.line } .stationTiming
    exact ⟨by simp, by simp, meter, by simp⟩
  · exact ⟨rfl, rfl, rfl, rfl⟩

/-- After its record a change of line state is the outputs' change, for the open period, the meter's validity and the roll timer; the
search count, the end of a feed hold and the LINE STATE notice leave them. -/
theorem setLine_timers_eq (n : LineState) (cause : Nat) (s : State) :
    (setLine n cause s).pitch.openPeriod = (updateDrive (lineMoved n cause s)).pitch.openPeriod ∧
    (setLine n cause s).line.meterValid = (updateDrive (lineMoved n cause s)).line.meterValid ∧
    (setLine n cause s).loop.rollTimer = (updateDrive (lineMoved n cause s)).loop.rollTimer := by
  have search (u : State) : (startSearch n u).pitch.openPeriod = u.pitch.openPeriod := by
    unfold startSearch
    split <;> rfl
  have hold (u : State) : (endFeedHold u).loop.rollTimer = u.loop.rollTimer := by
    unfold endFeedHold
    split
    · exact notice_rollTimer ..
    · rfl
  simp only [setLine, lineMoved]
  split <;> simp [search, hold]

/-- The outputs that the new line state asks for (R13). -/
theorem want_lineMoved (n : LineState) (cause : Nat) (s : State) :
    wantEn (lineMoved n cause s) = (driveState n && !s.pitch.estopAsserted) ∧
    wantCrawl (lineMoved n cause s) = (driveState n && !s.pitch.estopAsserted && n == .priming) := by
  obtain ⟨pitch, -, -, state⟩ := lineMoved_frame n cause s
  simp only [wantCrawl, wantEn, pitch, state, and_self]

/-- A change of line state: the open period, the reported meter validity (R11) and the roll timer (R21). -/
theorem setLine_timers (n : LineState) (cause : Nat) (s : State) :
    let en := driveState n && !s.pitch.estopAsserted
    let crawl := en && n == .priming
    let changed := s.pitch.driveEn != en || (en && s.pitch.driveCrawl != crawl)
    (setLine n cause s).pitch.openPeriod = (if changed then none else s.pitch.openPeriod) ∧
    (setLine n cause s).line.meterValid = (if changed then false else s.line.meterValid) ∧
    (setLine n cause s).loop.rollTimer = (if s.pitch.driveEn = en then s.loop.rollTimer else if en then none else some 0) := by
  intro en crawl changed
  obtain ⟨period, meter, timer⟩ := setLine_timers_eq n cause s
  obtain ⟨period', meter', timer'⟩ := lowerDriveRate_timers (lineMoved n cause s).pitch.driveEn (driveOutputs (lineMoved n cause s))
  obtain ⟨period'', meter'', timer''⟩ := driveOutputs_timers (lineMoved n cause s)
  obtain ⟨pitch, loop, valid, -⟩ := lineMoved_frame n cause s
  obtain ⟨wantEn, wantCrawl⟩ := want_lineMoved n cause s
  rw [wantEn, wantCrawl, pitch] at period'' meter''
  rw [wantEn, pitch, loop] at timer''
  rw [valid] at meter''
  exact ⟨period.trans (period'.trans period''), meter.trans (meter'.trans meter''), timer.trans (timer'.trans timer'')⟩

/-- A stopped state, or LOCKOUT, is one of three (09, "Line states"). -/
theorem stopped_or_lockout_iff (n : LineState) :
    (stoppedLine n || n == .lockout) = true ↔ n = .halted ∨ n = .paused ∨ n = .lockout := by
  cases n <;> decide

/-- Settles O18: the record of the change, the outputs, the timers, the latches and the frame of `setLine`, part by part. -/
theorem lineStateChanges : Obligations.LineStateChanges := by
  intro n cause s t en crawl changed
  obtain ⟨state, driveEn, driveCrawl⟩ := setLine_drive s n cause
  obtain ⟨prev, lastCause, drain, clean, phase, meter, -, search⟩ := setLine_record s n cause
  obtain ⟨period, valid, timer⟩ := setLine_timers n cause s
  simp only [stopped_or_lockout_iff] at drain
  refine ⟨state, prev, lastCause, driveEn, driveCrawl, meter, period, valid, timer, search, clean, drain, fun other => (phase other).1,
    fun k rate timing => latch_setLine s n cause rate timing, ?_⟩
  simp [t]

end Sys2Proof.Machine
end

section
/-! Raisings and lowerings, and the line's response to a raising (O19). -/

namespace Sys2Proof.Machine

/-! ### The response by kind and line state (R155) -/

/-- The drive states by name (R13). -/
theorem driveState_iff (l : LineState) : driveState l = true ↔ l = .priming ∨ l = .running ∨ l = .draining := by cases l <;> decide

/-- The station roles by name (R155). -/
theorem stationRole_iff (role : Option Role) : (role.map stationRole).getD false = true ↔
    ∃ r ∈ [Role.sheetStation, .envReader, .envStation, .caliper, .divertGate, .closer, .sorter], role = some r := by
  cases role with
  | none => simp
  | some r => cases r <;> simp [stationRole]

section Raise

variable (role : Option Role) (k : LatchKind) (sort number : Nat) (s : State)

/-- A raising of a kind other than STATION TIMING is taken by its latch, and the line responds (R153, R155). -/
theorem raiseFor_of_ne_timing {k : LatchKind} (h : k ≠ .stationTiming) :
    raiseFor role k sort number s = respond k role (takeRaising k sort number s) := if_neg fun both => h both.1

/-- Entry to RECOVERY after a raising: suspect marking with the change of line state, drain-pending yes from DRAINING and otherwise kept,
the phase HOLD and the full hold (R157). -/
theorem enterRecovery_takeRaising (cause : Nat) : enterRecovery cause (takeRaising k sort number s) =
    (let marked := suspectAll (setLine .recovery cause (takeRaising k sort number s))
     { marked with line := { marked.line with
        drainPending := s.line.state == .draining || s.line.drainPending, phase := .hold, holdLeft := fullHold s } }) := by
  have drain : (setLine .recovery cause (takeRaising k sort number s)).line.drainPending = s.line.drainPending := by
    obtain ⟨-, -, drain, -⟩ := setLine_record (takeRaising k sort number s) .recovery cause
    rw [drain]
    simp [stoppedLine, takeRaising]
  have profile : fullHold (suspectAll (setLine .recovery cause (takeRaising k sort number s))) = fullHold s := by
    simp only [fullHold, profileOf, suspectAll_frame, setLine_frame, takeRaising_frame]
  simp only [enterRecovery, profile, takeRaising_state, suspectAll_frame, drain]

/-- A recovery kind, or NODE LOST of a station role, takes a drive state to RECOVERY (R155). -/
theorem raiseFor_of_recovery {role : Option Role} {k : LatchKind}
    (h : k ∈ [LatchKind.jam, .driveRate, .chainSlip, .ringBreak, .collationOverrun] ∨
      k = .nodeLost ∧ (role.map stationRole).getD false = true) : raiseFor role k sort number s =
      if driveState s.line.state = true then enterRecovery (latchCode k) (takeRaising k sort number s)
      else takeRaising k sort number s := by
  rcases h with kind | ⟨rfl, station⟩
  · simp only [List.mem_cons, List.not_mem_nil, or_false] at kind
    have isRecovery : recoveryKind k = true := by rcases kind with rfl | rfl | rfl | rfl | rfl <;> rfl
    have anyRole : raiseFor role k sort number s = raise k sort number s := by
      rcases kind with rfl | rfl | rfl | rfl | rfl <;> rfl
    rw [anyRole, raise_recoveryKind isRecovery]
  · have response : raiseFor role .nodeLost sort number s = respondRecovery 6 (takeRaising .nodeLost sort number s) :=
      (raiseFor_of_ne_timing role sort number s (by decide)).trans (if_pos station)
    rw [response, respondRecovery, takeRaising_state]
    rfl

/-- STATION TIMING: RECOVERY from a drive state; with the drive off it is lowered in the same event (R145, R155). -/
theorem raiseFor_stationTiming : raiseFor role .stationTiming sort number s =
    if driveState s.line.state = true then lower .stationTiming (enterRecovery 7 (takeRaising .stationTiming sort number s))
    else if s.pitch.driveEn = true then takeRaising .stationTiming sort number s
    else lower .stationTiming (takeRaising .stationTiming sort number s) := by
  have sameRole : raiseFor role .stationTiming sort number s = raise .stationTiming sort number s := rfl
  rw [sameRole, raise_stationTiming, respondRecovery, takeRaising_state]
  by_cases driving : driveState s.line.state = true
  · rw [if_pos driving, if_pos driving, if_pos (enterRecovery_line ..).2.2.2]
  · rw [if_neg driving, if_neg driving]
    cases on : s.pitch.driveEn <;> simp [on]

/-- ESSENTIAL LOST: LOCKOUT from PRIMING and RUNNING, and from a RECOVERY that did not come from DRAINING (R155, R160). -/
theorem raiseFor_essentialLost : raiseFor role .essentialLost sort number s =
    if s.line.state = .priming ∨ s.line.state = .running ∨ s.line.state = .recovery ∧ s.line.drainPending = false then
      setLine .lockout 10 (takeRaising .essentialLost sort number s)
    else takeRaising .essentialLost sort number s := by
  have drain : (takeRaising .essentialLost sort number s).line.drainPending = s.line.drainPending := by simp [takeRaising]
  have response : raiseFor role .essentialLost sort number s = respondEssential (takeRaising .essentialLost sort number s) :=
    raiseFor_of_ne_timing role sort number s (by decide)
  rw [response, respondEssential, takeRaising_state, drain]
  cases line : s.line.state <;> cases s.line.drainPending <;> simp [latchCode]

/-- GROUP EXHAUSTED: drain-pending in PRIMING and RECOVERY, DRAINING from RUNNING (R152, R155). -/
theorem raiseFor_groupExhausted : raiseFor role .groupExhausted sort number s =
    if s.line.state = .priming ∨ s.line.state = .recovery then
      { takeRaising .groupExhausted sort number s with
        line := { (takeRaising .groupExhausted sort number s).line with drainPending := true } }
    else if s.line.state = .running then setLine .draining 12 (takeRaising .groupExhausted sort number s)
    else takeRaising .groupExhausted sort number s := by
  have response : raiseFor role .groupExhausted sort number s = respondGroup (takeRaising .groupExhausted sort number s) :=
    raiseFor_of_ne_timing role sort number s (by decide)
  rw [response, respondGroup, takeRaising_state]
  cases line : s.line.state <;> simp [latchCode]

/-- The kinds to which no line state responds, NODE LOST of another role among them (R155). -/
theorem raiseFor_of_no_response {role : Option Role} {k : LatchKind} (h : k ∈ [LatchKind.feederFault, .unexpectedMotion, .tableBad] ∨
    k = .nodeLost ∧ ¬(role.map stationRole).getD false = true) : raiseFor role k sort number s = takeRaising k sort number s := by
  rcases h with kind | ⟨rfl, other⟩
  · simp only [List.mem_cons, List.not_mem_nil, or_false] at kind
    rcases kind with rfl | rfl | rfl <;> rfl
  · rw [raiseFor_of_ne_timing role sort number s (by decide)]
    exact if_neg other

end Raise

/-- Settles O19: the latch table by what a raising and a lowering do to one latch, the line by its response to each kind. -/
theorem latchesTakeRaisingsAndLowerings : Obligations.LatchesTakeRaisingsAndLowerings := by
  refine ⟨fun k sort number s => ⟨?_, fun j other => ?_, ?_, ?_, ?_, ?_, ?_, ?_, fun active => ?_, fun idle => ?_, fun j other => ?_,
    ?_, ?_, ?_⟩, fun role k sort number s => ?_⟩
  · rw [latch_takeRaising, if_pos rfl]
    rfl
  · rw [latch_takeRaising, if_neg other]
  · simp [takeRaising]
  · simp
  · simp
  · simp
  · simp
  · simp
  · rw [latch_lower, if_pos ⟨rfl, by simp [up, active]⟩]
  · rw [latch_lower, if_neg (by simp [up, idle])]
  · exact latch_lower_of_ne s other
  · simp
  · simp
  · simp
  · intro t before driving stations recovers marked entered pend
    have drive : (driveState s.line.state = true) = driving := propext (driveState_iff s.line.state)
    have enters : enterRecovery (latchCode k) t = entered := enterRecovery_takeRaising k sort number s (latchCode k)
    refine ⟨fun h => ?_, ?_, fun h => ?_, ?_, ?_⟩
    · have h' := h.imp id fun ⟨lost, station⟩ => And.intro lost ((stationRole_iff role).2 station)
      rw [raiseFor_of_recovery sort number s h', enters]
      simp only [drive]
      rfl
    · rintro rfl
      rw [raiseFor_stationTiming, show enterRecovery 7 _ = entered from enters]
      simp only [drive]
      rfl
    · refine raiseFor_of_no_response sort number s (h.imp id fun ⟨lost, other⟩ => ⟨lost, fun station => ?_⟩)
      obtain ⟨r, mem, is⟩ := (stationRole_iff role).1 station
      exact other r mem is
    · rintro rfl
      exact raiseFor_essentialLost role sort number s
    · rintro rfl
      exact raiseFor_groupExhausted role sort number s

end Sys2Proof.Machine
end

section
/-! The ends of PRIMING, of DRAINING and of PAUSED (O20). -/

namespace Sys2Proof.Machine

/-! ### The reports of counter and meter (R150) -/

/-- What ends PRIMING: the counter valid and eight entries in the meter (R5, R10, R150). -/
abbrev reportsValid (s : State) : Prop := s.pitch.counterValid = true ∧ s.pitch.meter.length = 8

theorem takeReports_of_valid {s : State} (priming : s.line.state = .priming) (valid : reportsValid s) :
    takeReports s = setLine (if s.line.drainPending then .draining else .running) 0
      (putLine { (reported s).line with drainPending := false } (reported s)) := by
  obtain ⟨counter, meter⟩ := valid
  have ends : (reported s).line.state = .priming ∧ (reported s).line.counterValid = true ∧ (reported s).line.meterValid = true :=
    ⟨priming, counter, by simp [reported, meter]⟩
  exact if_pos ends

theorem takeReports_of_not_valid {s : State} (h : s.line.state ≠ .priming ∨ ¬reportsValid s) : takeReports s = reported s := by
  refine if_neg fun ⟨priming, counter, meter⟩ => h.elim (· priming) (· ⟨counter, ?_⟩)
  simpa [meterValid, Config.meterEntries] using meter

/-! ### The clean pitch (R151) -/

theorem cleanPitch_eq (s : State) : cleanPitch s = putLine { s.line with
    clean := if 499 ≤ s.line.clean then 0 else s.line.clean + 1
    retry := if 499 ≤ s.line.clean then 0 else s.line.retry } s := by
  have last : Config.cleanPitches ≤ s.line.clean + 1 ↔ 499 ≤ s.line.clean := by
    simp only [Config.cleanPitches]
    omega
  unfold cleanPitch
  simp only [last]
  split <;> rfl

theorem lineNotice_of_no_clean {n : Notice} {s : State} (h : s.line.state ≠ .running ∨ n.driveOn = false) :
    lineNotice n s = takeReports s := by
  refine if_neg ?_
  rcases h with other | off
  · simp [other]
  · simp [off]

theorem lineNotice_of_clean {n : Notice} {s : State} (running : s.line.state = .running) (on : n.driveOn = true) :
    lineNotice n s = cleanPitch (reported s) := by
  have counted : lineNotice n s = cleanPitch (takeReports s) := if_pos (by simp [running, on])
  rw [counted, takeReports_of_not_priming (by simp [running])]

/-! ### The held flags at the end of an event (R146, R152) -/

/-- A line that is PAUSED or DRAINING holds a set. -/
def StoppingHolds (s : State) : Prop := s.line.state = .paused ∨ s.line.state = .draining → held s = true

theorem settle_of_not_held {s : State} (release : releasePocket s = none) (empty : held s = false)
    (stopping : s.line.state = .paused ∨ s.line.state = .draining) : settle s = setLine .halted 0 s := by
  rw [settle, tryRelease_of_none release]
  exact if_pos ⟨stopping, empty⟩

/-- The judgement at the end of an event leaves a PAUSED or DRAINING line only where it holds a set. -/
theorem settle_stoppingHolds (s : State) : StoppingHolds (settle s) := by
  rw [settle_eq]
  split
  · simp [StoppingHolds]
  · next stays =>
    intro stopping
    rw [← Bool.not_eq_false]
    exact fun empty => stays ⟨stopping, empty⟩

/-- Every receiver's taking of the notice is followed by the judgement, so it holds after the last of them (R4). -/
theorem foldl_receive_stoppingHolds (n : Notice) {order : List Receiver} (nonempty : order ≠ []) (s : State) :
    StoppingHolds (order.foldl (receive n) s) := by
  rw [← List.dropLast_append_getLast nonempty, List.foldl_concat]
  exact settle_stoppingHolds _

theorem handOn_stoppingHolds (n : Notice) {order : List Receiver} (nonempty : order ≠ []) (s : State) :
    StoppingHolds (handOn n order s) :=
  foldl_receive_stoppingHolds n nonempty { s with track := { s.track with due := some n } }

/-! ### A stall entry in PRIMING (R10, R150) -/

/-- With seven entries in the meter a stall entry makes it valid, and with a valid counter PRIMING ends; no speed is checked outside
RUNNING (R10, R12, R150). -/
theorem takeReports_stalled {k : Nat} {s : State} (priming : s.line.state = .priming) (seven : s.pitch.meter.length = 7)
    (counter : s.pitch.counterValid = true) : takeReports (speedCheck (stalled k s)) =
      setLine (if s.line.drainPending then .draining else .running) 0
        (putLine { (reported (stalled k s)).line with drainPending := false } (reported (stalled k s))) := by
  have check : speedCheck (stalled k s) = stalled k s := if_neg fun fast => by simp [stalled, elapse, priming] at fast
  rw [check]
  exact takeReports_of_valid priming ⟨counter, by simp [stalled, joinMeter, seven, Config.meterEntries]⟩

/-- Settles O20: the reports end PRIMING, `settle` ends DRAINING and PAUSED, and a stall entry may do the one and then the other. -/
theorem primingAndDrainingEnd : Obligations.PrimingAndDrainingEnd := by
  refine ⟨fun s => ?_, fun s release => ⟨settle_of_not_held release, fun stays => settle_eq_self release ?_⟩,
    fun n order s high => ⟨_, exec_pitchMark high n order, ?_⟩, fun k s high period priming seven counter empty => ?_⟩
  · intro valid kept
    refine ⟨takeReports_of_valid, takeReports_of_not_valid, fun n => lineNotice_of_no_clean, fun n running on => ?_⟩
    rw [lineNotice_of_clean running on, cleanPitch_eq]
    rfl
  · rintro ⟨stopping, unheld⟩
    rcases stays with holds | ⟨notPaused, notDraining⟩
    · simp [holds] at unheld
    · exact stopping.elim notPaused notDraining
  · have every := (receiverOrder_each_once order).2
    exact handOn_stoppingHolds _ (List.ne_nil_of_mem (every .track)) _
  · let target : LineState := if s.line.drainPending then .draining else .running
    let primed := putLine { (reported (stalled k s)).line with drainPending := false } (reported (stalled k s))
    let moved := setLine target 0 primed
    have ends : takeReports (speedCheck (stalled k s)) = moved := takeReports_stalled priming seven counter
    have state : moved.line.state = target := (setLine_drive primed target 0).1
    have drain : moved.line.drainPending = false := by
      obtain ⟨-, -, drain, -⟩ := setLine_record primed target 0
      exact drain.trans (by simp [primed])
    obtain ⟨tables, stage, track, queue, outcomes⟩ : moved.tables = s.tables ∧ moved.stage = s.stage ∧ moved.track = s.track ∧
        moved.acct.queue = s.acct.queue ∧ moved.outcomes = s.outcomes := by
      simp [moved, primed, reported, stalled, elapse]
    have release : releasePocket moved = none := by simp [releasePocket, stage, empty]
    have same : held moved = held s := held_of stage track
    refine ⟨_, exec_meterStallEntry high period, ?_⟩
    rw [ends]
    by_cases stopping : s.line.drainPending = true ∧ held s = false
    · obtain ⟨pending, unheld⟩ := stopping
      rw [settle_of_not_held release (same.trans unheld) (.inr (state.trans (if_pos pending)))]
      obtain ⟨-, -, halted, -⟩ := setLine_record moved .halted 0
      refine ⟨halted, ?_⟩
      simp [tables, stage, track, queue, outcomes, pending, unheld]
    · rw [settle_eq_self release]
      · refine ⟨drain, tables, stage, track, queue, outcomes, state.trans ?_⟩
        cases pending : s.line.drainPending <;> simp_all [target]
      · rw [state, same]
        cases pending : s.line.drainPending <;> simp_all [target]

end Sys2Proof.Machine
end

section
/-! The clean pitches, and the end of the recovery hold (O22). -/

namespace Sys2Proof.Machine

/-! ### The 500th clean pitch (R151) -/

theorem exec_cleanPitchCountExpiry {s : State} (high : s.pins.resetN = true) :
    exec .cleanPitchCountExpiry s = .next (cleanExpiry s) := run_of_wf high rfl _

/-- In RUNNING with the drive on, the count stands one below its end (R151, log 8). -/
abbrev cleanSpent (s : State) : Prop := s.line.state = .running ∧ s.pitch.driveEn = true ∧ 499 ≤ s.line.clean

theorem cleanExpiry_of_spent {s : State} (h : cleanSpent s) :
    cleanExpiry s = { s with line := { s.line with clean := 0, retry := 0 } } := by
  obtain ⟨running, on, clean⟩ := h
  have last : Config.cleanPitches ≤ s.line.clean + 1 := Nat.succ_le_succ clean
  simp only [cleanExpiry, cleanPitch, running, on, last, and_self, if_true]

theorem cleanExpiry_of_not_spent {s : State} (h : ¬cleanSpent s) : cleanExpiry s = s :=
  if_neg fun ⟨running, on, last⟩ => h ⟨running, on, Nat.le_of_succ_le_succ last⟩

/-! ### The recovery hold's end (R158) -/

theorem exec_recoveryHoldExpiry {s : State} (high : s.pins.resetN = true) :
    exec .recoveryHoldExpiry s = .next (recoveryExpiry s) := run_of_wf high rfl _

/-- The state at the hold's end: the time it had left has passed (R158, log 5). -/
def holdEnded (s : State) : State := elapse s.line.holdLeft s

theorem recoveryExpiry_of_hold {s : State} (hold : s.line.phase = .hold) : recoveryExpiry s = holdExpiry (holdEnded s) := if_pos hold

/-- Time changes the four timers and nothing that the hold's end is judged by. -/
theorem holdEnded_frame (s : State) : recoveryCondition (holdEnded s) = recoveryCondition s ∧ retryLimit (holdEnded s) = retryLimit s ∧
    (holdEnded s).line.state = s.line.state ∧ (holdEnded s).line.retry = s.line.retry ∧
    (∀ k, latch k (holdEnded s) = latch k s) ∧ (holdEnded s).tables = s.tables ∧ (holdEnded s).acct = s.acct ∧
    (holdEnded s).stage = s.stage ∧ (holdEnded s).track = s.track ∧ (holdEnded s).outcomes = s.outcomes :=
  ⟨rfl, rfl, rfl, rfl, fun _ => rfl, rfl, rfl, rfl, rfl, rfl⟩

section Hold

variable {s : State}

theorem holdExpiry_of_condition (condition : recoveryCondition s = true) :
    holdExpiry s = putLine { s.line with phase := .wait, holdLeft := 0 } s := if_pos condition

theorem holdExpiry_of_spent (clear : recoveryCondition s = false) (spent : retryLimit s ≤ s.line.retry) :
    holdExpiry s = pulse .retriesExhausted s := by
  simp only [holdExpiry, clear, Bool.false_eq_true, if_false, spent, if_true]

theorem holdExpiry_of_left (clear : recoveryCondition s = false) (left : s.line.retry < retryLimit s) :
    holdExpiry s = setLine .priming 0 (putLine { s.line with retry := s.line.retry + 1, phase := .none } s) := by
  simp only [holdExpiry, clear, Bool.false_eq_true, if_false, Nat.not_le.2 left]

/-- RETRIES EXHAUSTED raised in RECOVERY takes the line to LOCKOUT (R160). -/
theorem raise_retriesExhausted (recovery : s.line.state = .recovery) (a b : Nat) :
    raise .retriesExhausted a b s = setLine .lockout 11 (takeRaising .retriesExhausted a b s) := by
  have response : raise .retriesExhausted a b s = respond .retriesExhausted none (takeRaising .retriesExhausted a b s) := rfl
  rw [response]
  exact if_pos ((takeRaising_state ..).trans recovery)

/-- RETRIES EXHAUSTED raised and lowered in one event from RECOVERY: LOCKOUT by it, the recovery ended (R153, R158, R160). -/
theorem pulse_retriesExhausted (recovery : s.line.state = .recovery) : (pulse .retriesExhausted s).line.state = .lockout ∧
    (pulse .retriesExhausted s).line.lastCause = 11 ∧ (pulse .retriesExhausted s).line.phase = .none ∧
    (pulse .retriesExhausted s).stage = s.stage ∧ (pulse .retriesExhausted s).track = s.track := by
  let raised := takeRaising .retriesExhausted 0 0 s
  have locked : pulse .retriesExhausted s = lower .retriesExhausted (setLine .lockout 11 raised) := by
    rw [pulse, raise_retriesExhausted recovery]
  obtain ⟨-, cause, -, -, -, -, phase, -⟩ := lower_line (setLine .lockout 11 raised) .retriesExhausted
  obtain ⟨-, cause', -, -, ended, -⟩ := setLine_record raised .lockout 11
  rw [locked, cause, phase]
  exact ⟨by simp, cause', (ended (by decide)).1, by simp [raised], by simp [raised]⟩

end Hold

/-- Settles O22: the clean pitches by the count, the hold's end by the recovery conditions and the retries. -/
theorem retriesAndTheRecoveryHold : Obligations.RetriesAndTheRecoveryHold := by
  refine ⟨fun s high => ⟨fun spent => ?_, fun early => ?_⟩, fun s high => ?_⟩
  · rw [exec_cleanPitchCountExpiry high, cleanExpiry_of_spent spent]
  · rw [exec_cleanPitchCountExpiry high, cleanExpiry_of_not_spent early]
  · obtain ⟨condition, limit, state, retry, latches, tables, acct, stage, track, outcomes⟩ := holdEnded_frame s
    have ends (hold : s.line.phase = .hold) : exec .recoveryHoldExpiry s = .next (holdExpiry (holdEnded s)) := by
      rw [exec_recoveryHoldExpiry high, recoveryExpiry_of_hold hold]
    refine ⟨fun stopped => ?_, fun hold met => ?_, fun hold clear recovery spent => ?_, fun hold clear left => ?_⟩
    · rw [exec_recoveryHoldExpiry high]
      exact congrArg _ (if_neg stopped)
    · rw [ends hold, holdExpiry_of_condition (condition.trans met)]
      rfl
    · obtain ⟨lockout, cause, ended, stage', track'⟩ := pulse_retriesExhausted (state.trans recovery)
      have latched := latch_pulse (k := .retriesExhausted) (by decide) (by decide) (holdEnded s)
      rw [latches] at latched
      refine ⟨_, ends hold, ?_⟩
      rw [holdExpiry_of_spent (condition.trans clear) (by rwa [limit, retry])]
      exact ⟨lockout, cause, ended, by simp [retry], latched, by simp [tables], by simp [acct], stage'.trans stage, track'.trans track,
        by simp [outcomes]⟩
    · let counted := putLine { (holdEnded s).line with retry := (holdEnded s).line.retry + 1, phase := .none } (holdEnded s)
      obtain ⟨priming, on, -⟩ := setLine_drive counted .priming 0
      obtain ⟨prev, cause, drain, -, ended, -, -, search⟩ := setLine_record counted .priming 0
      refine ⟨_, ends hold, ?_⟩
      rw [holdExpiry_of_left (condition.trans clear) (by rwa [limit, retry])]
      exact ⟨priming, prev, cause, (ended (by decide)).1, by simp [retry], drain, on, search, by simp [tables], by simp [acct],
        by simp [stage], by simp [track], by simp [outcomes]⟩

end Sys2Proof.Machine
end

section
/-! START, STOP and CUT (O46). -/

namespace Sys2Proof.Machine

/-! ### The start conditions (R147) -/

/-- In a list numbered entry by entry, the first entry of a property, and its number. -/
theorem find?_of_numbered {α : Type} {number : α → Nat} {p : α → Bool} {l : List α} {before after : List (α × Nat)}
    {x : α} {n : Nat} (split : l.map (fun y => (y, number y)) = before ++ (x, n) :: after)
    (earlier : ∀ q ∈ before, p q.1 = false) (here : p x = true) :
    l.find? p = some x ∧ number x = n := by
  have entries : l = before.map Prod.fst ++ x :: after.map Prod.fst := by
    simpa [Function.comp_def] using congrArg (List.map Prod.fst) split
  have mem : (x, n) ∈ l.map fun y => (y, number y) := split ▸ List.mem_append_right _ List.mem_cons_self
  refine ⟨List.find?_eq_some_iff_append.2 ⟨here, _, _, entries, fun y mem => ?_⟩, ?_⟩
  · obtain ⟨q, inside, rfl⟩ := List.mem_map.1 mem
    simp [earlier q inside]
  · obtain ⟨y, -, same⟩ := List.mem_map.1 mem
    cases same
    rfl

/-- The required tables are VALID (R46). -/
abbrev tablesReady (s : State) : Prop := ∀ t ∈ requiredTables, (s.tables.get t).state = .valid

/-- No blocking latch is ACTIVE or LATCHED (R147). -/
abbrev latchesClear (s : State) : Prop := ∀ k ∈ blockingKinds, (latch k s).state = .idle

section Conditions

variable {s : State}

theorem firstInvalidTable_eq_none : firstInvalidTable s = none ↔ tablesReady s := by
  simp only [firstInvalidTable, List.find?_eq_none, bne_iff_ne, ne_eq, not_not]

theorem blockingLatch_eq_none : blockingLatch s = none ↔ latchesClear s := by
  simp only [blockingLatch, List.find?_eq_none, bne_iff_ne, ne_eq, not_not]

theorem startFailure_of_table {t : TableId} (first : firstInvalidTable s = some t) : startFailure s = some (1, tableNumber t) := by
  simp only [startFailure, first]

theorem startFailure_of_estop (ready : tablesReady s) (asserted : s.pitch.estopAsserted = true) : startFailure s = some (2, 0) := by
  simp only [startFailure, firstInvalidTable_eq_none.2 ready, asserted, if_true]

theorem startFailure_of_released (ready : tablesReady s) (released : s.pitch.estopAsserted = false) :
    startFailure s = (blockingLatch s).map fun k => (3, latchCode k) := by
  simp only [startFailure, firstInvalidTable_eq_none.2 ready, released, Bool.false_eq_true, if_false]

/-- No start condition fails: every required table is VALID, ESTOP_N is released and no blocking latch stands (R147). -/
theorem startFailure_eq_none : startFailure s = none ↔ tablesReady s ∧ s.pitch.estopAsserted = false ∧ latchesClear s := by
  by_cases ready : tablesReady s
  · cases estop : s.pitch.estopAsserted with
    | true => simp [startFailure_of_estop ready estop]
    | false => simp only [startFailure_of_released ready estop, Option.map_eq_none_iff, blockingLatch_eq_none,
      iff_true_intro ready, true_and]
  · obtain ⟨t, first⟩ := Option.ne_none_iff_exists'.1 (mt firstInvalidTable_eq_none.1 ready)
    simp [startFailure_of_table first, ready]

end Conditions

/-! ### START by the line state (R147) -/

theorem startData_eq (l : LineState) (f : Option (Nat × Nat)) : startData l f =
    [BitVec.ofNat 8 (lineCode l), BitVec.ofNat 8 (f.getD (0, 0)).1, BitVec.ofNat 8 (f.getD (0, 0)).2] := by
  simp only [startData, beBytes_one, List.cons_append, List.nil_append]

section Start

variable (c : Cell) {s : State}

theorem startHandler_of_stopped (stopped : s.line.state = .halted ∨ s.line.state = .paused) (good : startFailure s = none) :
    startHandler c s = (startLine s, one .accepted (startData .priming none)) := by
  rcases stopped with line | line <;> simp only [startHandler, line, good]

theorem startHandler_of_draining (line : s.line.state = .draining) (good : startFailure s = none) :
    startHandler c s = (settle (setLine .running 0 s), one .accepted (startData .running none)) := by
  simp only [startHandler, line, good]

theorem startHandler_of_failure {f : Nat × Nat}
    (able : s.line.state = .halted ∨ s.line.state = .paused ∨ s.line.state = .draining) (failure : startFailure s = some f) :
    startHandler c s = (s, one .state (startData s.line.state (some f))) := by
  rcases able with line | line | line <;> simp only [startHandler, line, failure]

theorem startHandler_of_started (started : s.line.state = .priming ∨ s.line.state = .running) :
    startHandler c s = (s, one .accepted (startData s.line.state (startFailure s))) := by
  rcases started with line | line <;> simp only [startHandler, line]

theorem startHandler_of_barred (barred : s.line.state = .recovery ∨ s.line.state = .lockout) :
    startHandler c s = (s, one .state (startData s.line.state none)) := by
  rcases barred with line | line <;> simp only [startHandler, line]

end Start

/-- The conditions of START rest on the tables, ESTOP_N as taken and the latches: a request's leaving its queue changes none (R25). -/
theorem startFailure_handed (c : Cell) (s : State) : startFailure (handed c s) = startFailure s := rfl

/-- Without a READY set or an entry vacancy there is no release (R87). -/
theorem releasePocket_of_empty {s : State} (h : s.stage.ready = none ∨ s.stage.vacancy = none) : releasePocket s = none := by
  unfold releasePocket
  split
  · next ready vacancy => simp [ready, vacancy] at h
  · rfl

theorem exec_start {c : Cell} {s u : State} {code : ResultCode} {l : LineState} {f : Option (Nat × Nat)} (takes : Takes 0x3B c s)
    (handler : startHandler c (handed c s) = (u, one code (startData l f))) : exec .start s = .next (replied c code
      [BitVec.ofNat 8 (lineCode l), BitVec.ofNat 8 (f.getD (0, 0)).1, BitVec.ofNat 8 (f.getD (0, 0)).2] u) :=
  run_request_of_handler takes (handler.trans (by rw [startData_eq]))

/-! ### STOP and CUT by the line state (R148, R149) -/

section StopCut

variable {c : Cell} {s u : State} {l : LineState}

theorem exec_stop (takes : Takes 0x3C c s) (effect : stopLine (handed c s) = u) (after : u.line.state = l) : exec .stop s =
    .next (replied c .accepted [BitVec.ofNat 8 (lineCode s.line.state), BitVec.ofNat 8 (lineCode l)] u) :=
  run_request_of_handler takes (by rw [stopHandler, effect, beforeAfter, beBytes_one, beBytes_one, after]; rfl)

theorem exec_cut (takes : Takes 0x3D c s) (effect : cutLine (handed c s) = u) (after : u.line.state = l) : exec .cut s =
    .next (replied c .accepted [BitVec.ofNat 8 (lineCode s.line.state), BitVec.ofNat 8 (lineCode l)] u) :=
  run_request_of_handler takes (by rw [cutHandler, effect, beforeAfter, beBytes_one, beBytes_one, after]; rfl)

/-- A STOP drains a line in PRIMING, with drain-pending no, or in RUNNING, and judges the drain at once (R148, R152). -/
theorem stopLine_of_started {t : State} (h : s.line.state = .priming ∧ t = putLine { s.line with drainPending := false } s ∨
    s.line.state = .running ∧ t = s) : stopLine s = settle (setLine .draining 0 t) := by
  rcases h with ⟨line, rfl⟩ | ⟨line, rfl⟩ <;> simp only [stopLine, line]

theorem stopLine_of_barred (h : s.line.state = .recovery ∨ s.line.state = .lockout) : stopLine s = setLine (stoppedState s) 0 s := by
  rcases h with line | line <;> simp only [stopLine, line]

theorem stopLine_of_stopping (h : s.line.state = .draining ∨ s.line.state = .halted ∨ s.line.state = .paused) : stopLine s = s := by
  rcases h with line | line | line <;> simp only [stopLine, line]

/-- A CUT marks the sets of a line in a drive state suspect and stops it (R149). -/
theorem cutLine_of_driving (h : s.line.state = .priming ∨ s.line.state = .running ∨ s.line.state = .draining) :
    cutLine s = setLine (stoppedState s) 0 (suspectAll s) := by
  rcases h with line | line | line <;> simp only [cutLine, line, stoppedState_suspectAll]

theorem cutLine_of_recovery (h : s.line.state = .recovery) : cutLine s = setLine (stoppedState s) 0 s := by simp only [cutLine, h]

theorem cutLine_of_stopped (h : s.line.state = .halted ∨ s.line.state = .paused ∨ s.line.state = .lockout) : cutLine s = s := by
  rcases h with line | line | line <;> simp only [cutLine, line]

end StopCut

/-- Settles O46: START by its conditions, STOP and CUT by the line state; the end of a drain is `settle`'s. -/
theorem requestsOfTheLineState : Obligations.RequestsOfTheLineState := by
  refine ⟨fun c s takes => ?_, fun c s => ?_⟩
  · intro data good
    have iff : good ↔ startFailure s = none := startFailure_eq_none.symm
    have passes (ok : good) : startFailure (handed c s) = none := (startFailure_handed c s).trans (iff.1 ok)
    have draining (ok : good) (line : s.line.state = .draining) :
        exec .start s = .next (replied c .accepted (data .running (0, 0)) (settle (setLine .running 0 (handed c s)))) :=
      exec_start (f := none) takes (startHandler_of_draining (s := handed c s) c line (passes ok))
    refine ⟨iff, fun ok stopped => exec_start (f := none) takes (startHandler_of_stopped (s := handed c s) c stopped (passes ok)),
      draining, fun ok line empty => ?_, fun f failure able => exec_start (f := some f) takes
        (startHandler_of_failure (s := handed c s) c able ((startFailure_handed c s).trans failure)),
      fun started => exec_start (f := startFailure s) takes (startHandler_of_started (s := handed c s) c started),
      fun barred => exec_start (f := none) takes (startHandler_of_barred (s := handed c s) c barred),
      fun before after i n split earlier here => ?_, fun ready => ⟨startFailure_of_estop ready, fun released before after k n => ?_⟩⟩
    · have stays : settle (setLine .running 0 (handed c s)) = setLine .running 0 (handed c s) :=
        settle_eq_self (releasePocket_of_empty (by simpa [handed] using empty)) (by simp)
      rw [draining ok line, stays]
    · obtain ⟨first, rfl⟩ := find?_of_numbered (l := requiredTables) (number := tableNumber)
        (p := fun t => (s.tables.get t).state != .valid) split (fun q mem => by simp [earlier q mem]) (by simp [here])
      exact startFailure_of_table first
    · intro split earlier here
      obtain ⟨first, rfl⟩ := find?_of_numbered (l := blockingKinds) (number := latchCode)
        (p := fun k => (latch k s).state != .idle) split (fun q mem => by simp [earlier q mem]) (by simp [here])
      rw [startFailure_of_released ready released, blockingLatch, first]
      rfl
  · intro data
    have becomes (n : LineState) (u : State) : (setLine n 0 u).line.state = n := (setLine_drive u n 0).1
    refine ⟨fun takes => ⟨fun t h => exec_stop takes (stopLine_of_started h) rfl, fun t h empty => ?_,
        fun h => exec_stop takes (stopLine_of_barred (s := handed c s) h) (becomes ..),
        fun h => exec_stop takes (stopLine_of_stopping (s := handed c s) h) rfl⟩,
      fun takes => ⟨fun h => exec_cut takes (cutLine_of_driving (s := handed c s) h) (becomes ..), fun h => ?_,
        fun h => exec_cut takes (cutLine_of_stopped (s := handed c s) h) rfl⟩, rfl⟩
    · have stage : t.stage = s.stage := by rcases h with ⟨-, rfl⟩ | ⟨-, rfl⟩ <;> rfl
      have track : t.track = s.track := by rcases h with ⟨-, rfl⟩ | ⟨-, rfl⟩ <;> rfl
      have same : held (setLine .draining 0 t) = held s := held_of (by simp [stage]) (by simp [track])
      have release : releasePocket (setLine .draining 0 t) = none := releasePocket_of_empty (by simpa [stage] using empty)
      have drains := stopLine_of_started (s := handed c s) h
      exact ⟨fun holds => exec_stop takes (drains.trans (settle_of_held release (same.trans holds))) (becomes ..),
        fun unheld => exec_stop takes (drains.trans (settle_of_not_held release (same.trans unheld) (.inr (becomes ..)))) (becomes ..)⟩
    · have cut := exec_cut takes (cutLine_of_recovery (s := handed c s) h) (becomes ..)
      rwa [h] at cut

end Sys2Proof.Machine
end

section
/-! The outcome queue, its run counters and FETCH (O49). -/

namespace Sys2Proof.Machine

/-! ### A record joins the outcome queue (R163, R164, R168) -/

/-- The run counters after one event for each counter of a list (R168). -/
def countedAll (l : List Nat) (v : Vector Nat 31) : Vector Nat 31 :=
  l.foldl (fun v n => vmod v (n - 1) (satInc Config.counterMax)) v

/-- The outcome queue after a record has joined it: behind the newest record, and counted (R163, R168). -/
def Outcomes.joined (o : Outcomes) (r : Record) : Outcomes :=
  { o with recs := o.recs ++ [r], counters := countedAll (recordCounters r) o.counters }

theorem foldl_bumpRun_eq (l : List Nat) (s : State) : l.foldl (fun s n => bumpRun n s) s =
    { s with outcomes := { s.outcomes with counters := countedAll l s.outcomes.counters } } := by
  induction l generalizing s with
  | nil => rfl
  | cons n l ih => exact ih (bumpRun n s)

theorem recorded_eq (r : Record) (s : State) : recorded r s = { s with outcomes := s.outcomes.joined r } := foldl_bumpRun_eq _ _

@[simp] theorem length_joined (o : Outcomes) (r : Record) : (o.joined r).recs.length = o.recs.length + 1 := by
  simp [Outcomes.joined]

/-- Below and above the queue level a record asks for no notice (R164). -/
theorem writeRecord_of_not_level {r : Record} {s : State} (other : s.outcomes.recs.length + 1 ≠ 384) :
    writeRecord r s = { s with outcomes := s.outcomes.joined r } := by
  rw [writeRecord_eq, recorded_eq, length_joined]
  exact if_neg other

/-- The record that brings the occupancy to 384 asks for QUEUE LEVEL (R164). -/
theorem writeRecord_of_level {r : Record} {s : State} (level : s.outcomes.recs.length + 1 = 384) :
    writeRecord r s = notice 4 [1, 128] { s with outcomes := s.outcomes.joined r } := by
  rw [writeRecord_eq, recorded_eq, length_joined, level]
  rfl

/-- A counter is increased by an event of its own number only (R168). -/
theorem vget_countedAll {l : List Nat} (once : l.Nodup) (numbered : ∀ m ∈ l, 1 ≤ m) {n : Nat} (low : 1 ≤ n) (high : n ≤ 31)
    (v : Vector Nat 31) : vget (countedAll l v) (n - 1) =
      if n ∈ l then satInc Config.counterMax (vget v (n - 1)) else vget v (n - 1) := by
  induction l generalizing v with
  | nil => rfl
  | cons m l ih =>
    obtain ⟨new, once⟩ := List.nodup_cons.1 once
    obtain ⟨first, numbered⟩ := List.forall_mem_cons.1 numbered
    have step : countedAll (m :: l) v = countedAll l (vmod v (m - 1) (satInc Config.counterMax)) := rfl
    rw [step, ih once numbered, vget_vmod _ _ _ _ (by omega)]
    by_cases same : n = m
    · simp [same, new]
    · simp [same, show m - 1 ≠ n - 1 by omega]

theorem recordCounters_nodup_pos (r : Record) : (recordCounters r).Nodup ∧ ∀ m ∈ recordCounters r, 1 ≤ m := by
  unfold recordCounters
  split <;> decide

/-- A joining record increases the counters of its kind, each saturating (R168). -/
theorem vget_joined {n : Nat} (low : 1 ≤ n) (high : n ≤ 31) (o : Outcomes) (r : Record) : vget (o.joined r).counters (n - 1) =
    if n ∈ recordCounters r then satInc Config.counterMax (vget o.counters (n - 1)) else vget o.counters (n - 1) :=
  have ⟨once, numbered⟩ := recordCounters_nodup_pos r
  vget_countedAll once numbered low high o.counters

/-! ### FETCH and the placing of its items (R167) -/

theorem fetchHandler_of_empty {c : Cell} {s : State} (empty : s.outcomes.recs = []) : fetchHandler c s = (s, one .accepted []) := by
  simp [fetchHandler, empty]

/-- A FETCH with records to send fixes its number of items and leaves its replies to REPLY_PLACE (R167, log 10). -/
theorem fetchHandler_of_records {c : Cell} {s : State} (records : s.outcomes.recs ≠ []) : fetchHandler c s =
    (putDispatcher { s.loop.dispatcher with
      fetch := some { dest := c.src.toNat, tag := c.tag, left := min s.outcomes.recs.length 8 } } s, []) := by
  have some : 0 < s.outcomes.recs.length := List.length_pos_iff.2 records
  exact if_neg (show min s.outcomes.recs.length 8 ≠ 0 by omega)

/-- An answer of no item leaves nothing waiting at the dispatcher (R25). -/
theorem answer_nil (c : Cell) (s : State) : answer c [] s = putDispatcher { s.loop.dispatcher with waiting := [] } s := rfl

/-- The item of a FETCH: the last-item flag on the final one, and the record's bytes (R27, R167). -/
theorem replyCell_item (j : FetchJob) (r : Record) : replyCell j.dest j.tag (j.next == none) (.accepted, recordBytes r) =
    ownCell j.dest 0x50 j.tag ((if j.left ≤ 1 then 128 else 0) :: padTo 13 (recordBytes r)) := by
  by_cases more : 1 < j.left
  · simp [replyCell, FetchJob.next, more, Nat.not_le.2 more, resultNumber]
  · simp [replyCell, FetchJob.next, more, Nat.not_lt.1 more, resultNumber]

/-- While a FETCH is served and there is room, the oldest record leaves the queue as the data of a REPLY (R167). -/
theorem replyPlace_of_fetch {s : State} {j : FetchJob} {r : Record} {rest : List Record} (room : s.loop.replies.length < 8)
    (waiting : s.loop.dispatcher.waiting = []) (fetch : s.loop.dispatcher.fetch = some j) (recs : s.outcomes.recs = r :: rest) :
    replyPlace s = { s with
      outcomes := { s.outcomes with recs := rest, fetched := (s.outcomes.fetched + 1) % 4294967296 }
      loop := LoopIf.start { s.loop with
        replies := s.loop.replies ++ [ownCell j.dest 0x50 j.tag ((if j.left ≤ 1 then 128 else 0) :: padTo 13 (recordBytes r))]
        dispatcher := { s.loop.dispatcher with fetch := j.next } } } := by
  have kept (c : Cell) : (s.loop.reply c).dispatcher = s.loop.dispatcher := reply_dispatcher c s.loop
  have places : replyPlace s = placeRecord j s := by
    simp only [replyPlace, Config.replyCapacity, room, if_true, waiting, fetch]
  rw [places, start_dispatcher { s.loop with replies := s.loop.replies ++
    [ownCell j.dest 0x50 j.tag ((if j.left ≤ 1 then 128 else 0) :: padTo 13 (recordBytes r))] }]
  simp only [placeRecord, recs, putDispatcher, kept, replyCell_item]
  rfl

/-! ### The layouts of the records (02, "Outcome and tray records") -/

/-- Bytes 1 to 5 of a PURGED or a LOST record: the set it was, and its place (02, "Outcome and tray records"). -/
def setBytes (b : Binding) (second : Bool) : List Byte :=
  beBytes 3 (bindingSeq b) ++ [BitVec.ofNat 8 (strayFlags b), if second = true then 2 else 1]

theorem recordBytes_purged (b : Binding) (second : Bool) : recordBytes (.purged b second) = 6 :: setBytes b second := by
  cases second <;> simp [recordBytes, setBytes, beBytes_one, bit]

theorem recordBytes_lost (b : Binding) (second : Bool) : recordBytes (.lost b second) = 7 :: setBytes b second := by
  cases second <;> simp [recordBytes, setBytes, beBytes_one, bit]

theorem recordBytes_tray (g : Nat) (why : TrayCause) (b t n f l : Nat) : recordBytes (.tray g why b t n f l) =
    [8, BitVec.ofNat 8 (g + 64 * trayCauseCode why)] ++
      ([BitVec.ofNat 8 b] ++ beBytes 2 t ++ beBytes 2 n ++ beBytes 3 f ++ beBytes 3 l) := by
  simp [recordBytes, beBytes_one]

theorem recordBytes_stray (o : Option Nat) (k : Bool) (why : Reason) (n : Nat) : recordBytes (.stray o k why n) =
    [4] ++ beBytes 3 (o.getD 0) ++
      [(if o.isSome = true then 1 else 0) + (if k = true then 2 else 0), BitVec.ofNat 8 (reasonCode why), BitVec.ofNat 8 n] := by
  cases o <;> cases k <;> simp [recordBytes, beBytes_one, bit]

/-- Settles O49: a record's joining by the occupancy it makes, FETCH by whether records stand, and the layouts by the record's kind. -/
theorem recordsAreQueuedCountedAndFetched : Obligations.RecordsAreQueuedCountedAndFetched := by
  refine ⟨fun r s => ⟨(s.outcomes.joined r).counters, fun n low high => ?_, writeRecord_of_not_level, writeRecord_of_level⟩,
    fun c s takes => ⟨fun empty => ?_, fun records => ?_⟩, fun s j r rest high room waiting fetch recs => ?_,
    fun seq g b t p k => ?_, fun seq g => ?_, fun seq why n k => ?_, recordBytes_stray, fun seq => ?_, fun second => ?_,
    fun g b t n f l => ?_, rfl⟩
  · rw [vget_joined low high, ite_and]
    rfl
  · exact run_request_of_handler takes (fetchHandler_of_empty (s := handed c s) empty)
  · have idle : (handed c s).loop.dispatcher = Dispatcher.idle := takes.idle
    have handler := fetchHandler_of_records (c := c) (s := handed c s) records
    exact (request_of_takes takes fetchHandler).trans (by rw [handler, answer_nil, idle]; rfl)
  · exact (exec_replyPlace high).trans (congrArg _ (replyPlace_of_fetch room waiting fetch recs))
  · simp [recordBytes, beBytes_one, flagByte]
  · exact ⟨by simp [recordBytes, beBytes_one, heldCode], by simp [recordBytes, beBytes_one, heldCode]⟩
  · simp [recordBytes, beBytes_one, flagByte]
  · simp [recordBytes, beBytes_one, missingCode]
  · have layouts (b : Binding) := And.intro (recordBytes_purged b second) (recordBytes_lost b second)
    simp [layouts, setBytes, bindingSeq, strayFlags]
  · simp [recordBytes_tray, trayCauseCode]

end Sys2Proof.Machine
end

section
/-! CLEAR RUN (O50). -/

namespace Sys2Proof.Machine

/-! ### The records that a run clear writes (R163, R168, R170) -/

/-- The outcome queue after records have joined it one after the other (R163). -/
def Outcomes.joinedAll (o : Outcomes) (rs : List Record) : Outcomes := rs.foldl Outcomes.joined o

theorem joinedAll_append (o : Outcomes) (rs rs' : List Record) : o.joinedAll (rs ++ rs') = (o.joinedAll rs).joinedAll rs' :=
  List.foldl_append

theorem joinedAll_recs (o : Outcomes) (rs : List Record) : (o.joinedAll rs).recs = o.recs ++ rs := by
  induction rs generalizing o with
  | nil => exact (List.append_nil _).symm
  | cons r rs ih => exact (ih (o.joined r)).trans (List.append_assoc ..)

theorem joinedAll_fetched (o : Outcomes) (rs : List Record) : (o.joinedAll rs).fetched = o.fetched := by
  induction rs generalizing o with
  | nil => rfl
  | cons r rs ih => exact ih (o.joined r)

theorem satInc_min (top n : Nat) : satInc top (min top n) = min top (n + 1) := by
  unfold satInc
  split <;> omega

/-- Counted from 0, a run counter holds the number of its events, saturating (R168). -/
theorem vget_joinedAll {k : Nat} (low : 1 ≤ k) (high : k ≤ 31) (o : Outcomes) (rs : List Record) {n : Nat}
    (before : vget o.counters (k - 1) = min Config.counterMax n) : vget (o.joinedAll rs).counters (k - 1) =
      min Config.counterMax (n + rs.countP fun r => k ∈ recordCounters r) := by
  induction rs generalizing o n with
  | nil => exact before
  | cons r rs ih =>
    have joined := vget_joined low high o r
    rw [before] at joined
    by_cases counts : k ∈ recordCounters r
    · rw [if_pos counts, satInc_min] at joined
      rw [List.countP_cons_of_pos (by simpa using counts)]
      exact (ih (o.joined r) joined).trans (by omega)
    · rw [if_neg counts] at joined
      rw [List.countP_cons_of_neg (by simpa using counts)]
      exact ih (o.joined r) joined

theorem writeRecord_outcomes (r : Record) (s : State) : (writeRecord r s).outcomes = s.outcomes.joined r := by
  by_cases level : s.outcomes.recs.length + 1 = 384
  · simp [writeRecord_of_level level]
  · simp [writeRecord_of_not_level level]

/-! ### The stage (R90) -/

/-- The PURGED record of a set (R90, R109). -/
def purgedOf (onTrack : Bool) (x : SetRec) : Record := .purged x.binding onTrack

/-- The PURGED records of the stage: release slot first (R90). -/
def stagePurged (s : State) : List Record := (s.stage.ready.toList ++ s.stage.assembly.toList).map (purgedOf false)

theorem purgeSlot_outcomes (x : Option SetRec) (s : State) :
    (purgeSlot x s).outcomes = s.outcomes.joinedAll (x.toList.map (purgedOf false)) := by
  cases x with
  | none => rfl
  | some x => exact writeRecord_outcomes ..

theorem stageRunClear_stage (s : State) : (stageRunClear s).stage = Stage.cold := by simp [stageRunClear]

theorem stageRunClear_outcomes (s : State) : (stageRunClear s).outcomes = s.outcomes.joinedAll (stagePurged s) := by
  rw [stagePurged, List.map_append, joinedAll_append]
  simp [stageRunClear, purgeSlot_outcomes]

/-! ### The track (R109) -/

/-- A record as at its creation, with its pocket number (R109). -/
def PocketRec.fresh (r : PocketRec) : PocketRec := newPocket r.pocket

/-- The PURGED records of a run of positions: the highest position first (R109). -/
def trackPurged (recs : List PocketRec) : List Record := (recs.reverse.filterMap (·.content)).map (purgedOf true)

theorem purgeAt_of_record {p : Nat} {r : PocketRec} {s : State} (here : s.track.recs[p]? = some r) :
    (purgeAt s p).track = { s.track with recs := s.track.recs.modify p PocketRec.fresh } ∧
      (purgeAt s p).outcomes = s.outcomes.joinedAll (r.content.toList.map (purgedOf true)) := by
  have held : pocketAt p s = some r := here
  cases content : r.content with
  | none =>
    simp only [purgeAt, held, content]
    exact ⟨rfl, rfl⟩
  | some x =>
    simp only [purgeAt, held, content, writeRecord_outcomes, writeRecord_frame]
    exact ⟨rfl, rfl⟩

/-- The purge of the positions up to a place, in descending order (R109). -/
theorem purge_below (l rest : List PocketRec) {s : State} (recs : s.track.recs = l ++ rest) :
    ((List.range l.length).reverse.foldl purgeAt s).track = { s.track with recs := l.map PocketRec.fresh ++ rest } ∧
    ((List.range l.length).reverse.foldl purgeAt s).outcomes = s.outcomes.joinedAll (trackPurged l) := by
  induction l using List.reverseRecOn generalizing s rest with
  | nil => exact ⟨by rw [List.map_nil, ← recs]; rfl, rfl⟩
  | append_singleton l r ih =>
    have here : s.track.recs[l.length]? = some r := by simp [recs]
    have purged : s.track.recs.modify l.length PocketRec.fresh = l ++ r.fresh :: rest := by
      simp [recs, modify_eq_set]
    obtain ⟨track, outcomes⟩ := purgeAt_of_record here
    obtain ⟨track', outcomes'⟩ := ih (r.fresh :: rest) (s := purgeAt s l.length) (by rw [track, purged])
    have top : (List.range (l ++ [r]).length).reverse = l.length :: (List.range l.length).reverse := by simp [List.range_succ]
    have first : trackPurged (l ++ [r]) = r.content.toList.map (purgedOf true) ++ trackPurged l := by
      cases content : r.content <;> simp [trackPurged, content]
    rw [top, List.foldl_cons, track', outcomes', track, outcomes, first, joinedAll_append]
    exact ⟨by simp, rfl⟩

theorem trackRunClear_track (s : State) : (trackRunClear s).track =
    { s.track with recs := s.track.recs.map PocketRec.fresh, envCount := 0, calCount := 0, gateCount := 0, sortCount := 0 } := by
  obtain ⟨track, -⟩ := purge_below s.track.recs [] (List.append_nil _).symm
  simp only [trackRunClear, track, List.append_nil]

theorem trackRunClear_outcomes (s : State) :
    (trackRunClear s).outcomes = s.outcomes.joinedAll (trackPurged s.track.recs) :=
  have ⟨_, outcomes⟩ := purge_below s.track.recs [] (List.append_nil _).symm
  outcomes

/-! ### The line (R146) -/

/-- The stages 1 to 3 of a run clear: the counters, the stage and the track (R170). -/
def purgedLine (s : State) : State :=
  trackRunClear (stageRunClear { s with outcomes := { s.outcomes with counters := Vector.replicate 31 0 } })

theorem runClear_eq (s : State) : runClear s =
    (clearRest (presortRunClear (judgeHeld (purgedLine s))).1, (presortRunClear (judgeHeld (purgedLine s))).2) := rfl

theorem held_purgedLine (s : State) : held (purgedLine s) = false := by
  have empty (r : PocketRec) : r.fresh.content.isSome = false := rfl
  simp [held, stageHeld, trackHeld, purgedLine, trackRunClear_track, stageRunClear_stage, Stage.cold, empty, Function.comp_def]

/-- A line with no set held goes from PAUSED to HALTED (R146). -/
theorem judgeHeld_of_paused {s : State} (paused : s.line.state = .paused) (empty : held s = false) :
    judgeHeld s = setLine .halted 0 s := if_pos ⟨.inl paused, empty⟩

theorem judgeHeld_of_halted {s : State} (halted : s.line.state = .halted) : judgeHeld s = s := if_neg (by simp [halted])

/-! ### The trays (R131, R144) -/

/-- Every OPEN bin closes at a run clear (R144). -/
def everyBin : Nat → State → Bool := fun _ _ => true

/-- The OPEN bins, in ascending number. -/
def openBins (s : State) : List Nat := allBins.filter fun b => (binRec b s).state == .opened

theorem openPicked_everyBin (s : State) : openPicked everyBin allBins s = openBins s := by simp [openPicked, everyBin, openBins]

/-- The outcome queue after trays have been closed is the queue before with some records joined; `TraysClosed` says which (R131). -/
theorem closeBins_joinedAll (cause : TrayCause) (pick : Nat → State → Bool) (l : List Nat) (s : State) :
    ∃ rs, (closeBins cause pick l s).1.outcomes = s.outcomes.joinedAll rs := by
  induction l generalizing s with
  | nil => exact ⟨[], rfl⟩
  | cons b l ih =>
    by_cases here : (binRec b s).state = .opened ∧ pick b s = true
    · obtain ⟨rs, rest⟩ := ih (closeTray b cause .full s)
      refine ⟨trayRecord cause b s :: rs, ?_⟩
      simp only [closeBins, if_pos here, rest]
      exact congrArg (Outcomes.joinedAll · rs) (writeRecord_outcomes ..)
    · simpa only [closeBins, if_neg here] using ih s

theorem vget_vmap {α : Type} [Inhabited α] {n i : Nat} (f : α → α) (v : Vector α n) (h : i < n) : vget (vmap f v) i = f (vget v i) := by
  simp [vget, vmap, h]

/-- The TRAY records of a run clear: each OPEN bin in ascending number (R144). -/
def clearedTrays (s : State) : List Record := (openBins s).map (trayRecord .runClear · s)

/-- Replace the group records. -/
def putGroups (v : Vector GroupRec 64) (s : State) : State := { s with presort := { s.presort with groups := v } }

theorem putGroups_line (v : Vector GroupRec 64) (s : State) : (putGroups v s).line = s.line := rfl

/-- The group records at their run-clear values (R144). -/
def clearedGroups (s : State) : Vector GroupRec 64 := vmap GroupRec.cleared s.presort.groups

/-- The Presort Unit's part of a run clear closes every OPEN bin, into a state t, then clears the groups and lowers GROUP
EXHAUSTED (R144). -/
theorem presortRunClear_spec (s : State) : ∃ t, TraysClosed .runClear (openBins s) s t ∧
    t.outcomes = s.outcomes.joinedAll (clearedTrays s) ∧
    presortRunClear s = (lower .groupExhausted (putGroups (clearedGroups s) t), (openBins s).length) := by
  have ⟨closed, count⟩ := closeBins_traysClosed .runClear (pick := everyBin) (fun _ _ _ _ => rfl) allBins s (by decide) allBins_inside
  obtain ⟨rs, joined⟩ := closeBins_joinedAll .runClear everyBin allBins s
  obtain ⟨⟨t, n⟩, closes⟩ : ∃ r, closeBins .runClear everyBin allBins s = r := ⟨_, rfl⟩
  rw [closes, openPicked_everyBin] at closed count
  rw [closes] at joined
  have recs := closed.recs
  rw [joined, joinedAll_recs, List.append_cancel_left_eq] at recs
  have groups : t.presort.groups = s.presort.groups := closed.groups
  refine ⟨t, closed, by rw [joined, recs, clearedTrays], ?_⟩
  unfold everyBin at closes
  simp only [presortRunClear, closes, putGroups, clearedGroups, groups, count]

/-! ### The whole run clear (R170) -/

/-- The trays to close rest on the Presort Unit's state only. -/
theorem openBins_congr {s t : State} (presort : t.presort = s.presort) : openBins t = openBins s := by
  simp only [openBins, binRec, presort]

theorem clearedTrays_congr {s t : State} (presort : t.presort = s.presort) : clearedTrays t = clearedTrays s := by
  simp only [clearedTrays, openBins_congr presort, trayRecord, ownerOf, groupRec, binRec, presort]

/-- The records of a run clear, in the order of its stages (R170). -/
def runClearRecords (s : State) : List Record := stagePurged s ++ trackPurged s.track.recs ++ clearedTrays s

section RunClear

variable (s : State)

theorem judged_presort : (judgeHeld (purgedLine s)).presort = s.presort := by simp [purgedLine]

theorem judged_track : (judgeHeld (purgedLine s)).track =
    { s.track with recs := s.track.recs.map PocketRec.fresh, envCount := 0, calCount := 0, gateCount := 0, sortCount := 0 } := by
  simp [purgedLine, trackRunClear_track]

/-- The run clear by its stages: the sets are purged and the line judged, then the trays are closed into a state t (R170). -/
theorem runClear_spec : ∃ t, TraysClosed .runClear (openBins s) (judgeHeld (purgedLine s)) t ∧
    t.outcomes = Outcomes.joinedAll { s.outcomes with counters := Vector.replicate 31 0 } (runClearRecords s) ∧
    runClear s = (clearRest (lower .groupExhausted (putGroups (clearedGroups s) t)), (openBins s).length) := by
  obtain ⟨t, closed, outcomes, clears⟩ := presortRunClear_spec (judgeHeld (purgedLine s))
  have groups : clearedGroups (judgeHeld (purgedLine s)) = clearedGroups s := by simp only [clearedGroups, judged_presort]
  rw [openBins_congr (judged_presort s)] at closed clears
  rw [clearedTrays_congr (judged_presort s)] at outcomes
  refine ⟨t, closed, ?_, by rw [runClear_eq, clears, groups]⟩
  rw [outcomes, runClearRecords, joinedAll_append, joinedAll_append]
  simp only [judgeHeld_frame, purgedLine, trackRunClear_outcomes, stageRunClear_outcomes, stageRunClear_frame]
  rfl

theorem runClear_outcomes : (runClear s).1.outcomes =
    Outcomes.joinedAll { s.outcomes with counters := Vector.replicate 31 0 } (runClearRecords s) := by
  obtain ⟨t, -, outcomes, clears⟩ := runClear_spec s
  rw [clears, ← outcomes]
  simp [clearRest, putGroups]

/-- A run counter after a run clear: 0, and counted for the PURGED and TRAY records written (R168, R170). -/
theorem runClear_counters {k : Nat} (low : 1 ≤ k) (high : k ≤ 31) : vget (runClear s).1.outcomes.counters (k - 1) =
    if k = 6 then min 4294967295 ((stagePurged s).length + (trackPurged s.track.recs).length)
    else if k = 10 then (openBins s).length else 0 := by
  have zero : vget (Vector.replicate 31 0) (k - 1) = min Config.counterMax 0 := vget_replicate 0 (by omega)
  have purged (b : Bool) (l : List SetRec) : (l.map (purgedOf b)).countP (fun r => k ∈ recordCounters r) =
      if k = 6 then l.length else 0 := by
    by_cases six : k = 6 <;> simp [List.countP_map, Function.comp_def, purgedOf, recordCounters, six]
  have trays : (clearedTrays s).countP (fun r => k ∈ recordCounters r) = if k = 10 then (openBins s).length else 0 := by
    by_cases ten : k = 10 <;> simp [clearedTrays, List.countP_map, Function.comp_def, trayRecord, recordCounters, ten]
  have few : (openBins s).length ≤ 16 := List.length_filter_le ..
  rw [runClear_outcomes, vget_joinedAll low high _ _ zero, runClearRecords, List.countP_append, List.countP_append, trays,
    stagePurged, trackPurged, purged, purged, List.length_map, List.length_map, Config.counterMax]
  split <;> split <;> omega

theorem runClear_bins {b : Nat} (low : 1 ≤ b) (high : b ≤ 16) : binRec b (runClear s).1 =
    if (binRec b s).state = .opened then { binRec b s with state := .full, count := 0 } else binRec b s := by
  have same : binRec b (judgeHeld (purgedLine s)) = binRec b s := by simp only [binRec, judged_presort]
  have listed : b ∈ openBins s ↔ (binRec b s).state = .opened := by
    have all : b ∈ allBins := by
      interval_cases b <;> decide
    simp [openBins, all]
  obtain ⟨t, closed, -, clears⟩ := runClear_spec s
  have bins := closed.bins b low high
  simp only [listed, same] at bins
  rw [← bins, clears]
  simp [clearRest, binRec, putGroups]

theorem runClear_groups {g : Nat} (inside : g < 64) : groupRec g (runClear s).1 = (groupRec g s).cleared := by
  have groups : (runClear s).1.presort.groups = vmap GroupRec.cleared s.presort.groups := by
    obtain ⟨t, -, -, clears⟩ := runClear_spec s
    simp [clears, clearRest, putGroups, clearedGroups]
  rw [groupRec, groups, vget_vmap _ _ inside]
  rfl

theorem runClear_stage : (runClear s).1.stage = Stage.cold := by
  simp [runClear_eq, clearRest, purgedLine, stageRunClear_stage]

theorem runClear_track : (runClear s).1.track =
    { s.track with recs := s.track.recs.map PocketRec.fresh, envCount := 0, calCount := 0, gateCount := 0, sortCount := 0 } := by
  rw [← judged_track]
  simp [runClear_eq, clearRest]

theorem runClear_tables : (runClear s).1.tables = { s.tables with staged := Staged.none } := by
  simp [runClear_eq, clearRest, purgedLine]

theorem runClear_pins : (runClear s).1.pins = s.pins := by simp [runClear_eq, clearRest, purgedLine]

theorem runClear_noticeMask : (runClear s).1.loop.noticeMask = s.loop.noticeMask := by simp [runClear_eq, clearRest, purgedLine]

theorem runClear_feeders {k : Nat} (low : 1 ≤ k) (high : k ≤ 12) :
    feederRec k (runClear s).1 = { feederRec k s with misses := 0, timing := 0 } := by
  have recs : (runClear s).1.feeders.recs = vmap (fun r => { r with misses := 0, timing := 0 }) s.feeders.recs := by
    simp [runClear_eq, clearRest, feedersRunClear, purgedLine]
  rw [feederRec, recs, vget_vmap _ _ (by omega)]
  rfl

/-- A stopped line is HALTED once its sets are purged, from PAUSED by a change with cause 0, and GROUP EXHAUSTED stands as it
did (R146, R162). -/
theorem judged_line (stopped : s.line.state = .halted ∨ s.line.state = .paused) :
    (judgeHeld (purgedLine s)).line.state = .halted ∧
    (judgeHeld (purgedLine s)).line.prev = (if s.line.state = .paused then .paused else s.line.prev) ∧
    (judgeHeld (purgedLine s)).line.lastCause = (if s.line.state = .paused then 0 else s.line.lastCause) ∧
    latch .groupExhausted (judgeHeld (purgedLine s)) = latch .groupExhausted s := by
  have line : (purgedLine s).line = s.line := by simp [purgedLine]
  have same : latch .groupExhausted (purgedLine s) = latch .groupExhausted s := latch_of _ (by rw [line])
  rcases stopped with halted | paused
  · rw [judgeHeld_of_halted (by rw [line, halted]), line, same]
    simp [halted]
  · obtain ⟨prev, cause, -⟩ := setLine_record (purgedLine s) .halted 0
    rw [judgeHeld_of_paused (by rw [line, paused]) (held_purgedLine s), prev, cause, line, paused,
      latch_setLine _ _ _ (by decide) (by decide), same]
    exact ⟨(setLine_drive ..).1, rfl, rfl, rfl⟩

/-- Stages 4 and 5 leave the line's state and its last change, and lower GROUP EXHAUSTED (R144, R162). -/
theorem clearRest_lower (u : State) :
    (clearRest (lower .groupExhausted u)).line.state = u.line.state ∧
    (clearRest (lower .groupExhausted u)).line.prev = u.line.prev ∧
    (clearRest (lower .groupExhausted u)).line.lastCause = u.line.lastCause ∧
    latch .groupExhausted (clearRest (lower .groupExhausted u)) = { latch .groupExhausted u with
      state := if up .groupExhausted u then .latched else (latch .groupExhausted u).state } := by
  obtain ⟨prev, cause, -⟩ := lower_line u .groupExhausted
  have rest : latch .groupExhausted (clearRest (lower .groupExhausted u)) = latch .groupExhausted (lower .groupExhausted u) := rfl
  refine ⟨?_, prev, cause, ?_⟩
  · simp [clearRest, feedersRunClear]
  · rw [rest, latch_lower]
    by_cases raised : up .groupExhausted u = true <;> simp [raised]

theorem runClear_line (stopped : s.line.state = .halted ∨ s.line.state = .paused) :
    (runClear s).1.line.state = .halted ∧
    (runClear s).1.line.prev = (if s.line.state = .paused then .paused else s.line.prev) ∧
    (runClear s).1.line.lastCause = (if s.line.state = .paused then 0 else s.line.lastCause) ∧
    latch .groupExhausted (runClear s).1 = { latch .groupExhausted s with
      state := if up .groupExhausted s then .latched else (latch .groupExhausted s).state } := by
  obtain ⟨state, prev, cause, same⟩ := judged_line s stopped
  obtain ⟨t, closed, -, clears⟩ := runClear_spec s
  have line : (putGroups (clearedGroups s) t).line = (judgeHeld (purgedLine s)).line :=
    (putGroups_line ..).trans closed.line
  have latched : latch .groupExhausted (putGroups (clearedGroups s) t) = latch .groupExhausted s := (latch_of _ (by rw [line])).trans same
  obtain ⟨state', prev', cause', lowered⟩ := clearRest_lower (putGroups (clearedGroups s) t)
  rw [line] at state' prev' cause'
  rw [up, latched] at lowered
  rw [clears]
  exact ⟨state'.trans state, prev'.trans prev, cause'.trans cause, lowered⟩

end RunClear

theorem purgedCount_eq (s : State) : purgedCount s = (stagePurged s).length + (trackPurged s.track.recs).length := by
  have slot (x : Option SetRec) : bit x.isSome = x.toList.length := by cases x <;> rfl
  simp [purgedCount, slot, stagePurged, trackPurged, List.length_filterMap_eq_countP]

theorem clearRunHandler_of_stopped (c : Cell) {s : State} (stopped : s.line.state = .halted ∨ s.line.state = .paused) :
    clearRunHandler c s = ((runClear s).1, one .accepted (beBytes 2 ((stagePurged s).length + (trackPurged s.track.recs).length) ++
      beBytes 1 (openBins s).length ++ beBytes 2 s.acct.queue.length)) := by
  have count : (runClear s).2 = (openBins s).length := by
    obtain ⟨t, -, -, clears⟩ := runClear_spec s
    rw [clears]
  rcases stopped with line | line <;> simp [clearRunHandler, line, stoppedLine, count, purgedCount_eq]

theorem clearRunHandler_of_moving (c : Cell) {s : State} (notHalted : s.line.state ≠ .halted) (notPaused : s.line.state ≠ .paused) :
    clearRunHandler c s = (s, one .state [BitVec.ofNat 8 (lineCode s.line.state)]) := by
  have moving : stoppedLine s.line.state = false := by
    cases line : s.line.state <;> simp_all [stoppedLine]
  simp [clearRunHandler, moving, beBytes_one]

/-- Settles O50: the accepted run clear block by block, from the stages of R170. -/
theorem clearRunEmptiesTheLine : Obligations.ClearRunEmptiesTheLine := by
  intro c s takes stage track closed trays
  have records : runClearRecords (handed c s) = stage ++ track ++ trays := rfl
  have joined := runClear_outcomes (handed c s)
  have tracks := runClear_track (handed c s)
  refine ⟨fun notHalted notPaused => run_request_of_handler takes (clearRunHandler_of_moving c notHalted notPaused), fun stopped =>
    ⟨(runClear (handed c s)).1, run_request_of_handler takes (clearRunHandler_of_stopped (s := handed c s) c stopped), ?_⟩⟩
  obtain ⟨state, prev, cause, lowered⟩ := runClear_line (handed c s) stopped
  have recs : (runClear (handed c s)).1.outcomes.recs = s.outcomes.recs ++ stage ++ track ++ trays := by
    rw [joined, joinedAll_recs, records, ← List.append_assoc, ← List.append_assoc]
    rfl
  have fetched : (runClear (handed c s)).1.outcomes.fetched = s.outcomes.fetched := by
    rw [joined, joinedAll_fetched]
    rfl
  have groups {g : Nat} (inside : g < 64) : groupRec g (runClear (handed c s)).1 = { groupRec g s with
      index := 0, tray := 1, state := if (groupRec g s).rotation = [] then .unused else .active } := by
    rw [runClear_groups _ inside]
    simp only [GroupRec.cleared, List.isEmpty_iff]
    rfl
  exact ⟨recs, fetched, fun k low high => runClear_counters (handed c s) low high, runClear_stage _, rfl,
    congrArg TrackUnit.recs tracks, congrArg TrackUnit.envCount tracks, congrArg TrackUnit.calCount tracks,
    congrArg TrackUnit.gateCount tracks, congrArg TrackUnit.sortCount tracks, runClear_tables _, state, rfl, rfl, rfl, prev, cause,
    lowered, fun b low high => runClear_bins (handed c s) low high, fun g inside => groups inside,
    fun k low high => runClear_feeders (handed c s) low high, runClear_pins _, runClear_noticeMask _⟩

end Sys2Proof.Machine
end

section
/-! The command at the front of the queue (O1). -/

namespace Sys2Proof.Machine

/-- Settles O1: the queue is not empty, so the step takes its first branch, that of a command to run. -/
theorem stepRunsFront : Obligations.StepRunsFront := by
  intro c rest s front
  simp only [step, front]

end Sys2Proof.Machine
end
